-- ==== Sys2Proof/Word.lean ====
section
/-! DEFINITION. The machine's words and their plainest arithmetic. -/

namespace Sys2Proof

/-- A 64-bit word of the machine. -/
abbrev Word := BitVec 64

/-- A byte of memory. -/
abbrev Byte := BitVec 8

/-- A 32-bit slot word of a bundle (R56). -/
abbrev SlotWord := BitVec 32

end Sys2Proof
end

