-- ==== Sys2Proof/Config.lean ====
section
/-! DEFINITION. What the spec leaves open: constants without a body, so that nothing can be proved of their values
(log 8). -/

namespace Sys2Proof.Config

/-- Free values. The state's counter `free` numbers the values drawn. -/
opaque freeValue : Nat → BitVec 64

/-- The answers of SPDM (R398): by request, by how many requests came before it, by the identity key, and with what the request
is about, the challenge's nonce or the measurements. -/
opaque spdm : Nat → Nat → List (BitVec 8) → List (BitVec 8) → List (BitVec 8)

/-- ECDSA P-384 with SHA-384 (R390): the bytes and the 96 bytes of a signature pass, under the public key whose SHA-384 digest is
given (log 7). -/
opaque ecdsaPasses : BitVec 384 → List (BitVec 8) → List (BitVec 8) → Bool

/-- LMS_SHA256_M32_H10 with LMOTS_SHA256_N32_W4 (R390): the bytes and the 2508 bytes of a signature pass, under the public key whose
SHA-256 digest is given (log 7). -/
opaque lmsPasses : BitVec 256 → List (BitVec 8) → List (BitVec 8) → Bool

/-- The verdict of the two algorithms on a monitor image, by the monitor signing keys of the verified image and the image's bytes
(R266, R391; log 7). -/
opaque monitorPasses : List (BitVec 8) → List (BitVec 8) → Bool

/-- SHA-384 (R398), and the measurement of the boot ROM. -/
opaque sha384 : List (BitVec 8) → List (BitVec 8)
opaque romDigest : List (BitVec 8)

/-- The identity key that the crook derives at boot (R398), by the image's digest. -/
opaque identityKey : List (BitVec 8) → List (BitVec 8)

/-- Sensor readings (R398), by sensor and by how many values have been drawn. -/
opaque sensor : Nat → Nat → BitVec 32

end Sys2Proof.Config
end

