-- ==== Sys2Proof/Machine/Numerics.lean ====
section
/-! DEFINITION. Number formats and arithmetic (02_arithmetic R26 to R52).

A number is decoded to `Num`, an exact dyadic value; each operation computes the exact result, and `Num.round`
rounds it once to a format. A quotient or a square root is carried with more bits than any format keeps and a sticky
bit below them, which rounds as the exact value does. Nothing here touches the state of the machine. -/

namespace Sys2Proof.Machine

/-! ### Exception bits (R29) -/

/-- The five sticky bits: 4 NV, 3 DZ, 2 OF, 1 UF, 0 NX. -/
abbrev FFlags := BitVec 5

/-- NV: invalid. -/
def flagNV : FFlags := 16
/-- DZ: divide by zero. -/
def flagDZ : FFlags := 8
/-- OF: overflow. -/
def flagOF : FFlags := 4
/-- UF: underflow. -/
def flagUF : FFlags := 2
/-- NX: inexact. -/
def flagNX : FFlags := 1

/-- A bit when a condition holds. -/
def flagIf (c : Bool) (f : FFlags) : FFlags := if c then f else 0

/-! ### Formats and values (R26) -/

/-- What the code space above the normal values holds. -/
inductive FmtTop where
  /-- Infinities and NaNs at the all-ones exponent. -/
  | ieee
  /-- E4M3: the all-ones code is NaN, there is no infinity. -/
  | e4m3
  /-- E2M1: neither. -/
  | e2m1
  deriving DecidableEq, Repr

/-- A floating-point format. -/
structure Fmt where
  /-- Width of the exponent field. -/
  eb : Nat
  /-- Width of the fraction field. -/
  mb : Nat
  /-- Bias of the exponent. -/
  bias : Nat
  /-- What stands at the top of the code space. -/
  top : FmtTop
  deriving DecidableEq, Repr

/-- binary64. -/
def fp64 : Fmt := ⟨11, 52, 1023, .ieee⟩
/-- binary32. -/
def fp32 : Fmt := ⟨8, 23, 127, .ieee⟩
/-- binary16. -/
def fp16 : Fmt := ⟨5, 10, 15, .ieee⟩
/-- BF16. -/
def bf16 : Fmt := ⟨8, 7, 127, .ieee⟩
/-- FP8 E5M2. -/
def e5m2 : Fmt := ⟨5, 2, 15, .ieee⟩
/-- FP8 E4M3. -/
def e4m3 : Fmt := ⟨4, 3, 7, .e4m3⟩
/-- E2M1. -/
def e2m1 : Fmt := ⟨2, 1, 1, .e2m1⟩

/-- The exponent of the unit of a subnormal, the least power of two of the format. -/
def Fmt.qmin (f : Fmt) : Int := 1 - (f.bias : Int) - f.mb

/-- The exponent of the largest finite value. -/
def Fmt.emax (f : Fmt) : Int :=
  match f.top with
  | .ieee => (2 ^ f.eb : Nat) - 2 - (f.bias : Int)
  | .e4m3 => 8
  | .e2m1 => 2

/-- The significand of the largest finite value, as an integer of mb + 1 bits. -/
def Fmt.maxSig (f : Fmt) : Nat :=
  match f.top with
  | .ieee => 2 ^ (f.mb + 1) - 1
  | .e4m3 => 14
  | .e2m1 => 3

/-- The sign bit of the format, set or clear. -/
def Fmt.sign (f : Fmt) (neg : Bool) : Nat := if neg then 2 ^ (f.eb + f.mb) else 0

/-- The code of the largest finite value of a sign. -/
def Fmt.largest (f : Fmt) (neg : Bool) : Nat :=
  f.sign neg + (match f.top with | .ieee => 2 ^ (f.eb + f.mb) - 2 ^ f.mb - 1 | .e4m3 => 0x7E | .e2m1 => 7)

/-- The canonical NaN (R28). E2M1 has none, and no conversion to it asks for one. -/
def Fmt.nan (f : Fmt) : Nat :=
  match f.top with
  | .ieee => 2 ^ (f.eb + f.mb) - 2 ^ f.mb + 2 ^ (f.mb - 1)
  | .e4m3 => 0x7F
  | .e2m1 => 0

/-- The code that an infinity takes: E4M3 delivers 0x7F (R38). -/
def Fmt.inf (f : Fmt) (neg : Bool) : Nat :=
  match f.top with
  | .ieee => f.sign neg + (2 ^ (f.eb + f.mb) - 2 ^ f.mb)
  | .e4m3 => 0x7F
  | .e2m1 => f.largest neg

/-- An exact value: NaN (signalling or quiet), an infinity, or (−1)^neg · m · 2^e. -/
inductive Num where
  | nan (signalling : Bool)
  | inf (neg : Bool)
  | fin (neg : Bool) (m : Nat) (e : Int)
  deriving DecidableEq, Repr

/-- The value of a code of a format (R26, R28). -/
def Fmt.decode (f : Fmt) (x : Nat) : Num :=
  let frac := x % 2 ^ f.mb
  let ex := x / 2 ^ f.mb % 2 ^ f.eb
  let neg := decide (x / 2 ^ (f.eb + f.mb) % 2 = 1)
  if f.top = .ieee ∧ ex = 2 ^ f.eb - 1 then
    if frac = 0 then .inf neg else .nan (decide (frac < 2 ^ (f.mb - 1)))
  else if f.top = .e4m3 ∧ ex = 15 ∧ frac = 7 then .nan false
  else if ex = 0 then .fin neg frac f.qmin
  else .fin neg (2 ^ f.mb + frac) (f.qmin + (ex - 1 : Nat))

/-- The value of an integer. -/
def Num.ofInt (i : Int) : Num := .fin (decide (i < 0)) i.natAbs 0

/-- A signalling NaN, or not. -/
def Num.signals : Num → Bool
  | .nan s => s
  | _ => false

/-- NaN or not. -/
def Num.isNan : Num → Bool
  | .nan _ => true
  | _ => false

/-- A finite value. -/
def Num.isFin : Num → Bool
  | .fin _ _ _ => true
  | _ => false

/-- A zero of either sign. -/
def Num.isZero : Num → Bool
  | .fin _ m _ => m == 0
  | _ => false

/-- The sign of a value. -/
def Num.isNeg : Num → Bool
  | .nan _ => false
  | .inf n => n
  | .fin n _ _ => n

/-- The sign inverted. -/
def Num.negate : Num → Num
  | .nan s => .nan s
  | .inf n => .inf (!n)
  | .fin n m e => .fin (!n) m e

/-- The sign cleared. -/
def Num.abs : Num → Num
  | .nan s => .nan s
  | .inf _ => .inf false
  | .fin _ m e => .fin false m e

/-! ### Rounding (R32, R34, R38, R51) -/

/-- The rounding modes of R32. -/
inductive RMode where
  | rne | rtz | rup | rdn | rsto
  deriving DecidableEq, Repr

/-- The mode of a 3-bit code; the reserved codes are refused before they get here (R32). -/
def RMode.ofCode : Nat → RMode
  | 1 => .rtz
  | 2 => .rup
  | 3 => .rdn
  | 4 => .rsto
  | _ => .rne

/-- Whether the magnitude `lo + r / 2^sh` (in units) goes up; `w` is the drawn word of R34. -/
def roundsUp (md : RMode) (neg : Bool) (lo r sh w : Nat) : Bool :=
  if r = 0 then false
  else match md with
    | .rne => decide (2 ^ sh < 2 * r) || (decide (2 * r = 2 ^ sh) && lo % 2 == 1)
    | .rtz => false
    | .rup => !neg
    | .rdn => neg
    | .rsto => decide (2 ^ 32 ≤ r * 2 ^ 32 / 2 ^ sh + w)

/-- The magnitude m · 2^e in units of 2^q, rounded, and whether anything was lost. A shift past every bit of `m` is
cut short: what is left of the value then lies below 2^−39 of a unit, and rounds the same in every mode. -/
def toUnits (md : RMode) (neg : Bool) (m : Nat) (e q : Int) (w : Nat) : Nat × Bool :=
  if q ≤ e then (m * 2 ^ (e - q).toNat, false)
  else
    let sh := min (q - e).toNat (Nat.log2 m + 40)
    let lo := m / 2 ^ sh
    let r := m % 2 ^ sh
    (lo + (if roundsUp md neg lo r sh w then 1 else 0), r != 0)

/-- What an overflow delivers (R38). -/
def Fmt.overflow (f : Fmt) (md : RMode) (sat neg : Bool) : Nat :=
  if sat || f.top = .e2m1 then f.largest neg
  else if f.top = .e4m3 then 0x7F
  else match md with
    | .rne => f.inf neg
    | .rsto => f.inf neg
    | .rtz => f.largest neg
    | .rup => if neg then f.largest neg else f.inf neg
    | .rdn => if neg then f.inf neg else f.largest neg

/-- Round a finite value. Tininess is judged after rounding with an unbounded exponent, by the same mode and word
(R29, R34). -/
def Fmt.roundFin (f : Fmt) (md : RMode) (sat neg : Bool) (m : Nat) (e : Int) (w : Nat) : Nat × FFlags :=
  if m = 0 then (f.sign neg, 0)
  else
    let top : Int := (Nat.log2 m : Int) + e
    if f.emax < top then (f.overflow md sat neg, flagOF ||| flagNX)
    else
      let q := max (top - f.mb) f.qmin
      let (n, lost) := toUnits md neg m e q w
      if q = f.emax - f.mb ∧ f.maxSig < n then (f.overflow md sat neg, flagOF ||| flagNX)
      else
        let emin : Int := f.qmin + f.mb
        let tiny := decide (top + 1 < emin) ||
          (decide (top + 1 = emin) && decide ((toUnits md neg m e (top - f.mb) w).1 < 2 ^ (f.mb + 1)))
        (f.sign neg + (q - f.qmin).toNat * 2 ^ f.mb + n, flagIf lost flagNX ||| flagIf (lost && tiny) flagUF)

/-- Round of R51 for the result of an operation. An infinite result of a finite operation is delivered as it is, and
SAT does not apply to it (R38); a NaN is canonical (R28), and a signalling one sets NV. -/
def Num.round (f : Fmt) (md : RMode) (sat : Bool) (w : Nat) : Num → Nat × FFlags
  | .nan s => (f.nan, flagIf s flagNV)
  | .inf neg => (f.inf neg, 0)
  | .fin neg m e => f.roundFin md sat neg m e w

/-- Round of R51 for a conversion: an infinite operand follows the table of R38. Where that gives the largest finite value it names
no exception bit, and none is set (log 107). -/
def Num.convert (f : Fmt) (md : RMode) (sat : Bool) (w : Nat) (x : Num) : Nat × FFlags :=
  match x with
  | .inf neg =>
      if sat || f.top = .e2m1 then (f.largest neg, 0)
      else if f.top = .e4m3 then (0x7F, flagNV)
      else (f.inf neg, 0)
  | _ => x.round f md sat w

/-- Round in RNE, without SAT and without a draw. -/
def Num.rne (f : Fmt) (x : Num) : Nat × FFlags := x.round f .rne false 0

/-- The integer a finite value rounds to, and whether anything was lost. -/
def Num.toInt (md : RMode) (w : Nat) (neg : Bool) (m : Nat) (e : Int) : Int × Bool :=
  if m = 0 then (0, false)
  else
    let (n, lost) := toUnits md neg m e 0 w
    (if neg then -(n : Int) else n, lost)

/-- Conversion to a two's complement integer of `n` bits (R33), as an exact integer. -/
def Num.toIntN (n : Nat) (md : RMode) (w : Nat) : Num → Int × FFlags
  | .nan _ => (0, flagNV)
  | .inf neg => (if neg then -(2 ^ (n - 1) : Int) else 2 ^ (n - 1) - 1, flagNV)
  | .fin neg m e =>
      -- past 2^64 every mode saturates: the shift below stays small
      if m ≠ 0 ∧ (64 : Int) < (Nat.log2 m : Int) + e then
        (if neg then -(2 ^ (n - 1) : Int) else 2 ^ (n - 1) - 1, flagNV)
      else
        let (i, lost) := Num.toInt md w neg m e
        if i < -(2 ^ (n - 1) : Int) then (-(2 ^ (n - 1) : Int), flagNV)
        else if (2 ^ (n - 1) - 1 : Int) < i then (2 ^ (n - 1) - 1, flagNV)
        else (i, flagIf lost flagNX)

/-! ### Exact arithmetic (R27, R28) -/

/-- The signed significand of a finite value in units of 2^q, q ≤ e. -/
def signedAt (neg : Bool) (m : Nat) (e q : Int) : Int :=
  let n : Int := m * 2 ^ (e - q).toNat
  if neg then -n else n

/-- The exact sum, and NV where it is invalid. The sum of two zeros of opposite sign and x − x are +0 (R27). -/
def Num.add (a b : Num) : Num × FFlags :=
  match a, b with
  | .nan s, .nan t => (.nan false, flagIf (s || t) flagNV)
  | .nan s, _ => (.nan false, flagIf s flagNV)
  | _, .nan t => (.nan false, flagIf t flagNV)
  | .inf s, .inf t => if s = t then (.inf s, 0) else (.nan false, flagNV)
  | .inf s, _ => (.inf s, 0)
  | _, .inf t => (.inf t, 0)
  | .fin s m e, .fin t n g =>
      if m = 0 ∧ n = 0 then (.fin (s && t) 0 0, 0)
      else
        let q := min e g
        let i := signedAt s m e q + signedAt t n g q
        (.fin (decide (i < 0)) i.natAbs q, 0)

/-- The exact difference. -/
def Num.sub (a b : Num) : Num × FFlags := a.add b.negate

/-- The exact product; ∞ · 0 is invalid. -/
def Num.mul (a b : Num) : Num × FFlags :=
  match a, b with
  | .nan s, .nan t => (.nan false, flagIf (s || t) flagNV)
  | .nan s, _ => (.nan false, flagIf s flagNV)
  | _, .nan t => (.nan false, flagIf t flagNV)
  | .inf s, .inf t => (.inf (s != t), 0)
  | .inf s, .fin t n _ => if n = 0 then (.nan false, flagNV) else (.inf (s != t), 0)
  | .fin s m _, .inf t => if m = 0 then (.nan false, flagNV) else (.inf (s != t), 0)
  | .fin s m e, .fin t n g => (.fin (s != t) (m * n) (e + g), 0)

/-- a · b + c, exactly. ∞ · 0 sets NV even when `c` is a quiet NaN (R111). -/
def Num.fma (a b c : Num) : Num × FFlags :=
  let p := a.mul b
  let s := p.1.add c
  (s.1, p.2 ||| s.2)

/-- The exact quotient up to a sticky bit; x/0 with finite x ≠ 0 sets DZ, 0/0 and ∞/∞ set NV (R110). -/
def Num.div (a b : Num) : Num × FFlags :=
  match a, b with
  | .nan s, .nan t => (.nan false, flagIf (s || t) flagNV)
  | .nan s, _ => (.nan false, flagIf s flagNV)
  | _, .nan t => (.nan false, flagIf t flagNV)
  | .inf _, .inf _ => (.nan false, flagNV)
  | .inf s, .fin t _ _ => (.inf (s != t), 0)
  | .fin s _ _, .inf t => (.fin (s != t) 0 0, 0)
  | .fin s m e, .fin t n g =>
      if n = 0 then (if m = 0 then (.nan false, flagNV) else (.inf (s != t), flagDZ))
      else
        let k := Nat.log2 n + 130
        let x := m * 2 ^ k
        let q := 2 * (x / n) + (if x % n = 0 then 0 else 1)
        (.fin (s != t) q (e - g - k - 1), 0)

/-- The integer square root of `n` below 2^k, bit by bit from bit k − 1. -/
def isqrtBits (n : Nat) : Nat → Nat → Nat
  | 0, r => r
  | k + 1, r =>
      let t := r + 2 ^ k
      isqrtBits n k (if t * t ≤ n then t else r)

/-- ⌊√n⌋. -/
def isqrt (n : Nat) : Nat := isqrtBits n (Nat.log2 n / 2 + 1) 0

/-- The square root up to a sticky bit; √−0 = −0, a < 0 sets NV (R110). -/
def Num.sqrt (a : Num) : Num × FFlags :=
  match a with
  | .nan s => (.nan false, flagIf s flagNV)
  | .inf true => (.nan false, flagNV)
  | .inf false => (.inf false, 0)
  | .fin s m e =>
      if m = 0 then (.fin s 0 0, 0)
      else if s then (.nan false, flagNV)
      else
        let odd := e % 2 = 1
        let x := (if odd then 2 * m else m) * 2 ^ 260
        let r := isqrt x
        (.fin false (2 * r + (if r * r = x then 0 else 1)) ((if odd then e - 1 else e) / 2 - 131), 0)

/-! ### Order, minimum and maximum (R30) -/

/-- The order of two values that are not NaN; zeros are equal. -/
def Num.cmp (a b : Num) : Ordering :=
  match a, b with
  | .inf s, .inf t => if s = t then .eq else if s then .lt else .gt
  | .inf s, _ => if s then .lt else .gt
  | _, .inf t => if t then .gt else .lt
  | .fin s m e, .fin t n g =>
      let q := min e g
      compare (signedAt s m e q) (signedAt t n g q)
  | _, _ => .eq

/-- The relations of a floating compare. -/
inductive Rel where
  | eq | lt | le | ne
  deriving DecidableEq, Repr

/-- Whether a relation holds, with NV for a signalling NaN only (R30). -/
def Num.rel (r : Rel) (a b : Num) : Bool × FFlags :=
  let nv := flagIf (a.signals || b.signals) flagNV
  if a.isNan || b.isNan then (r == .ne, nv)
  else
    let o := a.cmp b
    (match r with
      | .eq => o == .eq
      | .lt => o == .lt
      | .le => o != .gt
      | .ne => o != .eq, nv)

/-- maximumNumber or minimumNumber of R30; −0 lies below +0. -/
def Num.minMax (max : Bool) (a b : Num) : Num × FFlags :=
  let nv := flagIf (a.signals || b.signals) flagNV
  if a.isNan && b.isNan then (.nan false, nv)
  else if a.isNan then (b, nv)
  else if b.isNan then (a, nv)
  else
    let below := match a.cmp b with
      | .lt => true
      | .gt => false
      | .eq => a.isNeg
    (if below != max then a else b, nv)

/-! ### Estimates (R130) -/

/-- RNE10 of 1 / (1 + (i + 0.5)/256), times 1024: a value in (1/2, 1) keeps 10 significant bits. No tie arises. -/
def rcpTable (i : Nat) : Nat := (2 * 1024 * 512 / (513 + 2 * i) + 1) / 2

/-- RNE10 of 1 / √(1 + (i + 0.5)/64), times 1024. -/
def rsqTable (i : Nat) : Nat := (isqrt (4 * 2 ^ 20 * 128 / (129 + 2 * i)) + 1) / 2

/-- The largest t below 2^k (added to r) with t^512 ≤ n. -/
def root512Bits (n : Nat) : Nat → Nat → Nat
  | 0, r => r
  | k + 1, r =>
      let t := r + 2 ^ k
      root512Bits n k (if t ^ 512 ≤ n then t else r)

/-- RNE10 of 2^((i + 0.5)/256), times 512: a value in [1, 2). -/
def exp2Table (i : Nat) : Nat := (root512Bits (1024 ^ 512 * 2 ^ (2 * i + 1)) 12 0 + 1) / 2

/-- log2(1 + i/256) in units of 2^−12, rounded by RNE. -/
def log2Table (i : Nat) : Nat := (Nat.log2 ((256 + i) ^ 8192) - 65536 + 1) / 2

/-- ⌊256 (m − 1)⌋ for the significand of a magnitude. -/
def sigIndex (m : Nat) : Nat :=
  let l := Nat.log2 m
  (if 8 ≤ l then m / 2 ^ (l - 8) else m * 2 ^ (8 - l)) - 256

/-- VRCPE. -/
def estRcp : Num → Num × FFlags
  | .nan s => (.nan false, flagIf s flagNV)
  | .inf n => (.fin n 0 0, 0)
  | .fin n m e =>
      if m = 0 then (.inf n, flagDZ)
      else (.fin n (rcpTable (sigIndex m)) (-((Nat.log2 m : Int) + e) - 10), 0)

/-- VRSQE. -/
def estRsq : Num → Num × FFlags
  | .nan s => (.nan false, flagIf s flagNV)
  | .inf true => (.nan false, flagNV)
  | .inf false => (.fin false 0 0, 0)
  | .fin n m e =>
      if m = 0 then (.inf n, flagDZ)
      else if n then (.nan false, flagNV)
      else
        let t : Int := (Nat.log2 m : Int) + e
        let odd := t % 2 = 1
        let j := (if odd then t - 1 else t) / 2
        -- 64 · m2, floored
        let l := Nat.log2 m
        let k := if odd then 7 else 6
        let x := if k ≤ l then m / 2 ^ (l - k) else m * 2 ^ (k - l)
        (.fin false (rsqTable (x - 64)) (-j - 10), 0)

/-- VEXP2E. -/
def estExp2 : Num → Num × FFlags
  | .nan s => (.nan false, flagIf s flagNV)
  | .inf true => (.fin false 0 0, 0)
  | .inf false => (.inf false, 0)
  | .fin n m e =>
      if m = 0 then (.fin false 1 0, 0)
      else
        -- ⌊256 x⌋; below −256 bits the fraction only says which side of an integer x lies on
        let x : Int :=
          if 0 ≤ e then signedAt n m e 0 * 256
          else
            let sh := min (-e).toNat (Nat.log2 m + 300)
            let v : Int := m * 256
            (if n then -v else v) / (2 ^ sh : Nat)
        let j := x / 256
        (.fin false (exp2Table (x % 256).toNat) (j - 9), 0)

/-- VLOG2E. -/
def estLog2 : Num → Num × FFlags
  | .nan s => (.nan false, flagIf s flagNV)
  | .inf true => (.nan false, flagNV)
  | .inf false => (.inf false, 0)
  | .fin n m e =>
      if m = 0 then (.inf true, flagDZ)
      else if n then (.nan false, flagNV)
      else
        let t : Int := (Nat.log2 m : Int) + e
        let r : Int := t * 4096 + log2Table (sigIndex m)
        (.fin (decide (r < 0)) r.natAbs (-12), 0)

/-! ### Block formats (R39 to R42) -/

/-- ⌊log2⌋ of a finite non-zero magnitude. -/
def Num.log2 : Num → Int
  | .fin _ m e => (Nat.log2 m : Int) + e
  | _ => 0

/-- A value times 2^k, exactly. -/
def Num.scale (k : Int) : Num → Num
  | .fin n m e => .fin n m (e + k)
  | x => x

/-- The larger magnitude. -/
def maxMag (a b : Num) : Num := if a.abs.cmp b.abs = .lt then b.abs else a.abs

/-- The largest magnitude of a block of finite values. -/
def blockMax (xs : List Num) : Num := xs.foldl maxMag (.fin false 0 0)

/-- Any element NaN or infinite. -/
def blockBad (xs : List Num) : Bool := xs.any (fun x => !x.isFin)

/-- Any element NaN. -/
def blockNan (xs : List Num) : Bool := xs.any Num.isNan

/-- emax of an MX element format (R40). -/
def mxEmax (f : Fmt) : Int := if f.top = .e4m3 then 8 else if f.top = .e2m1 then 2 else 15

/-- Clamp to a range (Sat of R52). -/
def clamp (x lo hi : Int) : Int := if x < lo then lo else if hi < x then hi else x

/-- The E8M0 scale byte of a block (R40). -/
def mxScale (f : Fmt) (xs : List Num) : Nat :=
  if blockBad xs then 255
  else
    let x := blockMax xs
    if x.isZero then 0 else (clamp (x.log2 - mxEmax f + 127) 0 254).toNat

/-- The element codes of a block under its scale byte, with the word drawn for each element (R36, R40). -/
def mxCodes (f : Fmt) (md : RMode) (sc : Nat) (ws : List Nat) (xs : List Num) : List Nat :=
  if sc = 255 then xs.map (fun _ => 0)
  else (xs.zip ws).map (fun p =>
    if p.1.isZero ∧ blockMax xs = .fin false 0 0 then 0
    else ((p.1.scale (127 - (sc : Int))).convert f md true p.2).1)

/-- The value of an MX element under its scale byte (R39). -/
def mxDecode (f : Fmt) (sc code : Nat) : Num :=
  if sc = 255 then .nan false else (f.decode code).scale ((sc : Int) - 127)

/-- The magnitudes of codes 0 to 7 of K4 types 1 to 3, in units of 1/8 (R41). -/
def k4Mags : Nat → List Nat
  | 1 => [0, 4, 8, 12, 16, 24, 32, 48]
  | 2 => [0, 1, 2, 4, 8, 16, 32, 64]
  | _ => [0, 8, 16, 24, 32, 64, 128, 256]

/-- Mt of R42. -/
def k4Max : Nat → Nat
  | 0 => 7
  | 1 => 6
  | 2 => 8
  | _ => 32

/-- The value of a K4 code under a scale byte (R41). -/
def k4Decode (sc code : Nat) : Num :=
  let e := sc % 64
  let t := sc / 64 % 4
  if e = 63 then .nan false
  else if t = 0 then
    (Num.ofInt (if code < 8 then (code : Int) else (code : Int) - 16)).scale ((e : Int) - 31)
  else if code = 8 then .fin false 0 0
  else .fin (decide (8 < code)) ((k4Mags t).getD (code % 8) 0) ((e : Int) - 34)

/-- The six-bit scale field of a K4 block (R42). -/
def k4Scale (t : Nat) (xs : List Num) : Nat :=
  if blockBad xs then 63
  else
    let x := blockMax xs
    if x.isZero then 0
    else ((List.range 63).find? (fun (e : Nat) => x.cmp (.fin false (k4Max t) ((e : Int) - 31)) != .gt)).getD 62

/-- The position of the greatest member of a rising list that is not above |x| in units of 1/8. -/
def k4Below (x : Num) (ms : List Nat) : Nat :=
  (ms.filter (fun v => (Num.fin false v (-3)).cmp x != .gt)).length - 1

/-- One element rounded to a K4 code (R42), with the element's exception bits. -/
def k4Code (md : RMode) (t sc : Nat) (w : Nat) (x : Num) : Nat × FFlags :=
  let y := x.scale (31 - (sc : Int))
  let neg := y.isNeg
  let mag := y.abs
  let ms := if t = 0 then (List.range (if neg then 9 else 8)).map (· * 8) else k4Mags t
  let hiMost := ms.length - 1
  let top := Num.fin false (ms.getD hiMost 0) (-3)
  if mag.cmp top = .gt then
    (if t = 0 then (if neg then 8 else 7) else (if neg then 15 else 7), flagOF ||| flagNX)
  else
    let k := k4Below mag ms
    let lo := ms.getD k 0
    let hi := ms.getD (k + 1) 0
    -- mag − lo and hi − lo in one unit
    let (r, unit) : Nat × Nat := match mag with
      | .fin _ m e =>
          if -3 ≤ e then (m * 2 ^ (e + 3).toNat - lo, hi - lo)
          else
            let sh := min (-3 - e).toNat (Nat.log2 m + 80)
            (m - lo * 2 ^ sh, (hi - lo) * 2 ^ sh)
      | _ => (0, 1)
    let up := if r = 0 then false else match md with
      | .rne => decide (unit < 2 * r) || (decide (2 * r = unit) && k % 2 == 1)
      | .rtz => false
      | .rup => !neg
      | .rdn => neg
      | .rsto => decide (2 ^ 32 ≤ r * 2 ^ 32 / unit + w)
    let c := if up then k + 1 else k
    let code := if c = 0 then 0 else if t = 0 then (if neg then 16 - c else c) else (if neg then 8 + c else c)
    (code, flagIf (r != 0) flagNX ||| flagIf (c == 0 && r != 0) flagUF)

/-! ### Element types (R126) -/

/-- The floating format of an element type 4 to 9; none for the integers 0 to 3. -/
def typeFmt : Nat → Option Fmt
  | 4 => some fp16
  | 5 => some bf16
  | 6 => some fp32
  | 7 => some fp64
  | 8 => some e4m3
  | 9 => some e5m2
  | _ => none

/-- The width of an element type in bytes. -/
def typeBytes : Nat → Nat
  | 0 => 1
  | 1 => 2
  | 2 => 4
  | 3 => 8
  | 4 => 2
  | 5 => 2
  | 6 => 4
  | 7 => 8
  | _ => 1

/-- The two's complement value of the low `n` bits. -/
def signedOf (n x : Nat) : Int :=
  let y := x % 2 ^ n
  if y < 2 ^ (n - 1) then y else (y : Int) - 2 ^ n

/-- The `n`-bit code of an integer, modulo 2^n (R31). -/
def wrapTo (n : Nat) (i : Int) : Nat := (i % (2 ^ n : Int)).toNat

/-- One draw of a stochastic state register (R35): the new state, which is the word. -/
def drawWord (x : Nat) : Nat :=
  let a := x ^^^ (x * 2 ^ 13 % 2 ^ 32)
  let b := a ^^^ (a / 2 ^ 17)
  b ^^^ (b * 2 ^ 5 % 2 ^ 32)

/-- The words of `n` draws, and the state after them. -/
def drawWords : Nat → Nat → List Nat × Nat
  | 0, x => ([], x)
  | n + 1, x =>
      let w := drawWord x
      let r := drawWords n w
      (w :: r.1, r.2)

/-- The hash constants π0 to π7 (R48). -/
def hashPi : Nat → Nat
  | 0 => 0x00000001
  | 1 => 0x9E3779B1
  | 2 => 0xC2B2AE3D
  | 3 => 0x27D4EB2F
  | 4 => 0x165667B1
  | 5 => 0x85EBCA77
  | 6 => 0xCC9E2D51
  | _ => 0x1B873593

end Sys2Proof.Machine
end

