-- ==== Sys2Proof/Syntax.lean ====
section
/-! DEFINITION. The instructions: one constructor per row of spec/opcode_table.json.

The slot words (R66 to R75) carry their encoded fields, under the letters the table gives them; `w` is the
wait-policy bit B of R63. An instruction of a V or C slot also carries `e`, the engine its slot number gives
(0 for V0 and C0, 1 for V1 and C1): the word itself does not hold it.
The events carry what names the occurrence: `c` a core, `d` a die, `j` a port, `p` a queue slot, `k` an index,
`cl` a cluster, `pa` a physical address, `va` a virtual address, `id` a region.
The slot words without fields stand last: the compiler numbers constructors with fields in one byte. -/

namespace Sys2Proof

/-- What a DTB synchronisation message carries (R341, R396): the port that receives it, the sender's DTB, its hop count. -/
structure SyncMessage where
  port : Nat
  dtb : Nat
  hops : Nat
  deriving DecidableEq, Repr

/-- A control flit (R341): the SEQ that it acknowledges or refuses, and the receive credits of the classes from 0 on, in flits,
where it brings any. -/
structure ControlFlit where
  seq : Nat
  credits : List Nat := []
  deriving DecidableEq, Repr

/-- A data flit as a port receives it (R340, R342): its SEQ, and whether it passes CRC. -/
structure ReceivedFlit where
  seq : Nat
  good : Bool
  deriving DecidableEq, Repr

/-- Which access of host memory has failed, by a completion with UR or CA status or by a completion timeout (R363): of core c's
results, commands by token, and segment copies by half, or of a queue slot's packet, or of a kernel's record. -/
inductive HostAccess where
  | result (k : Nat)
  | command (tok : Nat)
  | segment (h : Nat)
  | packet (p idx : Nat)
  | kernel (k : Nat)
  deriving DecidableEq, Repr

/-- Every row of the table of operations and events. -/
inductive Instr where
  -- K slot (R67)
  /-- BR (R80). -/
  | br (d : BitVec 20)
  /-- BRP (R80). -/
  | brp (p : BitVec 4) (d : BitVec 20)
  /-- BRN (R80). -/
  | brn (p : BitVec 4) (d : BitVec 20)
  /-- CALL (R83). -/
  | call (d : BitVec 20)
  /-- CALLI (R83). -/
  | calli (a : BitVec 5) (i : BitVec 15)
  /-- JMPI (R81). -/
  | jmpi (a : BitVec 5) (i : BitVec 15)
  /-- JTAB (R87). -/
  | jtab (a : BitVec 5) (h : BitVec 4) (l : BitVec 12)
  /-- LOOP (R88). -/
  | loop (l : BitVec 1) (a : BitVec 5) (e : BitVec 12)
  /-- LOOPI (R88). -/
  | loopi (l : BitVec 1) (n : BitVec 8) (e : BitVec 12)
  /-- LPIPE (R92). -/
  | lpipe (l : BitVec 1) (a : BitVec 5) (s : BitVec 4) (e : BitVec 12)
  /-- LBRK (R91). -/
  | lbrk (l : BitVec 1)
  /-- TRAP (R98). -/
  | trap (i : BitVec 16)
  /-- EXIT (R319). -/
  | exit (i : BitVec 16)
  /-- ABORT (R320). -/
  | abort (i : BitVec 16)
  /-- BREAK (R385). -/
  | brk (i : BitVec 16)
  /-- SEGB (R301). -/
  | segb (s : BitVec 16)
  /-- SYSCALL (R100). -/
  | syscall (i : BitVec 16)
  -- S slot (R69)
  /-- ADD (R104). -/
  | add (w : Bool) (d : BitVec 5) (a : BitVec 5) (b : BitVec 5)
  /-- SUB (R104). -/
  | sub (w : Bool) (d : BitVec 5) (a : BitVec 5) (b : BitVec 5)
  /-- AND (R104). -/
  | and (w : Bool) (d : BitVec 5) (a : BitVec 5) (b : BitVec 5)
  /-- OR (R104). -/
  | or (w : Bool) (d : BitVec 5) (a : BitVec 5) (b : BitVec 5)
  /-- XOR (R104). -/
  | xor (w : Bool) (d : BitVec 5) (a : BitVec 5) (b : BitVec 5)
  /-- ANDN (R104). -/
  | andn (w : Bool) (d : BitVec 5) (a : BitVec 5) (b : BitVec 5)
  /-- SHL (R104). -/
  | shl (w : Bool) (d : BitVec 5) (a : BitVec 5) (b : BitVec 5)
  /-- SHR (R104). -/
  | shr (w : Bool) (d : BitVec 5) (a : BitVec 5) (b : BitVec 5)
  /-- SAR (R104). -/
  | sar (w : Bool) (d : BitVec 5) (a : BitVec 5) (b : BitVec 5)
  /-- ROL (R104). -/
  | rol (w : Bool) (d : BitVec 5) (a : BitVec 5) (b : BitVec 5)
  /-- MUL (R104). -/
  | mul (w : Bool) (d : BitVec 5) (a : BitVec 5) (b : BitVec 5)
  /-- MULH (R104). -/
  | mulh (w : Bool) (d : BitVec 5) (a : BitVec 5) (b : BitVec 5)
  /-- MULHU (R104). -/
  | mulhu (w : Bool) (d : BitVec 5) (a : BitVec 5) (b : BitVec 5)
  /-- DIV (R105). -/
  | div (w : Bool) (d : BitVec 5) (a : BitVec 5) (b : BitVec 5)
  /-- DIVU (R105). -/
  | divu (w : Bool) (d : BitVec 5) (a : BitVec 5) (b : BitVec 5)
  /-- REM (R105). -/
  | rem (w : Bool) (d : BitVec 5) (a : BitVec 5) (b : BitVec 5)
  /-- REMU (R105). -/
  | remu (w : Bool) (d : BitVec 5) (a : BitVec 5) (b : BitVec 5)
  /-- MIN (R104). -/
  | min (w : Bool) (d : BitVec 5) (a : BitVec 5) (b : BitVec 5)
  /-- MAX (R104). -/
  | max (w : Bool) (d : BitVec 5) (a : BitVec 5) (b : BitVec 5)
  /-- MINU (R104). -/
  | minu (w : Bool) (d : BitVec 5) (a : BitVec 5) (b : BitVec 5)
  /-- MAXU (R104). -/
  | maxu (w : Bool) (d : BitVec 5) (a : BitVec 5) (b : BitVec 5)
  /-- CLZ (R104). -/
  | clz (w : Bool) (d : BitVec 5) (a : BitVec 5)
  /-- CTZ (R104). -/
  | ctz (w : Bool) (d : BitVec 5) (a : BitVec 5)
  /-- POPC (R104). -/
  | popc (w : Bool) (d : BitVec 5) (a : BitVec 5)
  /-- SEXTB (R104). -/
  | sextb (w : Bool) (d : BitVec 5) (a : BitVec 5)
  /-- SEXTH (R104). -/
  | sexth (w : Bool) (d : BitVec 5) (a : BitVec 5)
  /-- SEXTW (R104). -/
  | sextw (w : Bool) (d : BitVec 5) (a : BitVec 5)
  /-- ADDI (R106). -/
  | addi (w : Bool) (d : BitVec 5) (a : BitVec 5) (i : BitVec 14)
  /-- ANDI (R106). -/
  | andi (w : Bool) (d : BitVec 5) (a : BitVec 5) (i : BitVec 14)
  /-- ORI (R106). -/
  | ori (w : Bool) (d : BitVec 5) (a : BitVec 5) (i : BitVec 14)
  /-- XORI (R106). -/
  | xori (w : Bool) (d : BitVec 5) (a : BitVec 5) (i : BitVec 14)
  /-- SHLI (R106). -/
  | shli (w : Bool) (d : BitVec 5) (a : BitVec 5) (i : BitVec 6)
  /-- SHRI (R106). -/
  | shri (w : Bool) (d : BitVec 5) (a : BitVec 5) (i : BitVec 6)
  /-- SARI (R106). -/
  | sari (w : Bool) (d : BitVec 5) (a : BitVec 5) (i : BitVec 6)
  /-- MULI (R106). -/
  | muli (w : Bool) (d : BitVec 5) (a : BitVec 5) (i : BitVec 14)
  /-- MOVI (R106). -/
  | movi (d : BitVec 5) (i : BitVec 20)
  /-- CMP (R107). -/
  | cmp (w : Bool) (p : BitVec 4) (a : BitVec 5) (b : BitVec 5) (c : BitVec 3)
  /-- CMPI (R107). -/
  | cmpi (w : Bool) (p : BitVec 4) (a : BitVec 5) (c : BitVec 3) (i : BitVec 12)
  /-- PAND (R108). -/
  | pand (d : BitVec 4) (a : BitVec 4) (b : BitVec 4)
  /-- POR (R108). -/
  | por (d : BitVec 4) (a : BitVec 4) (b : BitVec 4)
  /-- PXOR (R108). -/
  | pxor (d : BitVec 4) (a : BitVec 4) (b : BitVec 4)
  /-- PANDN (R108). -/
  | pandn (d : BitVec 4) (a : BitVec 4) (b : BitVec 4)
  /-- PNOT (R108). -/
  | pnot (d : BitVec 4) (a : BitVec 4)
  /-- SEL (R108). -/
  | sel (w : Bool) (d : BitVec 5) (a : BitVec 5) (b : BitVec 5) (p : BitVec 4)
  /-- FADD (R110). -/
  | fadd (w : Bool) (d : BitVec 5) (a : BitVec 5) (b : BitVec 5)
  /-- FSUB (R110). -/
  | fsub (w : Bool) (d : BitVec 5) (a : BitVec 5) (b : BitVec 5)
  /-- FMUL (R110). -/
  | fmul (w : Bool) (d : BitVec 5) (a : BitVec 5) (b : BitVec 5)
  /-- FDIV (R110). -/
  | fdiv (w : Bool) (d : BitVec 5) (a : BitVec 5) (b : BitVec 5)
  /-- FSQRT (R110). -/
  | fsqrt (w : Bool) (d : BitVec 5) (a : BitVec 5)
  /-- FMIN (R110). -/
  | fmin (w : Bool) (d : BitVec 5) (a : BitVec 5) (b : BitVec 5)
  /-- FMAX (R110). -/
  | fmax (w : Bool) (d : BitVec 5) (a : BitVec 5) (b : BitVec 5)
  /-- FABS (R110). -/
  | fabs (w : Bool) (d : BitVec 5) (a : BitVec 5)
  /-- FNEG (R110). -/
  | fneg (w : Bool) (d : BitVec 5) (a : BitVec 5)
  /-- FCVTID (R110). -/
  | fcvtid (w : Bool) (d : BitVec 5) (a : BitVec 5) (r : BitVec 3)
  /-- FCVTDI (R110). -/
  | fcvtdi (w : Bool) (d : BitVec 5) (a : BitVec 5) (r : BitVec 3)
  /-- FCMP (R110). -/
  | fcmp (w : Bool) (p : BitVec 4) (a : BitVec 5) (b : BitVec 5) (r : BitVec 3)
  /-- FFMA_D (R111). -/
  | ffmaD (w : Bool) (d : BitVec 5) (a : BitVec 5) (b : BitVec 5) (c : BitVec 5)
  /-- LD_B (R114). -/
  | ldB (w : Bool) (g : BitVec 5) (h : BitVec 4) (c : BitVec 4) (a : BitVec 5) (i : BitVec 6)
  /-- LD_BU (R114). -/
  | ldBu (w : Bool) (g : BitVec 5) (h : BitVec 4) (c : BitVec 4) (a : BitVec 5) (i : BitVec 6)
  /-- LD_H (R114). -/
  | ldH (w : Bool) (g : BitVec 5) (h : BitVec 4) (c : BitVec 4) (a : BitVec 5) (i : BitVec 6)
  /-- LD_HU (R114). -/
  | ldHu (w : Bool) (g : BitVec 5) (h : BitVec 4) (c : BitVec 4) (a : BitVec 5) (i : BitVec 6)
  /-- LD_W (R114). -/
  | ldW (w : Bool) (g : BitVec 5) (h : BitVec 4) (c : BitVec 4) (a : BitVec 5) (i : BitVec 6)
  /-- LD_WU (R114). -/
  | ldWu (w : Bool) (g : BitVec 5) (h : BitVec 4) (c : BitVec 4) (a : BitVec 5) (i : BitVec 6)
  /-- LD_D (R114). -/
  | ldD (w : Bool) (g : BitVec 5) (h : BitVec 4) (c : BitVec 4) (a : BitVec 5) (i : BitVec 6)
  /-- ST_B (R115). -/
  | stB (w : Bool) (g : BitVec 5) (h : BitVec 4) (c : BitVec 4) (a : BitVec 5) (i : BitVec 6)
  /-- ST_H (R115). -/
  | stH (w : Bool) (g : BitVec 5) (h : BitVec 4) (c : BitVec 4) (a : BitVec 5) (i : BitVec 6)
  /-- ST_W (R115). -/
  | stW (w : Bool) (g : BitVec 5) (h : BitVec 4) (c : BitVec 4) (a : BitVec 5) (i : BitVec 6)
  /-- ST_D (R115). -/
  | stD (w : Bool) (g : BitVec 5) (h : BitVec 4) (c : BitVec 4) (a : BitVec 5) (i : BitVec 6)
  /-- STNT_D (R115). -/
  | stntD (w : Bool) (g : BitVec 5) (h : BitVec 4) (c : BitVec 4) (a : BitVec 5) (i : BitVec 6)
  /-- AMO_ADD (R116). -/
  | amoAdd (w : Bool) (d : BitVec 5) (h : BitVec 4) (a : BitVec 5) (c : BitVec 4) (s : BitVec 2)
  /-- AMO_AND (R116). -/
  | amoAnd (w : Bool) (d : BitVec 5) (h : BitVec 4) (a : BitVec 5) (c : BitVec 4) (s : BitVec 2)
  /-- AMO_OR (R116). -/
  | amoOr (w : Bool) (d : BitVec 5) (h : BitVec 4) (a : BitVec 5) (c : BitVec 4) (s : BitVec 2)
  /-- AMO_XOR (R116). -/
  | amoXor (w : Bool) (d : BitVec 5) (h : BitVec 4) (a : BitVec 5) (c : BitVec 4) (s : BitVec 2)
  /-- AMO_MIN (R116). -/
  | amoMin (w : Bool) (d : BitVec 5) (h : BitVec 4) (a : BitVec 5) (c : BitVec 4) (s : BitVec 2)
  /-- AMO_MAX (R116). -/
  | amoMax (w : Bool) (d : BitVec 5) (h : BitVec 4) (a : BitVec 5) (c : BitVec 4) (s : BitVec 2)
  /-- AMO_MINU (R116). -/
  | amoMinu (w : Bool) (d : BitVec 5) (h : BitVec 4) (a : BitVec 5) (c : BitVec 4) (s : BitVec 2)
  /-- AMO_MAXU (R116). -/
  | amoMaxu (w : Bool) (d : BitVec 5) (h : BitVec 4) (a : BitVec 5) (c : BitVec 4) (s : BitVec 2)
  /-- AMO_SWAP (R116). -/
  | amoSwap (w : Bool) (d : BitVec 5) (h : BitVec 4) (a : BitVec 5) (c : BitVec 4) (s : BitVec 2)
  /-- CAS (R117). -/
  | cas (w : Bool) (d : BitVec 5) (h : BitVec 4) (a : BitVec 5) (c : BitVec 4) (s : BitVec 2)
  /-- XLAT (R227). -/
  | xlat (w : Bool) (d : BitVec 5) (h : BitVec 4) (a : BitVec 5)
  /-- HREV (R228). -/
  | hrev (w : Bool) (h : BitVec 4)
  /-- HINFO (R229). -/
  | hinfo (w : Bool) (d : BitVec 5) (h : BitVec 4)
  /-- MOVX (R119). -/
  | movx (w : Bool) (e : BitVec 2) (x : BitVec 3) (a : BitVec 5)
  /-- MOVSR (R120). -/
  | movsr (w : Bool) (g : BitVec 5) (s : BitVec 12)
  /-- MOVRS (R120). -/
  | movrs (w : Bool) (g : BitVec 5) (s : BitVec 12)
  /-- TITW (R121). -/
  | titw (w : Bool) (g : BitVec 5) (t : BitVec 6) (n : BitVec 3)
  /-- TITR (R121). -/
  | titr (w : Bool) (g : BitVec 5) (t : BitVec 6) (n : BitVec 3)
  /-- EXT (R64). -/
  | ext (i : BitVec 25)
  -- V slots (R72)
  /-- VSETM (R128). -/
  | vsetm (e : BitVec 1) (w : Bool) (t : BitVec 4) (m : BitVec 3) (s : BitVec 1) (b : BitVec 5)
  /-- VADD (R129). -/
  | vadd (e : BitVec 1) (w : Bool) (d : BitVec 8) (a : BitVec 8) (b : BitVec 8)
  /-- VSUB (R129). -/
  | vsub (e : BitVec 1) (w : Bool) (d : BitVec 8) (a : BitVec 8) (b : BitVec 8)
  /-- VMUL (R129). -/
  | vmul (e : BitVec 1) (w : Bool) (d : BitVec 8) (a : BitVec 8) (b : BitVec 8)
  /-- VFMA (R129). -/
  | vfma (e : BitVec 1) (w : Bool) (d : BitVec 8) (a : BitVec 8) (b : BitVec 8)
  /-- VFMS (R129). -/
  | vfms (e : BitVec 1) (w : Bool) (d : BitVec 8) (a : BitVec 8) (b : BitVec 8)
  /-- VNFMA (R129). -/
  | vnfma (e : BitVec 1) (w : Bool) (d : BitVec 8) (a : BitVec 8) (b : BitVec 8)
  /-- VDIV (R129). -/
  | vdiv (e : BitVec 1) (w : Bool) (d : BitVec 8) (a : BitVec 8) (b : BitVec 8)
  /-- VSQRT (R129). -/
  | vsqrt (e : BitVec 1) (w : Bool) (d : BitVec 8) (a : BitVec 8)
  /-- VRCPE (R130). -/
  | vrcpe (e : BitVec 1) (w : Bool) (d : BitVec 8) (a : BitVec 8)
  /-- VRSQE (R130). -/
  | vrsqe (e : BitVec 1) (w : Bool) (d : BitVec 8) (a : BitVec 8)
  /-- VEXP2E (R130). -/
  | vexp2e (e : BitVec 1) (w : Bool) (d : BitVec 8) (a : BitVec 8)
  /-- VLOG2E (R130). -/
  | vlog2e (e : BitVec 1) (w : Bool) (d : BitVec 8) (a : BitVec 8)
  /-- VMIN (R129). -/
  | vmin (e : BitVec 1) (w : Bool) (d : BitVec 8) (a : BitVec 8) (b : BitVec 8)
  /-- VMAX (R129). -/
  | vmax (e : BitVec 1) (w : Bool) (d : BitVec 8) (a : BitVec 8) (b : BitVec 8)
  /-- VABS (R129). -/
  | vabs (e : BitVec 1) (w : Bool) (d : BitVec 8) (a : BitVec 8)
  /-- VNEG (R129). -/
  | vneg (e : BitVec 1) (w : Bool) (d : BitVec 8) (a : BitVec 8)
  /-- VAND (R129). -/
  | vand (e : BitVec 1) (w : Bool) (d : BitVec 8) (a : BitVec 8) (b : BitVec 8)
  /-- VOR (R129). -/
  | vor (e : BitVec 1) (w : Bool) (d : BitVec 8) (a : BitVec 8) (b : BitVec 8)
  /-- VXOR (R129). -/
  | vxor (e : BitVec 1) (w : Bool) (d : BitVec 8) (a : BitVec 8) (b : BitVec 8)
  /-- VSHL (R129). -/
  | vshl (e : BitVec 1) (w : Bool) (d : BitVec 8) (a : BitVec 8) (b : BitVec 8)
  /-- VSHR (R129). -/
  | vshr (e : BitVec 1) (w : Bool) (d : BitVec 8) (a : BitVec 8) (b : BitVec 8)
  /-- VSAR (R129). -/
  | vsar (e : BitVec 1) (w : Bool) (d : BitVec 8) (a : BitVec 8) (b : BitVec 8)
  /-- VCMPEQ (R131). -/
  | vcmpeq (e : BitVec 1) (w : Bool) (d : BitVec 8) (a : BitVec 8) (b : BitVec 8)
  /-- VCMPLT (R131). -/
  | vcmplt (e : BitVec 1) (w : Bool) (d : BitVec 8) (a : BitVec 8) (b : BitVec 8)
  /-- VCMPLE (R131). -/
  | vcmple (e : BitVec 1) (w : Bool) (d : BitVec 8) (a : BitVec 8) (b : BitVec 8)
  /-- VCMPNE (R131). -/
  | vcmpne (e : BitVec 1) (w : Bool) (d : BitVec 8) (a : BitVec 8) (b : BitVec 8)
  /-- VSEL (R131). -/
  | vsel (e : BitVec 1) (w : Bool) (d : BitVec 8) (a : BitVec 8) (b : BitVec 8)
  /-- VCVT (R133). -/
  | vcvt (e : BitVec 1) (w : Bool) (d : BitVec 8) (a : BitVec 8) (t : BitVec 4) (m : BitVec 3) (s : BitVec 1)
  /-- VADDS (R132). -/
  | vadds (e : BitVec 1) (w : Bool) (d : BitVec 8) (a : BitVec 8) (b : BitVec 5)
  /-- VMULS (R132). -/
  | vmuls (e : BitVec 1) (w : Bool) (d : BitVec 8) (a : BitVec 8) (b : BitVec 5)
  /-- VBCAST (R132). -/
  | vbcast (e : BitVec 1) (w : Bool) (d : BitVec 8) (b : BitVec 5)
  /-- VIOTA (R132). -/
  | viota (e : BitVec 1) (w : Bool) (d : BitVec 8) (b : BitVec 5)
  /-- VPERM (R136). -/
  | vperm (e : BitVec 1) (w : Bool) (d : BitVec 8) (a : BitVec 8) (b : BitVec 8)
  /-- VSLIDE_UP (R137). -/
  | vslideUp (e : BitVec 1) (w : Bool) (d : BitVec 8) (a : BitVec 8) (b : BitVec 5)
  /-- VSLIDE_DN (R137). -/
  | vslideDn (e : BitVec 1) (w : Bool) (d : BitVec 8) (a : BitVec 8) (b : BitVec 5)
  /-- VRSUM (R138). -/
  | vrsum (e : BitVec 1) (w : Bool) (d : BitVec 8) (a : BitVec 8)
  /-- VRMAX (R138). -/
  | vrmax (e : BitVec 1) (w : Bool) (d : BitVec 8) (a : BitVec 8)
  /-- VRMIN (R138). -/
  | vrmin (e : BitVec 1) (w : Bool) (d : BitVec 8) (a : BitVec 8)
  /-- VPART (R140). -/
  | vpart (e : BitVec 1) (w : Bool) (d : BitVec 8) (a : BitVec 8)
  /-- VEXTR (R139). -/
  | vextr (e : BitVec 1) (w : Bool) (d : BitVec 5) (a : BitVec 8) (b : BitVec 5)
  /-- VLD (R142). -/
  | vld (e : BitVec 1) (w : Bool) (d : BitVec 8) (h : BitVec 4) (c : BitVec 4) (a : BitVec 5)
  /-- VST (R142). -/
  | vst (e : BitVec 1) (w : Bool) (d : BitVec 8) (h : BitVec 4) (c : BitVec 4) (a : BitVec 5)
  /-- VLDS (R142). -/
  | vlds (e : BitVec 1) (w : Bool) (d : BitVec 8) (h : BitVec 4) (c : BitVec 4) (a : BitVec 5)
  /-- VSTS (R142). -/
  | vsts (e : BitVec 1) (w : Bool) (d : BitVec 8) (h : BitVec 4) (c : BitVec 4) (a : BitVec 5)
  /-- VGATH (R143). -/
  | vgath (e : BitVec 1) (w : Bool) (d : BitVec 8) (i : BitVec 8) (h : BitVec 4) (c : BitVec 4)
  /-- VSCAT (R143). -/
  | vscat (e : BitVec 1) (w : Bool) (d : BitVec 8) (i : BitVec 8) (h : BitVec 4) (c : BitVec 4)
  /-- VSCATA (R143). -/
  | vscata (e : BitVec 1) (w : Bool) (d : BitVec 8) (i : BitVec 8) (h : BitVec 4) (c : BitVec 4)
  /-- VSTNT (R142). -/
  | vstnt (e : BitVec 1) (w : Bool) (d : BitVec 8) (h : BitVec 4) (c : BitVec 4) (a : BitVec 5)
  /-- VLDP (R144). -/
  | vldp (e : BitVec 1) (w : Bool) (d : BitVec 8) (a : BitVec 5)
  /-- VSTP (R144). -/
  | vstp (e : BitVec 1) (w : Bool) (d : BitVec 8) (a : BitVec 5)
  /-- VLDT_ROW (R147). -/
  | vldtRow (e : BitVec 1) (w : Bool) (d : BitVec 8) (t : BitVec 6) (a : BitVec 5)
  /-- VLDT_COL (R147). -/
  | vldtCol (e : BitVec 1) (w : Bool) (d : BitVec 8) (t : BitVec 6) (a : BitVec 5)
  /-- HGLD (R255). -/
  | hgld (e : BitVec 1) (w : Bool) (d : BitVec 8) (a : BitVec 8) (h : BitVec 4)
  /-- HGSCAT (R257). -/
  | hgscat (e : BitVec 1) (w : Bool) (d : BitVec 8) (a : BitVec 8) (h : BitVec 4) (o : BitVec 1) (t : BitVec 3)
  -- M slot (R73)
  /-- MLEASE (R159). -/
  | mlease (t : BitVec 6)
  /-- MFREE (R159). -/
  | mfree (t : BitVec 6)
  /-- MLDW (R163). -/
  | mldw (t : BitVec 6) (a : BitVec 6) (v : BitVec 1)
  /-- MMUL (R164). -/
  | mmul (t : BitVec 6) (z : BitVec 4) (a : BitVec 6) (v : BitVec 1)
  /-- MMULB (R165). -/
  | mmulb (t : BitVec 6) (z : BitVec 4) (a : BitVec 6) (v : BitVec 1)
  /-- MRSA (R166). -/
  | mrsa (t : BitVec 6) (z : BitVec 4) (a : BitVec 6) (b : BitVec 6) (v : BitVec 1)
  /-- MRSD (R166). -/
  | mrsd (t : BitVec 6) (z : BitVec 4) (a : BitVec 6) (b : BitVec 6) (v : BitVec 1)
  /-- MDRN (R168). -/
  | mdrn (t : BitVec 6) (z : BitVec 4) (a : BitVec 6) (m : BitVec 2) (c : BitVec 1)
  /-- MDRNR (R169). -/
  | mdrnr (t : BitVec 6) (z : BitVec 4) (a : BitVec 6) (m : BitVec 2) (c : BitVec 1)
  /-- MZERO (R167). -/
  | mzero (t : BitVec 6) (z : BitVec 4)
  /-- FGEMV (R173). -/
  | fgemv (t : BitVec 6) (a : BitVec 6) (b : BitVec 6) (c : BitVec 1)
  -- C slots (R74)
  /-- CPY (R176). -/
  | cpy (e : BitVec 1) (t : BitVec 6) (a : BitVec 6) (b : BitVec 6) (c : BitVec 2) (f : BitVec 1)
  /-- CPY2 (R176). -/
  | cpy2 (e : BitVec 1) (t : BitVec 6) (a : BitVec 6) (b : BitVec 6) (c : BitVec 2) (f : BitVec 1)
  /-- CTILE (R177). -/
  | ctile (e : BitVec 1) (t : BitVec 6) (a : BitVec 6) (b : BitVec 6) (c : BitVec 2) (k : BitVec 2) (f : BitVec 1)
  /-- CXPOSE (R177). -/
  | cxpose (e : BitVec 1) (t : BitVec 6) (a : BitVec 6) (b : BitVec 6) (c : BitVec 2) (k : BitVec 2) (f : BitVec 1)
  /-- CCONV (R178). -/
  | cconv (e : BitVec 1) (t : BitVec 6) (a : BitVec 6) (b : BitVec 6) (c : BitVec 2) (k : BitVec 2) (f : BitVec 1)
  /-- CSEND (R179). -/
  | csend (e : BitVec 1) (t : BitVec 6) (a : BitVec 6) (c : BitVec 2) (f : BitVec 1)
  /-- CFILL (R180). -/
  | cfill (e : BitVec 1) (t : BitVec 6) (b : BitVec 6) (c : BitVec 2) (k : BitVec 2) (f : BitVec 1)
  /-- CGATH (R181). -/
  | cgath (e : BitVec 1) (t : BitVec 6) (a : BitVec 6) (b : BitVec 6) (c : BitVec 2) (k : BitVec 2) (f : BitVec 1)
  /-- CPREF (R182). -/
  | cpref (e : BitVec 1) (t : BitVec 6) (a : BitVec 6) (c : BitVec 2)
  /-- CPREF_L1 (R182). -/
  | cprefL1 (e : BitVec 1) (t : BitVec 6) (a : BitVec 6) (c : BitVec 2)
  /-- COPTM_SGDM (R183). -/
  | coptmSgdm (e : BitVec 1) (t : BitVec 6) (a : BitVec 6) (b : BitVec 6) (c : BitVec 2) (k : BitVec 2) (f : BitVec 1)
  /-- COPTM_ADAM (R183). -/
  | coptmAdam (e : BitVec 1) (t : BitVec 6) (a : BitVec 6) (b : BitVec 6) (c : BitVec 2) (k : BitVec 2) (f : BitVec 1)
  /-- CSPARSE_PACK (R184). -/
  | csparsePack (e : BitVec 1) (t : BitVec 6) (a : BitVec 6) (b : BitVec 6) (c : BitVec 2) (f : BitVec 1)
  /-- CSPARSE_UNPACK (R184). -/
  | csparseUnpack (e : BitVec 1) (t : BitVec 6) (a : BitVec 6) (b : BitVec 6) (c : BitVec 2) (f : BitVec 1)
  /-- HGFOLD (R259). -/
  | hgfold (e : BitVec 1) (t : BitVec 6) (c : BitVec 2) (f : BitVec 1)
  /-- HGFOLD_ADD (R259). -/
  | hgfoldAdd (e : BitVec 1) (t : BitVec 6) (c : BitVec 2) (f : BitVec 1)
  -- Y slot (R75)
  /-- FWAIT (R324). -/
  | fwait (f : BitVec 5) (n : BitVec 9)
  /-- FPOST (R324). -/
  | fpost (f : BitVec 5) (n : BitVec 9)
  /-- FPOSTR (R324). -/
  | fpostr (f : BitVec 5) (g : BitVec 5) (n : BitVec 9)
  /-- TWAIT (R200). -/
  | twait (g : BitVec 5)
  /-- TWAITA (R200). -/
  | twaita (g : BitVec 5)
  /-- BARV (R330). -/
  | barv (b : BitVec 7)
  /-- BARW (R330). -/
  | barw (b : BitVec 7)
  /-- BARS (R330). -/
  | bars (b : BitVec 7)
  /-- FENCE (R193). -/
  | fence (m : BitVec 16)
  /-- REL (R195). -/
  | rel (s : BitVec 3)
  /-- ACQ (R196). -/
  | acq (s : BitVec 3)
  /-- CWAIT (R336). -/
  | cwait (h : BitVec 4) (g : BitVec 5) (n : BitVec 9)
  /-- CINC (R336). -/
  | cinc (h : BitVec 4) (g : BitVec 5) (n : BitVec 9)
  /-- RGO (R360). -/
  | rgo (g : BitVec 5)
  /-- WADD (R383). -/
  | wadd (a : BitVec 5) (b : BitVec 5)
  -- events
  /-- READ_REQUEST (R341). -/
  | readRequest (pa : Nat) (len : Nat) (tag : Nat) (src : Nat)
  /-- READ_RESPONSE (R341). -/
  | readResponse (tag : Nat) (status : Nat) (bytes : List Byte)
  /-- WRITE (R341). -/
  | write (pa : Nat) (cls : Nat) (tag : Nat) (src : Nat) (ctx : Nat) (reg : Nat) (va : Nat) (bytes : List Byte)
  /-- WRITE_ACK (R341). -/
  | writeAck (tag : Nat) (status : Nat)
  /-- ATOMIC (R341). -/
  | atomic (pa : Nat) (op : Nat) (tag : Nat) (src : Nat) (x : Word) (y : Word)
  /-- ATOMIC_RESPONSE (R341). -/
  | atomicResponse (tag : Nat) (status : Nat) (old : Word)
  /-- FLAG_POST (R325). -/
  | flagPost (c : Nat) (f : Nat) (n : Nat) (ctx : Nat)
  /-- BARRIER_COMBINE (R332). -/
  | barrierCombine (kern : Nat) (b : Nat) (phase : Nat) (pkg : Nat)
  /-- LAUNCH_HAND_OFF (R307): `args` is ARG of the launch, then the words of its record. -/
  | launchHandOff (kern : Nat) (g : Nat) (rec : Nat) (ctx : Nat) (src : Nat) (args : List Word)
  /-- DTB_SYNCHRONISATION (R396). -/
  | dtbSynchronisation (d : Nat) (m : SyncMessage)
  /-- RING_PARTIAL (R352). -/
  | ringPartial (id : Nat) (inst : Nat) (chunk : Nat) (tile : Nat) (hop : Nat) (dense : Bool) (vals : List Word)
  /-- RING_RESULT (R353). -/
  | ringResult (id : Nat) (inst : Nat) (chunk : Nat) (tile : Nat) (bytes : List Byte)
  /-- ARMED (R360). -/
  | armed (id : Nat) (inst : Nat) (pkg : Nat)
  /-- DONE (R361). -/
  | done (id : Nat) (inst : Nat) (pkg : Nat)
  /-- FAIL (R358). -/
  | fail (id : Nat) (inst : Nat) (pkg : Nat) (cause : Nat) (reason : Nat)
  /-- RING_ABORT (R359). -/
  | ringAbort (id : Nat) (inst : Nat) (pkg : Nat)
  /-- ABORT_ACK (R359). -/
  | abortAck (id : Nat) (inst : Nat) (pkg : Nat)
  /-- PACKAGE_PART_COMPLETE (R307). -/
  | packagePartComplete (kern : Nat) (pkg : Nat) (fails : List (Nat × Nat))
  /-- SPILL_FILL (R84). -/
  | spillFill (c : Nat)
  /-- SEGMENT_COPY_COMPLETE (R300). -/
  | segmentCopyComplete (c : Nat) (h : Nat)
  /-- VARIABLE_RESULT_LANDING (R62). -/
  | variableResultLanding (c : Nat) (k : Nat)
  /-- COMMAND_START (R149). -/
  | commandStart (c : Nat) (q : Nat)
  /-- PRODUCT_STEP (R171). -/
  | productStep (c : Nat)
  /-- COPY_STEP_BOUNDARY (R186). -/
  | copyStepBoundary (c : Nat) (q : Nat) (k : Nat)
  /-- TOKEN_RETIRE (R54). -/
  | tokenRetire (c : Nat) (t : Nat)
  /-- LEASE_GRANT (R158). -/
  | leaseGrant (cl : Nat)
  /-- ARRAY_REPAIR (R242). -/
  | arrayRepair (cl : Nat)
  /-- BARRIER_PHASE_COMPLETE (R330). -/
  | barrierPhaseComplete (c : Nat) (b : Nat)
  /-- PREEMPTION (R312). -/
  | preemption (c : Nat)
  /-- RESUMPTION (R313). -/
  | resumption (k : Nat)
  /-- TASK_ABORT (R316). -/
  | taskAbort (c : Nat) (cause : Nat)
  /-- KERNEL_COMPLETE (R297). -/
  | kernelComplete (k : Nat)
  /-- CHUNK_LAUNCH (R352). -/
  | chunkLaunch (id : Nat) (chunk : Nat)
  /-- STAGING_ARRIVAL (R350). -/
  | stagingArrival (id : Nat) (tile : Nat)
  /-- CWAIT_GRANT (R336). -/
  | cwaitGrant (pa : Nat)
  /-- PACKET_FETCH (R280). -/
  | packetFetch (p : Nat)
  /-- LAUNCH (R295). -/
  | launch (p : Nat)
  /-- UNBIND_COMPLETE (R284). -/
  | unbindComplete (p : Nat)
  /-- ARRIVAL_INTERRUPT (R101). -/
  | arrivalInterrupt (c : Nat)
  /-- UE_CORE (R318). -/
  | ueCore (c : Nat)
  /-- NOTIFY (R275). -/
  | notify (n : Nat) (v : Nat)
  /-- PRIORITY_PREEMPTION (R311). -/
  | priorityPreemption (p : Nat)
  /-- HOLD_RELEASE (R57). -/
  | holdRelease (c : Nat)
  /-- FIXED_RESULT_LANDING (R61). -/
  | fixedResultLanding (c : Nat)
  /-- FAULT_HISTORY_EXPIRY (R241). -/
  | faultHistoryExpiry (cl : Nat)
  /-- STEP (R384). -/
  | step (c : Nat)
  /-- TRACE_SAMPLE (R378). -/
  | traceSample (c : Nat)
  /-- DEBUG_STOP (R380). -/
  | debugStop (c : Nat)
  /-- DEBUG_STOP_FORCE (R380). -/
  | debugStopForce (c : Nat)
  /-- STOP (R376). -/
  | stop (c : Nat)
  /-- RUN (R387). -/
  | run (c : Nat)
  /-- REQ (R387). -/
  | req (c : Nat)
  /-- DATA (R387). -/
  | data (c : Nat) (v : Option Word)
  /-- HBIND (R375). -/
  | hbind (c : Nat) (n : Nat) (k : Nat) (v : Word)
  /-- TASK_DISPATCH (R296). -/
  | taskDispatch
  /-- PAGE_WALK (R210). -/
  | pageWalk (c : Nat) (va : Nat)
  /-- WALK_TIMEOUT (R219). -/
  | walkTimeout (c : Nat)
  /-- LEASE_EXPIRY (R216). -/
  | leaseExpiry (d : Nat)
  /-- FOLD_ATOMIC_APPLY (R208). -/
  | foldAtomicApply (pa : Nat) (op : Nat) (x : Word) (y : Word)
  /-- CINC_APPLY (R336). -/
  | cincApply (pa : Nat) (n : Nat)
  /-- SYNC_RESEND (R396). -/
  | syncResend (d : Nat)
  /-- ACK (R342). -/
  | ack (d : Nat) (j : Nat) (f : ControlFlit)
  /-- NAK (R342). -/
  | nak (d : Nat) (j : Nat) (f : ControlFlit)
  /-- EN (R343). -/
  | en (d : Nat) (j : Nat) (on : Bool)
  /-- RETRAIN (R344). -/
  | retrain (d : Nat) (j : Nat)
  /-- TRAINING_START (R343). -/
  | trainingStart (d : Nat) (j : Nat)
  /-- TRAINING_COMPLETE (R343). -/
  | trainingComplete (d : Nat) (j : Nat) (pp : Nat) (pd : Nat) (pj : Nat)
  /-- TRAINING_TIMEOUT (R343). -/
  | trainingTimeout (d : Nat) (j : Nat)
  /-- RETRAIN_COMPLETE (R343). -/
  | retrainComplete (d : Nat) (j : Nat) (ok : Bool)
  /-- ROUTE_HOLD_TIMEOUT (R345). -/
  | routeHoldTimeout (k : Nat)
  /-- APERTURE_UNGATE (R275). -/
  | apertureUngate (n : Nat)
  /-- QPEND (R276). -/
  | qpend (n : Nat) (v : Word)
  /-- INVALID (R277). -/
  | invalid (p : Nat)
  /-- NOP_PACKET (R277). -/
  | nopPacket (p : Nat)
  /-- WAITSIG (R278). -/
  | waitsig (p : Nat)
  /-- WAITSIG_POLL (R278). -/
  | waitsigPoll (p : Nat)
  /-- FFENCE (R278). -/
  | ffence (p : Nat)
  /-- NOTIFY_PACKET (R277). -/
  | notifyPacket (p : Nat)
  /-- MAP (R283). -/
  | map (p : Nat)
  /-- UNMAP (R284). -/
  | unmap (p : Nat)
  /-- QUEUE_RESET (R285). -/
  | queueReset (p : Nat)
  /-- SETPRIO (R283). -/
  | setprio (p : Nat)
  /-- RESUME (R283). -/
  | resume (p : Nat)
  /-- CREATE (R268). -/
  | create (k : Nat)
  /-- SETMASK (R271). -/
  | setmask (k : Nat)
  /-- SETBUDGET (R268). -/
  | setbudget (k : Nat)
  /-- SETPOOL (R268). -/
  | setpool (k : Nat)
  /-- CONTEXT_RESET (R269). -/
  | contextReset (k : Nat)
  /-- DESTROY (R270). -/
  | destroy (k : Nat)
  /-- DEADLINE (R270). -/
  | deadline (ctx : Nat)
  /-- QUERY (R268). -/
  | query (k : Nat)
  /-- CLRREPAIR (R268). -/
  | clrrepair (k : Nat)
  /-- HOST_ORDERED_READ (R207). -/
  | hostOrderedRead (off : Nat) (len : Nat)
  /-- HOST_ORDERED_WRITE (R207). -/
  | hostOrderedWrite (off : Nat) (bytes : List Byte)
  /-- HOST_RELAXED_READ (R207). -/
  | hostRelaxedRead (off : Nat) (len : Nat)
  /-- HOST_RELAXED_WRITE (R207). -/
  | hostRelaxedWrite (off : Nat) (bytes : List Byte)
  /-- HOST_ATOMICOP (R364). -/
  | hostAtomicop (off : Nat) (op : Nat) (size : Nat) (x : Word) (y : Word)
  /-- COMPLETION_TIMEOUT (R363). -/
  | completionTimeout (c : Nat) (x : HostAccess)
  /-- COLD_RESET (R389). -/
  | coldReset
  /-- WARM_RESET (R389). -/
  | warmReset
  /-- RESETPKG (R389). -/
  | resetpkg
  /-- RECOVER (R392). -/
  | recover
  /-- SVNCOMMIT (R392). -/
  | svncommit (svn : Nat)
  /-- POWER_LIMIT (R397). -/
  | powerLimit (w : Nat)
  /-- PLDM_SENSOR_READ (R398). -/
  | pldmSensorRead (n : Nat)
  /-- GET_VERSION (R398). -/
  | getVersion
  /-- GET_CAPABILITIES (R398). -/
  | getCapabilities
  /-- NEGOTIATE_ALGORITHMS (R398). -/
  | negotiateAlgorithms
  /-- GET_DIGESTS (R398). -/
  | getDigests
  /-- GET_CERTIFICATE (R398). -/
  | getCertificate
  /-- CHALLENGE (R398). -/
  | challenge (nonce : List Byte)
  /-- GET_MEASUREMENTS (R398). -/
  | getMeasurements
  /-- SAVEBASE (R399). -/
  | savebase (v : Word)
  /-- REGISTER_WRITE (R8). -/
  | registerWrite (off : Nat) (v : Word)
  /-- SOFT_ERROR (R246). -/
  | softError (zc : Option Nat) (a : Nat) (bit : Nat)
  /-- PAGE_RESIDENT_REPORT (R231). -/
  | pageResidentReport (ctx : Nat) (va : Nat)
  /-- POLLING_POSITION (R288). -/
  | pollingPosition (p : Nat)
  /-- CRC_FAILURE (R342): the check of a data flit that a port receives. -/
  | crcFailure (d : Nat) (j : Nat) (f : ReceivedFlit)
  /-- APERTURE_GATE (R274). -/
  | apertureGate (n : Nat)
  -- slot words without fields (R67, R75)
  /-- NOP (R58). -/
  | nop
  /-- RET (R83). -/
  | ret
  /-- TRET (R369). -/
  | tret
  /-- IWAIT (R102). -/
  | iwait
  /-- IRET (R102). -/
  | iret
  /-- MRET (R370). -/
  | mret
  /-- DRAINNT (R199). -/
  | drainnt
  /-- WCLR (R383). -/
  | wclr
  /-- WRESUME (R383). -/
  | wresume
deriving DecidableEq, Repr

end Sys2Proof
end

