-- ==== Sys2Proof/Machine/State.lean ====
section
/-! DEFINITION. The state of the machine: one package with its cores, its memory and what stands around them.

Everything is plain data. Small tables indexed by number are `Sparse` lists: addresses strictly rising, and no entry
equal to the value an unlisted index reads as. Each structure's docstring names the rules of spec/ that give its
fields; reset values are those of State.reset and of the default values here, and where the spec states none
the log entry 3 names the value. -/

namespace Sys2Proof.Machine

/-- A sparse table: pairs of an index and a value, indices strictly rising. -/
abbrev Sparse (α : Type) := List (Nat × α)

/-! ### Names -/

/-- What holds a bundle (R57), with what is needed to say that it no longer stands. -/
inductive Hold where
  /-- A B = 1 reference to an empty scalar register, by physical number (R63). -/
  | emptyG (phys : Nat)
  /-- A B = 1 reference to an empty vector register (R63). -/
  | emptyV (reg : Nat)
  /-- An occupied vector engine (R124). -/
  | engine (e : Nat)
  /-- A full command queue: 0 M, 1 C0, 2 C1 (R149). -/
  | queue (q : Nat)
  /-- A segment load (R299). -/
  | segment (half : Nat)
  /-- A spill or fill (R84). -/
  | spill
  /-- A JTAB entry load (R87). -/
  | table
  /-- FWAIT on a flag (R324). -/
  | flag (f n : Nat)
  /-- TWAIT on a mask (R200). -/
  | tokenAny (mask : Word)
  /-- TWAITA on a mask (R200). -/
  | tokenAll (mask : Word)
  /-- An arrive on a barrier whose phase is incomplete (R330). -/
  | barrierArrive (b : Nat)
  /-- A wait for a barrier's phase (R330). -/
  | barrierWait (b : Nat)
  /-- A CWAIT that is not granted (R336). -/
  | counter (pa : Nat)
  /-- EXIT, until the tokens retire (R319). -/
  | exit
  /-- IWAIT, until an interrupt is pending (R102). -/
  | iwait
  /-- RGO, while the region is ABORTING (R360). -/
  | region (id : Nat)
  /-- WADD, until a cycle (R383). -/
  | wadd (untilCyc : Nat)
  /-- REL: accesses sent to another package are not performed yet (R195). -/
  | release
  /-- DRAINNT: non-temporal stores are not performed yet (R199). -/
  | drainNt
  /-- ACQ: a load or atomic has not returned yet (R196). -/
  | acquire
  /-- A debug stop holds issue (R380). -/
  | stopped
  /-- Bytes that another package has still to send (R190, R210; log 54): for an entry of a page table the virtual address of
  its walk, else none; their physical address and number. -/
  | remote (va : Option Nat) (pa len : Nat)
  deriving DecidableEq, Repr

/-- How the last issue attempt on a core ended: the model's own field (log 4), from which the bundle rule of R57
and the HOLD code of a sample (R378) are read. -/
inductive Issue where
  /-- It issued, or took effect as an event. -/
  | issued
  /-- It was held. -/
  | held (h : Hold)
  /-- It trapped; the code of R365, and the stage that orders causes (0 decode, 1 FE_EMPTY, 2 execution). -/
  | trapped (code stage : Nat)
  deriving DecidableEq, Repr

/-! ### Results in flight (R61, R62) -/

/-- Where a result lands. -/
inductive Dest where
  /-- A scalar register, by physical number; `em` marks a destination that was made empty. -/
  | g (phys : Nat) (v : Word) (em : Bool)
  /-- A predicate. -/
  | p (n : Nat) (b : Bool)
  /-- Bytes of a vector register from a byte offset; `em` fills the register, `eng` is the engine (R15). -/
  | v (reg off : Nat) (bytes : List Byte) (em : Bool) (eng : Nat)
  /-- VSO or VLT of an engine (R127). -/
  | vso (e : Nat) (v : Word)
  | vlt (e : Nat) (n : Nat)
  /-- Exception bits ORed into FFLAGS (engine 2) or into VMODE of an engine (R112, R126). -/
  | fl (e : Nat) (f : BitVec 5)
  /-- A system register (R120). -/
  | sr (n : Nat) (v : Word)
  /-- A staging register: 8·eng + x (R119). -/
  | staging (k : Nat) (v : Word)
  /-- A word of the tensor identifier table: 5·tid + w (R121). -/
  | tit (k : Nat) (v : Word)
  /-- The mark of a faulted vector register: cause, first register of the span, REASON and address (R256, R373, R375). -/
  | vfault (reg cause first reason addr : Nat)
  /-- The entry of a jump table (R87): the hold of JTAB's first delay bundle ends. -/
  | table (v : Word)
  deriving DecidableEq, Repr

/-- A fixed-latency result and the cycle in which it lands. -/
structure Landing where
  due : Nat
  dst : Dest
  deriving DecidableEq, Repr

/-- Bytes of a result that the answer of another package brings (R190, R341): the tag of its message, their offset in the
result and their number, where they start in the answer, the offsets of the result that the core's own masked stores
give (R189), and the sector that the answer fills. -/
structure Hole where
  tag : Nat
  off : Nat
  len : Nat
  skip : Nat := 0
  keep : List Nat := []
  fill : Option Nat := none
  deriving DecidableEq, Repr

/-- Variable-latency results that land together (R62), not before the cycle `earliest`; they land by themselves in the cycle
`latest`, where there is one. `holes` are bytes of the first one that are still to come. -/
structure Waiting where
  dst : List Dest
  holes : List Hole := []
  /-- Of a scalar result with holes: its bytes, and whether they are sign-extended. -/
  size : Nat := 0
  signed : Bool := false
  earliest : Nat := 0
  latest : Option Nat := none
  /-- A result of MOVRS, which is no load (R120, R196). -/
  moved : Bool := false
  /-- The engine of a vector access, and the pool banks it uses (R145). -/
  eng : Nat := 2
  banks : List Nat := []
  /-- It comes from host memory, whose completion may fail (R363). -/
  host : Bool := false
  deriving DecidableEq, Repr

/-! ### A core -/

/-- What happens at a transfer's target (R83, R99, R100, R102). -/
inductive Arrive where
  | none | call | ret | tret | mret | iret
  deriving DecidableEq, Repr

/-- A control transfer under way (R79): its target, how many bundles issue before it, what happens there. -/
structure Xfer where
  tgt : Nat
  rem : Nat
  arr : Arrive
  deriving DecidableEq, Repr

/-- A captured frame (R313, R367): writes with their offsets, and the engines' remaining occupancy; with it what
happens at the target of a transfer that the entry interrupted, and the ACT bits at monitor entry (log 14). -/
structure Frame where
  writes : List Landing
  busy0 : Nat
  busy1 : Nat
  arr : Arrive
  act : BitVec 2
  deriving DecidableEq, Repr

/-- An EXT prefix that waits for the next bundle (R64, R65): its immediate and its bundle address. -/
structure Ext where
  imm : BitVec 25
  pc : Nat
  /-- The transfer that was pending when the EXT bundle issued, so that TPC can name that bundle. -/
  xfer : Option Xfer
  deriving DecidableEq, Repr

/-- A JTAB that has issued, while its first delay bundle holds (R87). -/
inductive Table where
  /-- Its target is known, and the time of the entry load still runs. -/
  | timed
  /-- Another package has still to send the entry; with the address that a trap of the JTAB names. -/
  | asked (pc : Nat)
  /-- The entry has come. -/
  | came (pc : Nat) (e : Word)
  /-- The entry load has faulted: another package answered with a status (R345). -/
  | failed (pc reason : Nat)
  deriving DecidableEq, Repr

/-- The sequencer of a core (R56, R79, R64, R84, R120). -/
structure Seq where
  pc : Nat := 0
  xfer : Option Xfer := none
  ext : Option Ext := none
  /-- CYC. -/
  cyc : Nat := 0
  /-- The cycle of the last bundle that took effect (R313). -/
  lastCyc : Nat := 0
  /-- The move the spill engine makes (R84): a fill or a spill, its slot, and the cycle in which it is complete. -/
  spill : Option (Bool × Nat × Nat) := none
  /-- A K-slot instruction has set the next bundle address itself in this bundle. -/
  moved : Bool := false
  /-- A JTAB whose entry is still to come holds the next bundle (R87). -/
  table : Option Table := none
  /-- An IWAIT holds the bundle at PC: it issues before an interrupt is taken (R102). -/
  iwait : Bool := false
  /-- A resumed task whose first bundle cannot issue yet: what was captured counts from the cycle in which it can (R313). -/
  resumed : Bool := false
  /-- The bundle that a WADD holds, and the cycle in which it issues (R383). -/
  wadd : Option (Nat × Nat) := none
  last : Issue := .issued
  deriving DecidableEq, Repr

/-- Scalar state: 264 physical registers (248 of R82, then the handler bank at 248 and the monitor bank at 256),
their full/empty bits, predicates P1 to P7, the window pointer and FFLAGS. -/
structure Scalar where
  g : Sparse Word := []
  /-- Empty physical registers, rising (R62). -/
  empty : List Nat := []
  /-- P1 to P7 in bits 1 to 7; P8 to P15 are SV (R109). -/
  p : BitVec 8 := 0
  fflags : BitVec 5 := 0
  depth : Nat := 0
  low : Nat := 0
  deriving DecidableEq, Repr

/-- One hardware loop set (R88, R95). -/
structure LoopSet where
  beg : Nat := 0
  fin : Nat := 0
  cnt : Nat := 0
  act : Bool := false
  deriving DecidableEq, Repr

/-- The loop registers (R95, R96). LSM is sparse around 0xFFFF_FFFF. -/
structure Loops where
  l0 : LoopSet := {}
  l1 : LoopSet := {}
  lstg : Nat := 0
  litr : Word := 0
  lsm : Sparse Nat := []
  sv : BitVec 15 := 0
  rrb : Nat := 0
  iact : BitVec 2 := 0
  sact : BitVec 2 := 0
  ps : Nat := 0
  pv : Bool := false
  inner : Nat := 0
  deriving DecidableEq, Repr

/-- Trap state (R101 to R103, R366 to R375). -/
structure Traps where
  avec : BitVec 32 := 0
  apc : BitVec 32 := 0
  /-- The code of the last interrupt taken (R103), and of the one that is pending (R327). -/
  asrc : BitVec 8 := 0
  apend : BitVec 8 := 0
  ain : Bool := false
  aip : Bool := false
  aie : Bool := false
  tvec : BitVec 32 := 0
  tpc : BitVec 32 := 0
  tcause : Word := 0
  tinfo : Word := 0
  tlvl : Bool := false
  mpc : BitVec 32 := 0
  mcause : Word := 0
  minfo : Word := 0
  maddr : Word := 0
  mbytes : Word := 0
  mscr : Sparse Word := []
  mlvl : Bool := false
  tframe : Option Frame := none
  mframe : Option Frame := none
  /-- The monitor has stopped on a second cause (R371). -/
  mstop : Bool := false
  /-- Traps of commands and of results, each as cause, TINFO, address and bytes done, that wait for the next bundle boundary
  (R230, R345; log 105). -/
  late : List (Nat × Nat × Nat × Nat) := []
  /-- Events waiting for the next bundle boundary (R366). -/
  ue : Bool := false
  gang : Option Nat := none
  skew : Option Int := none
  pre : Bool := false
  step : Bool := false
  deriving DecidableEq, Repr

/-- A cached translation (R216 to R218): the page, the leaf entry, its level (0, 1, 2), its context
(none for GLOBAL) and its expiry. -/
structure Xlation where
  va : Nat
  level : Nat
  leaf : Word
  ctx : Option Nat
  exp : Nat
  deriving DecidableEq, Repr

/-- A handle register (R225, R417): TV, TPAGE, TSNAP and TEXP are `tr`, none when TV = 0. -/
structure Handle where
  w0 : Word := 0
  w1 : Word := 0
  tr : Option Xlation := none
  rev : Bool := false
  gv : Bool := false
  gcopy : Word := 0
  deriving DecidableEq, Repr

/-- Staging registers (index 8·eng + x), TIT words (5·tid + w), AG sets, GIDs, pool boundaries and handles. -/
structure Staging where
  x : Sparse Word := []
  tit : Sparse Word := []
  ag : Sparse Nat := []
  gid : Sparse Nat := []
  b1 : Nat := 0
  b2 : Nat := 0
  b3 : Nat := 0
  h : Sparse Handle := []
  deriving DecidableEq, Repr

/-- A vector engine's mode register and scalar-out registers (R126, R127) and the cycle it is free again (R124). -/
structure VEngine where
  vl : Nat := 0
  fl : BitVec 5 := 0
  k4t : Nat := 0
  sat : Bool := false
  rm : Nat := 0
  type : Nat := 0
  vlt : Nat := 0
  vso : Word := 0
  busy : Nat := 0
  deriving DecidableEq, Repr

/-- Vector state (R125, R62, R256) and the four stochastic states (R35). Byte b of register r stands at 4096·r + b. -/
structure Vec where
  v : Sparse Byte := []
  empty : List Nat := []
  /-- Faulted registers: (register, (cause, first register of the span, REASON, address)). -/
  bad : Sparse (Nat × Nat × Nat × Nat) := []
  e0 : VEngine := {}
  e1 : VEngine := {}
  vrs0 : Nat := 1
  vrs1 : Nat := 1
  crs0 : Nat := 1
  crs1 : Nat := 1
  deriving DecidableEq, Repr

/-- A fault that a command met after issue (R152): the cause, the TINFO reason, and the virtual address where a
translation fault has one (R230). -/
structure CmdFault where
  cause : Nat
  reason : Nat
  va : Nat := 0
  deriving DecidableEq, Repr

/-- A token (R150, R200). -/
structure Token where
  gen : Nat := 0
  out : Bool := false
  flt : Option CmdFault := none
  deriving DecidableEq, Repr

/-- What a TID's entry gave a command at issue (R119): its words 0 to 4 and the AG set it names. -/
structure TidWords where
  tid : Nat
  w0 : Word
  w1 : Word
  w2 : Word
  w3 : Word
  w4 : Word
  ag : Nat
  deriving DecidableEq, Repr

/-- Tags of Z tiles (R162). -/
inductive ZTag where
  | fp32 | int32 | fp64Low | fp64High
  deriving DecidableEq, Repr

/-- Tag, ZK, where the last product made it in the array (R241: 0 nowhere, 1 column, 2 row, 3 PE; block row and block
column), and the four carried vectors of a Z tile (R162): 256 entries in the order column sums, row sums, column
magnitudes, row magnitudes, as FP64 or INT32 codes, sparse around 0. -/
structure ZTile where
  tag : ZTag := .fp32
  zk : Nat := 0
  lock : Nat := 0
  bkk : Nat := 0
  bcc : Nat := 0
  vec : Sparse Nat := []
  deriving DecidableEq, Repr

/-- Bytes that a command has read or written: of the pool, where `pool` says so (`pa` is then the pool address), else of
memory, with the leaf of their page. -/
structure Span where
  pool : Bool
  va : Nat
  pa : Nat
  leaf : Nat
  len : Nat
  deriving DecidableEq, Repr

/-- A command in an engine queue (R149, R172, R186): what it read at issue, and its progress. -/
structure Cmd where
  instr : Instr
  pc : Nat
  tok : Nat
  /-- Staging registers 0 to 7 of its engine. -/
  x : List Word
  a : TidWords
  b : TidWords
  y : TidWords
  /-- Tokens it consumes, with the generations it named (R151). -/
  uses : List (Nat × Nat)
  started : Bool := false
  finished : Bool := false
  /-- Steps done (R171, R186). -/
  step : Nat := 0
  fault : Option CmdFault := none
  /-- The number of the MLDW whose block a product uses (R164). -/
  block : Nat := 0
  /-- Hyperparameters read at the start (R183). -/
  hyper : List Nat := []
  /-- Translations its walker holds: the pages of its current step, and, while a step is made, those of the one before
  (R217, R230). -/
  pages : List Xlation := []
  prev : List Xlation := []
  /-- Destination bytes written up to the last step boundary (R230). -/
  bytes : Nat := 0
  /-- CSPARSE: pairs counted, pairs moved (R184). -/
  pairs : Nat := 0
  moved : Nat := 0
  /-- A result-stationary product holds its results in the PEs: the Z tiles and their vectors as they were before that
  (R166, R172). -/
  held : Bool := false
  zsave : Sparse Nat := []
  ztsave : Sparse ZTile := []
  /-- Tags of its writes that another package has not acknowledged yet (R153). -/
  tags : List Nat := []
  /-- Tags of the core's own stores that it follows (R201). -/
  after : List Nat := []
  /-- Its writes of memory: address, number, and the bytes where the command gives them rather than a fold unit (R201). -/
  wrote : List (Nat × Nat) := []
  /-- Z tiles it shares with another command without a token edge, or whose weight block has changed: their values are
  left open (R158, R170; log 8). -/
  wild : List Nat := []
  /-- Source and destination bytes of a copy command so far, for those it has in common (R174; log 8). -/
  src : List Span := []
  dst : List Span := []
  /-- A conversion that draws: what the engine's stochastic state is to hold after its last draw, where a MOVSR of its own
  bundle wrote it (R36). -/
  crs : Option Nat := none
  /-- Of a product (R379): FILL, COMPUTE, the cycles since its start, DEPEND, IDLE. -/
  cycles : List Nat := [0, 0, 0, 0, 0]
  deriving DecidableEq, Repr

/-- A weight buffer of the array as a core filled it (R158, R163): the MLDW's number, whether the block is still the
core's own, and the block's element codes with their scale bytes, tile by tile. -/
structure Weights where
  id : Nat
  own : Bool
  tiles : List (List Nat × List Nat)
  deriving DecidableEq, Repr

/-- The lease of a core on its cluster's array (R157). -/
inductive Lease where
  | none | requested | held
  deriving DecidableEq, Repr

/-- Engines of a core (R149 to R172): queues M, C0, C1, tokens, lease and Z tiles (element e of tile z at
4096·z + e). -/
structure Engines where
  qm : List Cmd := []
  q0 : List Cmd := []
  q1 : List Cmd := []
  /-- HGSCATs that have applied their contributions and whose tokens have not retired (R257). -/
  qv : List Cmd := []
  tok : Sparse Token := []
  lease : Lease := .none
  prio : Nat := 0
  cap : Nat := 0
  run : Nat := 0
  /-- An MLEASE has started and waits for the grant (R157). -/
  asked : Bool := false
  /-- MLDWs issued since dispatch, and the last one's format and block (R160, R163). -/
  nblock : Nat := 0
  bfmt : Nat := 0
  bk : Nat := 0
  bn : Nat := 0
  /-- The last MLDWs as issued, newest first, for reloads (R158). -/
  blocks : List (Nat × Cmd) := []
  wbuf : List Weights := []
  /-- What each of those MLDWs loaded first, to tell whether its block has changed since (R158). -/
  loads : List Weights := []
  z : Sparse Nat := []
  zt : Sparse ZTile := []
  deriving DecidableEq, Repr

/-- Residency of an overlay half (R299). -/
inductive Half where
  | empty
  | loading (s : Nat)
  | resident (s : Nat)
  | faulted (s cause reason va : Nat)
  deriving DecidableEq, Repr

/-- A line of the first-level cache (R188, R189): its address, its way, its filled sectors, and its bytes and write mask. -/
structure Line where
  pa : Nat
  way : Nat
  sectors : BitVec 4
  bytes : Sparse Byte
  /-- Masked byte offsets, rising. -/
  mask : List Nat
  /-- When it was last filled or written, for the choice of a victim (log 11). -/
  age : Nat
  deriving DecidableEq, Repr

/-- Storage of a core: pool (R187), instruction memory (R294), monitor store (R266), first-level cache, core TLB. -/
structure Store where
  pool : Sparse Byte := []
  imem : Sparse Byte := []
  half0 : Half := .empty
  half1 : Half := .empty
  /-- The kernel whose segments the halves hold (R299). -/
  imemKern : Nat := 0
  mon : Sparse Byte := []
  /-- The context whose monitor image is held, and the one that used the scratchpad last (R187, R266). -/
  monCtx : Nat := 0
  poolCtx : Nat := 0
  lines : List Line := []
  /-- Vector accesses and arrivals on pool banks (R145): the agent (0 V0, 1 V1, 3 a CSEND arrival), the bank, and the cycle
  in which the access is over. -/
  uses : List (Nat × Nat × Nat) := []
  /-- Bytes that a fold unit has updated for the grid command at hand: address and number (R201). -/
  cells : List (Nat × Nat) := []
  tlb : List Xlation := []
  /-- Translations that the core TLB gave up, kept in idle cache ways and instruction lines, newest first (R217). -/
  victims : List Xlation := []
  /-- Tags of remote stores not acknowledged yet: ordinary and non-temporal (R195, R199). -/
  remote : List Nat := []
  remoteNt : List Nat := []
  /-- The core's last task was aborted: the core is not free before its stores are performed (R231, R316). -/
  settling : Bool := false
  deriving DecidableEq, Repr

/-- Synchronisation state (R323, R329, R336, R325). -/
structure Sync where
  flag : Sparse Nat := []
  /-- Barriers with ARR = 1, rising. -/
  arr : List Nat := []
  ph : Sparse Nat := []
  /-- Waits at barriers that are under way: the level of the held bundle (0 the task, 1 an arrival handler, 2 a trap handler,
  3 the monitor), its address, and the barrier at which its BARV has arrived or its BARW waits (R330). -/
  barv : List (Nat × Nat × Nat) := []
  /-- The bundle whose BARV has arrived last, by level and address, and the translations with which its other slots were judged
  then (R330). -/
  judged : Option (Nat × Nat × List Xlation) := none
  /-- The barrier of an arrival made by BARS, for R327. -/
  bars : List Nat := []
  /-- The counter a held CWAIT has asked for, its n and the tag of its message to another package, and whether it has
  been granted (R336). -/
  cwait : Option (Nat × Nat × Nat) := none
  granted : Bool := false
  /-- The reduction region of that counter, 0 for none (R358). -/
  cregion : Nat := 0
  /-- The saved task this core holds a catch for (R325). -/
  caught : Option Nat := none
  deriving DecidableEq, Repr

/-- Debug state (R376 to R387). -/
structure Debug where
  sper : Nat := 0
  bstop : Bool := false
  acyc : Bool := false
  task : Bool := false
  step : Bool := false
  stop : Bool := false
  trbase : Nat := 0
  tlog : Nat := 0
  trdrop : Nat := 0
  head : Nat := 0
  wst : Bool := false
  wld : Bool := false
  fpcnt : Nat := 0
  skip : Bool := false
  unscr : Bool := false
  ovf : Bool := false
  filter : BitVec 1024 := 0
  /-- The exact list: address and length. -/
  exact : List (Nat × Nat) := []
  stopped : Bool := false
  /-- Debug word 2, and the word DATA reaches next. -/
  sel : Word := 0
  dix : Nat := 0
  /-- The cycle at which the stop was asked for, and the REASON its record will carry (R380, R384). -/
  asked : Int := 0
  reason : Nat := 0
  /-- The last WATCH was raised by a store or an atomic (R377). -/
  wrote : Bool := false
  /-- One more than the cycle of the last sample, 0 where none was taken (R378). -/
  sampled : Nat := 0
  /-- A kernel iteration ended with the last bundle (R380). -/
  iterEnd : Bool := false
  /-- What a forced stop captured (R380). -/
  frame : Option Frame := none
  deriving DecidableEq, Repr

/-- The task on a core (R296, R321): kernel, linear index, context, gang (none when it has none), the DTB at which it
was placed or resumed, CYC at dispatch, and the consecutive runs that ended by one cause before this one (R317). -/
structure Task where
  kern : Nat
  idx : Nat
  ctx : Nat
  gang : Option Nat
  placed : Nat
  born : Int
  runs : Nat
  runCause : Nat
  /-- EXIT has issued and waits for the tokens of its own bundle (R319): the status. -/
  ending : Option Nat
  deriving DecidableEq, Repr

/-- A core. -/
structure Core where
  id : Nat := 0
  task : Option Task := none
  seq : Seq := {}
  sc : Scalar := {}
  lp : Loops := {}
  tr : Traps := {}
  st : Staging := {}
  vec : Vec := {}
  eng : Engines := {}
  loc : Store := {}
  sy : Sync := {}
  dbg : Debug := {}
  flight : List Landing := []
  waiting : List Waiting := []
  deriving DecidableEq, Repr

/-! ### The package -/

/-- A message between packages: its traffic class (R346), its destination, what happens there, while it has no route the DTB of D0
since when, and the die that it leaves from (R345). -/
structure Parcel where
  cls : Nat
  dst : Nat
  msg : Instr
  since : Option Nat := none
  die : Nat := 0
  deriving DecidableEq, Repr

/-- States of a port (R343, R344). -/
inductive PortState where
  | disabled | down | training | up | retraining
  deriving DecidableEq, Repr

/-- A Rontil port (R342 to R344): register fields, sequence numbers, the messages not acknowledged, and the DTB at
which it entered its state. -/
structure Port where
  state : PortState := .disabled
  en : Bool := true
  peerPkg : Nat := 0
  peerDie : Nat := 0
  peerPort : Nat := 0
  miswire : Bool := false
  replay : Nat := 0
  retrain : Nat := 0
  downs : Nat := 0
  /-- The sequence number of the next new flit, and of the first one that is not acknowledged: the replay buffer holds those between
  them (R342). -/
  txSeq : Nat := 0
  ackNext : Nat := 0
  /-- The sequence number of the next flit to go out on the wire: behind txSeq while a replay is to be made (R342). -/
  wire : Nat := 0
  /-- Messages that are out and not acknowledged: the sequence number of the last flit, and the message. -/
  sent : List (Nat × Parcel) := []
  /-- Messages some of whose flits are out, at most one of a class, with the number of flits still to go (R341, R346). -/
  tails : List (Parcel × Nat) := []
  /-- The place in the round of the bulk classes (R346), and the bellwether flits that were admitted, by flit time. -/
  round : Nat := 0
  bell : List (Nat × Nat) := []
  /-- Receive credits of the peer by class, in flits: no limit before it has sent any (R341, R346; log 119). -/
  credits : Sparse (Option Nat) := []
  /-- Sequence numbers that a NAK has named and that have not passed since (R342). -/
  failed : List Nat := []
  /-- As the receiver (R342): the SEQ it expects, the flits accepted since its last control flit and the DTB at the first of them,
  and the SEQ that it has refused last. -/
  rxSeq : Nat := 0
  rxGot : Nat := 0
  rxSince : Nat := 0
  rxFailed : Option Nat := none
  /-- The control flits that it has sent since it was trained, newest first: whether an ACK, and the SEQ. -/
  control : List (Bool × Nat) := []
  /-- The hop delay measured at training, in ns (R396). -/
  delay : Nat := 0
  since : Nat := 0
  deriving DecidableEq, Repr

/-- A die (R22, R217, R224, R247, R325, R344, R396). -/
structure Die where
  dtb : Nat := 0
  /-- The first message has set the DTB. -/
  set : Bool := false
  /-- Consecutive messages with d ≤ 20 ns. -/
  good : Nat := 0
  /-- Leases are treated as 0. -/
  lease0 : Bool := true
  /-- What slewing has still to correct, in ns (reference minus DTB). -/
  slew : Int := 0
  /-- Ticks modulo 100, for the rate of slewing (R396). -/
  phase : Nat := 0
  /-- Hops to the time master, as the last message counted them (R341). -/
  hops : Nat := 0
  corr : Nat := 0
  regen : Nat := 0
  tchk : Nat := 0
  skew : Nat := 0
  logHead : Nat := 0
  /-- Log entries by index: the word of R248 and the DTB. -/
  log : Sparse (Word × Word) := []
  postdrop : Nat := 0
  ports : Sparse Port := []
  tlb : List Xlation := []
  deriving DecidableEq, Repr

/-- A location of R241. -/
inductive Loc where
  | column (j : Nat)
  | row (i : Nat)
  | pe (i j : Nat)
  deriving DecidableEq, Repr

/-- A cluster's array (R157, R158, R241, R242, R249). -/
structure Cluster where
  holder : Option Nat := none
  lastHolder : Nat := 3
  hist : List (Loc × Nat) := []
  rows : List Nat := []
  cols : List Nat := []
  failed : Bool := false
  repair : Option Loc := none
  /-- Cycles of the array's product unit that the next product to start is charged with: DEPEND and IDLE (R379). -/
  depend : Nat := 0
  idle : Nat := 0
  deriving DecidableEq, Repr

/-- States of a hardware queue slot (R290). -/
inductive SlotState where
  | free | binding | active | held | error | unbinding | resetting
  deriving DecidableEq, Repr

/-- A fetched packet (R277, R280): its index and words, a fault of its fetch, and how far it is. -/
structure Packet where
  idx : Nat
  words : List Word
  fault : Bool := false
  started : Bool := false
  complete : Bool := false
  /-- A WAITSIG's condition has held (R277). -/
  met : Bool := false
  deriving DecidableEq, Repr

/-- A hardware queue slot and the queue bound to it (R273, R282). -/
structure Slot where
  sqcb : Word := 0
  state : SlotState := .free
  ctx : Nat := 0
  nidx : Nat := 0
  status : Nat := 0
  rqctx : Nat := 0
  prio : Nat := 0
  rqprio : Nat := 0
  req : Nat := 0
  fetch : Nat := 0
  rdidx : Nat := 0
  wridx : Nat := 0
  errcode : Nat := 0
  erridx : Nat := 0
  rbase : Nat := 0
  rlog : Nat := 0
  msiv : Nat := 0
  errsig : Nat := 0
  /-- The address of the QCB and its words 0 to 4 as MAP read them, and the ERRCODE that the QCB holds (R273, R286). -/
  home : Nat := 0
  image : List Word := []
  qcode : Nat := 0
  packets : List Packet := []
  /-- Tags of stores to other packages that are not acknowledged yet (R285): of a packet's signal, with its index, or of ERRSIG,
  with none. -/
  tags : List (Nat × Option Nat) := []
  /-- The packet that has found V = 0 and is retried by RESUME, none for the ring itself (R283, R286). -/
  heldAt : Option Nat := none
  deriving DecidableEq, Repr

/-- States of a kernel (R303). -/
inductive KernelState where
  /-- Its record has passed the checks here, and the other packages that it names are asked whether its context is LIVE there
  (R308). -/
  | checking
  | dispatching | running | failing | completing | complete | rejected | cancelled
  deriving DecidableEq, Repr

/-- A level of a hierarchy (R293). -/
structure Level where
  count : Nat
  gang : Bool
  scope : Nat
  dom : Nat
  deriving DecidableEq, Repr

/-- An overlay segment (R294). -/
structure Segment where
  va : Nat
  sb : Nat
  half : Nat
  len : Nat
  deriving DecidableEq, Repr

/-- A kernel (R291 to R298, R303): what its launch record gave, and its progress. -/
structure Kernel where
  id : Nat
  slot : Nat
  packet : Nat
  ctx : Nat
  lrec : Nat
  arg : Word
  idem : Bool
  seed : Nat
  entry : Nat
  b1 : Nat
  b2 : Nat
  b3 : Nat
  levels : List Level
  handles : List Word
  tits : List (Nat × List Word)
  segs : List Segment
  next : Nat
  stat : Nat
  state : KernelState
  /-- Linear indices of the tasks of this package: first, number, next to dispatch. -/
  first : Nat
  count : Nat
  nextTask : Nat
  /-- Tasks that have ended. -/
  ended : List Nat
  /-- Tasks to dispatch ahead of the others: index, consecutive runs, their cause (R317). -/
  again : List (Nat × Nat × Nat)
  /-- Tasks that wait for a page: index, address, runs, cause (R231). -/
  blocked : List (Nat × Nat × Nat × Nat)
  /-- Bindings of groups to instances: (level, group number, instance) (R305). -/
  bound : List (Nat × Nat × Nat)
  /-- Failures recorded: index and cause (R298). -/
  fails : List (Nat × Nat)
  /-- The package that launched it, and for each other part whether it is complete (R307). -/
  home : Nat
  parts : List (Nat × Bool)
  /-- The words of its record, until every part is handed out (R291, R307). -/
  words : List Word := []
  /-- It was launched by NEXT of another one (R297). -/
  dependent : Bool := false
  /-- The tags of its status record's messages that another package has not acknowledged (R206, R298). -/
  tags : List Nat := []
  deriving DecidableEq, Repr

/-- A saved task (R313 to R315): the core as saved, the core it ran on, and its save slot. -/
structure Saved where
  key : Nat
  core : Core
  sinceDtb : Nat
  deriving DecidableEq, Repr

/-- The front end (R273 to R290, R303, R311). -/
structure FrontEnd where
  slots : Sparse Slot := []
  /-- Wake latches and pending bits by notify index (R274 to R276); gated apertures, and those of them that are to be
  ungated (R275). -/
  latch : Sparse Nat := []
  pend : List Nat := []
  gated : List Nat := []
  waking : List Nat := []
  /-- The context of the last QCB bound under a notify index (R286). -/
  owner : Sparse Nat := []
  kernels : List Kernel := []
  nextKernel : Nat := 1
  saved : List Saved := []
  nextSaved : Nat := 1
  /-- Slot that placed the last task (R287). -/
  lastSlot : Nat := 63
  /-- Route tags in use: gang numbers (R332). -/
  tags : List Nat := []
  /-- Interrupts sent to the host and events raised for the drover, newest first (R279, R286). -/
  msix : List Nat := []
  events : List (Nat × Nat) := []
  /-- DTB of the last pre-emption made for each slot (R311). -/
  lastPre : Sparse Nat := []
  /-- DTB since which a slot's task has waited for a core (R311). -/
  waits : Sparse Nat := []
  deriving DecidableEq, Repr

/-- States of a context (R263, R272). -/
inductive CtxState where
  | free | creating | live | resetting | quiescing | draining
  deriving DecidableEq, Repr

/-- A context descriptor (R263). -/
structure Context where
  state : CtxState := .free
  root : Nat := 0
  lmax : Nat := 0
  priomax : Nat := 0
  mask : BitVec 256 := 0
  d1 : Nat := 0
  d2 : Nat := 0
  d3 : Nat := 0
  budget : Nat := 0
  monBase : Nat := 0
  monLen : Nat := 0
  deadline : Nat := 0
  deriving DecidableEq, Repr

/-- The crook's state (R263, R267, R318, R393): contexts, mailbox words at 8·k + w, MBHEAD, MBTAIL, the next entry it
serves and the entries whose status waits for quiescence (index, OP, context), retired cores, failed stacks, and the
clusters whose hardware it knows to be replaced. -/
structure Crook where
  ctx : Sparse Context := []
  mail : Sparse Word := []
  head : Nat := 0
  tail : Nat := 0
  served : Nat := 0
  owed : List (Nat × Nat × Nat) := []
  retired : BitVec 256 := 0
  lostStacks : List Nat := []
  replaced : List Nat := []
  /-- The polling position that D0's DTB stands in, counted from DTB 0 (R288). -/
  pos : Nat := 0
  /-- Tags of writes to other packages that are not acknowledged yet (R268). -/
  tags : List Nat := []
  deriving DecidableEq, Repr

/-- A region instance that the ring sequencers of the package hold (R361): its kernel, the members heard from, the
chunks done here, and the results written. -/
structure Region where
  id : Nat
  ctx : Nat
  inst : Nat
  kern : Nat
  done : List Nat
  acks : List Nat
  /-- Chunks launched or added here, and results written here as (chunk, tile). -/
  chunks : List Nat
  results : List (Nat × Nat)
  /-- The descriptor as it stood when the instance was armed: software must not store to it while the region is not IDLE
  (R348). -/
  fixed : List Byte := []
  /-- The kernel whose RGO holds a start pending (R361). -/
  next : Option Nat := none
  deriving DecidableEq, Repr

/-- Who reads bytes that another package has still to send (R190): the bundle at issue on a core, a command of a core by
its token, the copy of a segment, a background walk of XLAT, an event that waits, a packet of a queue slot, a kernel, a region,
the crook. The model's own (log 103). -/
inductive Reader where
  | issue (core : Nat)
  | command (core tok : Nat)
  | segment (core half : Nat)
  | walk (core ctx va : Nat)
  | event (i : Instr)
  | slot (p packet : Nat)
  | kernel (k : Nat)
  | region (ctx id : Nat)
  | crook
  deriving DecidableEq, Repr

/-- A read request to another package and its answer, a status and bytes (R341). For an entry of a page table: the virtual
address of the walk and the DTB at which that walk started (R219). -/
structure Ask where
  who : Reader
  va : Option Nat
  since : Nat
  pa : Nat
  len : Nat
  tag : Nat
  answer : Option (Nat × List Byte)
  deriving DecidableEq, Repr

/-- The fabric side (R20, R341, R345, R348): the package's number, the packages of the domain, messages for other
packages, regions held, tags of outstanding messages. -/
structure Fabric where
  pkg : Nat := 0
  domain : List Nat := [0]
  out : List Parcel := []
  /-- Reads of other packages that are under way for an operation that is tried again, the operation at hand (none for the
  bundle at issue), and bytes it found that it lacks (log 103). -/
  asks : List Ask := []
  reader : Option Reader := none
  wanted : Option (Option Nat × Nat × Nat) := none
  /-- Abandoned walks (R219): who walked, the virtual address, how often. -/
  tries : List (Reader × Nat × Nat) := []
  regions : List Region := []
  /-- Partials and results that wait for a member to be ARMED in their instance (R352). -/
  parked : List Instr := []
  /-- Regions stored to where software must not: (context, id); their results are left open (R348, R349;
  log 8). -/
  tampered : List (Nat × Nat) := []
  /-- Region instances lost in a reset that kept memory: (id, inst) (R358). -/
  lost : List (Nat × Nat) := []
  /-- After a cold reset: every region not held is answered FAIL, but for those known again; the instances that were
  answered so, by region (R358). -/
  coldLost : Bool := false
  known : List Nat := []
  refused : Sparse (Option Nat) := []
  nextTag : Nat := 0
  /-- Messages sent that await an answer: tag, core, destination package. -/
  pending : List (Nat × Nat × Nat) := []
  /-- CWAIT requests at this package's counters, oldest first: address, n, core. -/
  cwaits : List (Nat × Nat × Nat) := []
  /-- Of the requests of other packages at counters of reduction regions: who, the region and its context there (R358). -/
  cregions : List (Nat × Nat × Nat) := []
  /-- The last instances of regions that are held no longer, IDLE or FAILED, for the reset of the kernel that armed them (R359,
  R361). -/
  past : List Region := []
  /-- DONE messages for instances that are not held yet: (id, instance, package) (R361). -/
  early : List (Nat × Nat × Nat) := []
  /-- Arrivals of packages at domain barriers: (kernel, barrier, phase, package) (R332). -/
  barriers : List (Nat × Nat × Nat × Nat) := []
  /-- Kernels whose part here has ended: it counts as arrived in every later phase of a domain barrier (R331). -/
  gone : List Nat := []
  deriving DecidableEq, Repr

/-- The serial flash (R390): whether it can be read, and its 64 MiB, byte by byte. -/
structure Flash where
  readable : Bool := true
  bytes : Sparse Byte := []
  deriving DecidableEq, Repr

/-- Host link and management (R207, R362 to R364, R389 to R398). -/
structure HostSide where
  hwbase : Word := 0
  savebase : Word := 0
  saveSet : Bool := false
  stage : Nat := 0
  err : Nat := 0
  svn : Nat := 0
  fuse : Nat := 0
  /-- The fused digests of the public keys (R390): SHA-384 of the ECDSA key, SHA-256 of the LMS key. -/
  ecdsaKey : BitVec 384 := 0
  lmsKey : BitVec 256 := 0
  flash : Flash := {}
  /-- Of the verified image: the monitor signing keys (R391), its digest and the identity key derived at boot (R398). -/
  monKeys : List Byte := []
  digest : List Byte := []
  identity : List Byte := []
  /-- The recovery window (R392), byte by byte. -/
  window : Sparse Byte := []
  power : Nat := 5400
  /-- The board's power limit of an HX8-P-2T, none for an HX8-M-2T (R397). -/
  board : Option Nat := none
  /-- HWBASE has been written and Bus Master is enabled since the last reset (R399), and the ports, 6·die + j, whose first word the
  host has read. -/
  hwSet : Bool := false
  master : Bool := false
  portsRead : List Nat := []
  /-- Accesses of host memory that have failed and are to be told so (R363). -/
  failed : List Reader := []
  /-- The endpoint's read-ahead buffer (R207): an offset of the relaxed window, and what it held when it was read. -/
  ahead : Option (Nat × List Byte) := none
  /-- Answers to the host and to management, newest first: 0 data and the bytes, 1 Completer Abort,
  2 Unsupported Request. -/
  answers : List (Nat × List Byte) := []
  /-- Package arm block (R387). -/
  arm0 : Word := 0
  arm1 : Word := 0
  /-- SPDM: messages exchanged so far (R398). -/
  spdm : Nat := 0
  deriving DecidableEq, Repr

/-- The state of the machine (log 1). `agenda` and `turn` are the schedule (log 2); `free` counts the free values
drawn so far (log 8). -/
structure State where
  agenda : List Instr
  turn : List Nat
  core : Core
  others : List Core
  mem : List Host.Cell
  dies : Sparse Die
  clusters : Sparse Cluster
  fe : FrontEnd
  crook : Crook
  fab : Fabric
  host : HostSide
  free : Nat
  deriving DecidableEq, Repr

/-- What stops the machine. -/
inductive Fault where
  /-- Raised by `step` when the next entry of the agenda is a slot instruction, or an event that names what does not
  exist (log 2). Safe: the agenda is the model's schedule, and no hardware does this. -/
  | illFormedEvent
  deriving DecidableEq, Repr

/-- What the model refuses. -/
inductive Refusal where
  /-- Raised by an arm of `exec` that has no meaning yet, with the mnemonic. Safe: nothing runs. -/
  | notModelled (mnemonic : String)
  deriving DecidableEq, Repr

/-- The machine right after reset, before its crook has booted (R389, R393): the current core is core 0, every other
core is as a core at reset is, and memory lists nothing. -/
def State.reset : State where
  agenda := []
  turn := []
  core := {}
  others := []
  mem := []
  dies := []
  clusters := []
  fe := {}
  crook := {}
  fab := {}
  host := {}
  free := 0

end Sys2Proof.Machine
end

