-- ==== Sys2Proof/Machine/Sparse.lean ====
section
/-! DEFINITION. Sparse tables: reading, writing, and their canonical form. Memory is one of them. -/

namespace Sys2Proof.Machine

/-- What index `k` reads as; `d` where it is not listed. -/
def Sparse.get {α : Type} (d : α) : Sparse α → Nat → α
  | [], _ => d
  | (i, v) :: t, k => if i = k then v else Sparse.get d t k

/-- The entries of consecutive values from `base` on, those equal to `d` left out. -/
def Sparse.entries {α : Type} [DecidableEq α] (d : α) (base : Nat) : List α → Sparse α
  | [] => []
  | v :: vs => if v = d then Sparse.entries d (base + 1) vs else (base, v) :: Sparse.entries d (base + 1) vs

/-- Write consecutive values from `base` on. -/
def Sparse.write {α : Type} [DecidableEq α] (d : α) (l : Sparse α) (base : Nat) (vs : List α) : Sparse α :=
  l.filter (fun p => decide (p.1 < base)) ++ Sparse.entries d base vs ++
    l.filter (fun p => decide (base + vs.length ≤ p.1))

/-- Write one value. -/
def Sparse.set {α : Type} [DecidableEq α] (d : α) (l : Sparse α) (k : Nat) (v : α) : Sparse α :=
  Sparse.write d l k [v]

/-- Read `n` consecutive values. -/
def Sparse.read {α : Type} (d : α) (l : Sparse α) (base n : Nat) : List α :=
  (List.range n).map (fun i => Sparse.get d l (base + i))

/-- Write `n` times the unlisted value. -/
def Sparse.clear {α : Type} (l : Sparse α) (base n : Nat) : Sparse α :=
  l.filter (fun p => decide (p.1 < base)) ++ l.filter (fun p => decide (base + n ≤ p.1))

/-- The canonical form: indices strictly rising from `lo` on, no entry equal to `d`. -/
def Sparse.wfFrom {α : Type} [DecidableEq α] (d : α) : Nat → Sparse α → Bool
  | _, [] => true
  | lo, (i, v) :: t => decide (lo ≤ i) && decide (v ≠ d) && Sparse.wfFrom d (i + 1) t

/-- The canonical form of a table. -/
def Sparse.wf {α : Type} [DecidableEq α] (d : α) (l : Sparse α) : Bool := Sparse.wfFrom d 0 l

/-- The canonical form of memory. -/
def Memory.wf (m : List Host.Cell) : Bool := Sparse.wf (0 : Byte) m

/-- What a byte of memory reads as that nothing has written (log 5). -/
def Memory.unlisted : Byte := 0

/-- One byte of memory. -/
def Memory.byte (m : List Host.Cell) (a : Nat) : Byte := Sparse.get Memory.unlisted m a

/-- Bytes of memory from an address on. -/
def Memory.bytes (m : List Host.Cell) (a n : Nat) : List Byte := Sparse.read Memory.unlisted m a n

/-- Write bytes of memory from an address on. -/
def Memory.store (m : List Host.Cell) (a : Nat) (bs : List Byte) : List Host.Cell :=
  Sparse.write Memory.unlisted m a bs

/-- The little-endian value of bytes (R7). -/
def leNat : List Byte → Nat
  | [] => 0
  | b :: bs => b.toNat + 256 * leNat bs

/-- The `n` little-endian bytes of a value (R7). -/
def leBytes : Nat → Nat → List Byte
  | 0, _ => []
  | n + 1, x => BitVec.ofNat 8 x :: leBytes n (x / 256)

/-- A 64-bit word from a Nat. -/
def w64 (x : Nat) : Word := BitVec.ofNat 64 x

/-- Bits lo to lo + n − 1 of a number. -/
def bits (x lo n : Nat) : Nat := x / 2 ^ lo % 2 ^ n

/-- One bit of a number. -/
def bit (x lo : Nat) : Bool := x / 2 ^ lo % 2 == 1

/-- A field at a bit position. -/
def fld (v lo : Nat) : Nat := v * 2 ^ lo

/-- A flag at a bit position. -/
def flg (b : Bool) (lo : Nat) : Nat := if b then 2 ^ lo else 0

/-- The signed value of an n-bit field, as a 64-bit word. -/
def sext (n x : Nat) : Word := BitVec.ofInt 64 (signedOf n x)

/-- Saturating addition. -/
def satAdd (x n top : Nat) : Nat := if top < x + n then top else x + n

/-- A rising list of numbers with one more in it. -/
def insertNat (n : Nat) : List Nat → List Nat
  | [] => [n]
  | a :: t => if n < a then n :: a :: t else if n = a then a :: t else a :: insertNat n t

/-- A list without a number. -/
def dropNat (n : Nat) (l : List Nat) : List Nat := l.filter (fun x => decide (x ≠ n))

/-- Replace one entry of a list. -/
def setAt {α : Type} : List α → Nat → α → List α
  | [], _, _ => []
  | _ :: t, 0, v => v :: t
  | a :: t, n + 1, v => a :: setAt t n v

/-- The entries of a list that a test finds, changed. -/
def mapIf {α : Type} (c : α → Bool) (f : α → α) (l : List α) : List α := l.map (fun x => if c x then f x else x)

end Sys2Proof.Machine
end

