-- ==== Sys2Proof/Machine/Home.lean ====
section
/-! DEFINITION. Physical addresses and homes, messages to other packages, and reads of bytes whose home is another package
(R16, R17, R190, R341, R346, R347). -/

namespace Sys2Proof.Machine

/-! ### Physical addresses (R16) -/

/-- The package an address names. -/
def paPkg (a : Nat) : Nat := bits a 46 6
/-- SPACE: 0 HBM, 1 host window, 2 device registers. -/
def paSpace (a : Nat) : Nat := bits a 41 5
/-- The home stack. -/
def paStack (a : Nat) : Nat := bits a 36 5
/-- The die that holds it (R13). -/
def paDie (a : Nat) : Nat := paStack a / 4

/-- An address that a memory access may reach: HBM of a package of the domain whose stack works, or the host window
(R16, R345, R393). The reason is that of R373. -/
def State.paFault (s : State) (a : Nat) : Option Nat :=
  if !s.fab.domain.contains (paPkg a) then some 2
  else if paSpace a = 1 then none
  else if paSpace a ≠ 0 then some 0
  else if paPkg a = s.fab.pkg ∧ s.crook.lostStacks.contains (paStack a) then some 0
  else none

/-- Store bytes at a physical address. -/
def State.storeMem (s : State) (a : Nat) (bs : List Byte) : State := { s with mem := Memory.store s.mem a bs }

/-- Where the byte at a physical address stands in the model's memory: host memory by its bus address above 2^52 (R363;
log 18). The host window of every package is this package's own, whatever its PKG (log 18). -/
def State.key (s : State) (pa : Nat) : Nat :=
  if paSpace pa = 1 then 2 ^ 52 + (s.host.hwbase.toNat + pa % 2 ^ 41) % 2 ^ 64 else pa

/-- HBM of another package. -/
def State.remote (s : State) (pa : Nat) : Bool := paSpace pa == 0 && paPkg pa != s.fab.pkg

/-- Bytes at a home of this package, or of the host. -/
def State.homeBytes (s : State) (pa n : Nat) : List Byte := Memory.bytes s.mem (s.key pa) n

/-! ### Free values (log 8) -/

/-- A free value. -/
def State.draw (s : State) : Nat × State := ((Config.freeValue s.free).toNat, { s with free := s.free + 1 })

/-- The next n free values. -/
def State.draws (s : State) (n : Nat) : List Nat × State :=
  ((List.range n).map fun k => (Config.freeValue (s.free + k)).toNat, { s with free := s.free + n })
/-- n free bytes. -/
def State.drawBytes (s : State) (n : Nat) : List Byte × State :=
  let r := s.draws n
  (r.1.map (BitVec.ofNat 8), r.2)

/-! ### Messages (R341, R346, R347) -/

/-- The traffic class of a message that no command or region gives one: posts, combines, hand-offs, ring control and DTB
synchronisation are bellwether traffic (R347), everything else is bulk of class 0 (log 104). -/
def msgClass : Instr → Nat
  | .flagPost .. => 3
  | .barrierCombine .. => 3
  | .launchHandOff .. => 3
  | .packagePartComplete .. => 3
  | .armed .. => 3
  | .done .. => 3
  | .fail .. => 3
  | .ringAbort .. => 3
  | .abortAck .. => 3
  | .dtbSynchronisation .. => 3
  | _ => 0

/-- The operation at hand. -/
def State.me (s : State) : Reader := match s.fab.reader with | some r => r | none => .issue s.core.id

/-- The core whose operation it is. -/
def Reader.core? : Reader → Option Nat
  | .issue c => some c
  | .command c _ => some c
  | .segment c _ => some c
  | .walk c _ _ => some c
  | _ => none

/-- The die on which an operation runs: its core's, or D0 for the front end and the crook (log 119). -/
def Reader.die (who : Reader) : Nat := match who.core? with | some c => c / 32 | none => 0

/-- Send a message to another package from a die, in a traffic class. -/
def State.sendFrom (s : State) (die cls pkg : Nat) (m : Instr) : State :=
  { s with fab := { s.fab with out := s.fab.out ++ [{ cls := cls, dst := pkg, msg := m, die := die }] } }

/-- Send a message to another package in a traffic class, from the die on which the operation at hand runs. -/
def State.sendIn (s : State) (cls pkg : Nat) (m : Instr) : State := s.sendFrom s.me.die cls pkg m

/-- Send a message to another package in the class of its kind. -/
def State.send (s : State) (pkg : Nat) (m : Instr) : State := s.sendIn (msgClass m) pkg m

/-- A tag for a message that awaits an answer (R341), and its record. -/
def State.newTag (s : State) (dest : Nat) : Nat × State :=
  let t := s.fab.nextTag
  (t, { s with fab := { s.fab with nextTag := (t + 1) % 65536, pending := s.fab.pending ++ [(t, s.core.id, dest)] } })

/-! ### Bytes that another package has to send (R190; log 103) -/

/-- The reads that an operation has sent. -/
def State.asksOf (s : State) (who : Reader) : List Ask := s.fab.asks.filter fun a => a.who == who

/-- When the walk of an operation for a virtual address began (R219): the DTB of its die at its first read that another
package has to answer. -/
def State.walkSince (s : State) (who : Reader) (va : Nat) : Option Nat :=
  ((s.asksOf who).find? fun a => a.va == some va).map Ask.since

/-- How often the walk of an operation for a virtual address has been abandoned (R219). -/
def State.triesOf (s : State) (who : Reader) (va : Nat) : Nat :=
  match s.fab.tries.find? fun t => t.1 == who && t.2.1 == va with | some t => t.2.2 | none => 0

/-- A walk is abandoned, and what it has read is discarded (R219). -/
def State.abandon (s : State) (who : Reader) (va : Nat) : State :=
  let n := s.triesOf who va
  { s with fab := { s.fab with
    asks := s.fab.asks.filter fun a => !(a.who == who && a.va == some va)
    tries := (who, va, n + 1) :: s.fab.tries.filter fun t => !(t.1 == who && t.2.1 == va) } }

/-- The DTB of the die on which an operation runs. -/
def State.now (s : State) (who : Reader) : Nat := (Sparse.get ({} : Die) s.dies who.die).dtb

/-- The walk of an operation for a virtual address began more than 2,000 ns ago (R219), whether or not it still lacks an entry:
the first entry it read. -/
def State.overdue (s : State) (who : Reader) (va : Nat) : Option Nat :=
  let l := (s.asksOf who).filter fun a => a.va == some va
  if l.any fun a => decide (a.since + 2000 < s.now who) then l.head?.map Ask.pa else none

/-- A walk that is overdue starts again: it is abandoned where it lacks an entry; where it had them all, their values are read
again and no longer serve a retry of the operation (R219, R221). -/
def State.rewalk (s : State) (who : Reader) (va : Nat) : State :=
  if (s.asksOf who).any fun a => a.va == some va && a.answer.isNone then s.abandon who va
  else { s with fab := { s.fab with asks := s.fab.asks.filter fun a => !(a.who == who && a.va == some va) } }

/-- Ask the home of some bytes for them, once for each operation, and for each of its walks (R210); a walk that has run for too
long starts again (R219). -/
def State.ask (s : State) (who : Reader) (va : Option Nat) (pa n : Nat) : State :=
  let s := match va with | some v => (match s.overdue who v with | some _ => s.rewalk who v | none => s) | none => s
  if (s.asksOf who).any fun a => a.va == va && a.pa == pa && a.len == n then s
  else
    let r := s.newTag (paPkg pa)
    let since := match va with | some v => (s.walkSince who v).getD (s.now who) | none => s.now who
    let s := r.2.send (paPkg pa) (.readRequest pa n r.1 s.fab.pkg)
    { s with fab := { s.fab with asks := s.fab.asks ++ [⟨who, va, since, pa, n, r.1, none⟩] } }

/-- An operation is over: what it was sent serves no other, its walks are over, and it has been told of a failed access of host
memory. -/
def State.forget (s : State) (who : Reader) : State :=
  { s with
    fab := { s.fab with asks := s.fab.asks.filter (fun a => a.who != who), tries := s.fab.tries.filter fun t => t.1 != who }
    host := { s.host with failed := s.host.failed.filter (· != who) } }

/-- The operations of a core are over. -/
def State.forgetCore (s : State) (c : Nat) : State :=
  { s with
    fab := { s.fab with
      asks := s.fab.asks.filter fun a => a.who.core? != some c
      tries := s.fab.tries.filter fun t => t.1.core? != some c }
    host := { s.host with failed := s.host.failed.filter fun w => w.core? != some c } }

/-- An operation waits for an answer. -/
def State.asking (s : State) (who : Reader) : Bool := (s.asksOf who).any fun a => a.answer.isNone

/-- Ask, or nothing where that was asked for before. -/
def State.askOnce (s : State) (who : Reader) (va : Option Nat) (pa n : Nat) : Option State :=
  let t := s.ask who va pa n
  if t.fab.asks == s.fab.asks then none else some t

/-- Bytes at a physical address as the operation at hand finds them. -/
inductive Found where
  | bytes (bs : List Byte)
  /-- Their package has still to send them. -/
  | pending
  /-- It answered with a status. -/
  | failed (status : Nat)
  deriving DecidableEq, Repr

/-- Bytes at their home: here, or in the answer of another package to this operation, or to its walk for `va`: every walk reads
its entries itself (R210, R211). -/
def State.find (s : State) (va : Option Nat) (pa n : Nat) : Found :=
  if s.remote pa then
    match ((s.asksOf s.me).find? fun a => a.va == va && a.pa == pa && a.len == n).bind Ask.answer with
    | some (0, bs) => .bytes bs
    | some (k, _) => .failed k
    | none => .pending
  else .bytes (s.homeBytes pa n)

/-- The operation at hand lacks bytes: what it did is taken back, and it is tried again once they are there. -/
def State.wants (s : State) (va : Option Nat) (pa n : Nat) : State :=
  { s with fab := { s.fab with wanted := some (va, pa, n) } }

/-- Do something as an operation of its own: it comes about, or asks for bytes that it lacks and changes nothing. The flag
says which. -/
def State.attemptBy (s : State) (who : Reader) (f : State → State) : Bool × State :=
  let t := f { s with fab := { s.fab with reader := some who } }
  match t.fab.wanted with
  | some x => (false, s.ask who x.1 x.2.1 x.2.2)
  | none => (true, ({ t with fab := { t.fab with reader := s.fab.reader } }).forget who)

/-- An event comes about, or is put off until the bytes that it lacks are there. -/
def State.orLater (s : State) (i : Instr) (f : State → State) : State := (s.attemptBy (.event i) f).2

/-- Something that comes about on its own does so, or asks for bytes that it lacks; nothing happens while it waits for
them. -/
def State.byItself (s : State) (who : Reader) (f : State → Option State) : Option State :=
  match f { s with fab := { s.fab with reader := some who } } with
  | none => none
  | some t =>
      match t.fab.wanted with
      | some x => s.askOnce who x.1 x.2.1 x.2.2
      | none => some (({ t with fab := { t.fab with reader := s.fab.reader } }).forget who)

/-- A hold that waits for bytes of another package asks for them; any other changes nothing. -/
def State.await (s : State) : Hold → State
  | .remote va pa n => s.ask s.me va pa n
  | _ => s

end Sys2Proof.Machine
end

