-- ==== Sys2Proof/Machine/Ops.lean ====
section
/-! DEFINITION. The shared operations over the state: its parts and registers, system registers, landing of results,
taking a trap and returning from one. -/

namespace Sys2Proof.Machine

/-! ### Parts of the state -/

/-- Change the current core. -/
def State.onCore (s : State) (f : Core → Core) : State := { s with core := f s.core }
/-- Change its sequencer. -/
def State.onSeq (s : State) (f : Seq → Seq) : State := s.onCore fun c => { c with seq := f c.seq }
/-- Change its scalar state. -/
def State.onSc (s : State) (f : Scalar → Scalar) : State := s.onCore fun c => { c with sc := f c.sc }
/-- Change its loop state. -/
def State.onLp (s : State) (f : Loops → Loops) : State := s.onCore fun c => { c with lp := f c.lp }
/-- Change its trap state. -/
def State.onTr (s : State) (f : Traps → Traps) : State := s.onCore fun c => { c with tr := f c.tr }
/-- Change its staging state. -/
def State.onSt (s : State) (f : Staging → Staging) : State := s.onCore fun c => { c with st := f c.st }
/-- Change its vector state. -/
def State.onVec (s : State) (f : Vec → Vec) : State := s.onCore fun c => { c with vec := f c.vec }
/-- Change its engines. -/
def State.onEng (s : State) (f : Engines → Engines) : State := s.onCore fun c => { c with eng := f c.eng }
/-- Change its storage. -/
def State.onLoc (s : State) (f : Store → Store) : State := s.onCore fun c => { c with loc := f c.loc }
/-- Change its synchronisation state. -/
def State.onSy (s : State) (f : Sync → Sync) : State := s.onCore fun c => { c with sy := f c.sy }
/-- Change its debug state. -/
def State.onDbg (s : State) (f : Debug → Debug) : State := s.onCore fun c => { c with dbg := f c.dbg }

/-- Put events at the head of the agenda. -/
def State.push (s : State) (es : List Instr) : State := { s with agenda := es ++ s.agenda }

/-- A core by number: the current one, one of the others, or one as it is at reset. -/
def State.coreAt (s : State) (n : Nat) : Core :=
  if s.core.id = n then s.core else (s.others.find? (fun c => c.id == n)).getD { id := n }

/-- Store a core under its number. -/
def State.putCore (s : State) (c : Core) : State :=
  if s.core.id = c.id then { s with core := c }
  else if s.others.any (fun x => x.id == c.id) then
    { s with others := mapIf (fun x => x.id == c.id) (fun _ => c) s.others }
  else { s with others := s.others ++ [c] }

/-- Make another core the current one. -/
def State.focus (s : State) (n : Nat) : State :=
  if s.core.id = n then s
  else { s with core := s.coreAt n, others := s.core :: s.others.filter (fun c => c.id != n) }

/-- Do something as core `n`, then make the core that was current the current one again. -/
def State.asCore (s : State) (n : Nat) (f : State → State) : State := (f (s.focus n)).focus s.core.id

/-- The die of a core (R3). -/
def dieOf (core : Nat) : Nat := core / 32
/-- The cluster instance of a core (R13). -/
def clusterOf (core : Nat) : Nat := core / 4

/-- A die. -/
def State.die (s : State) (d : Nat) : Die := Sparse.get {} s.dies d
/-- Change a die. -/
def State.onDie (s : State) (d : Nat) (f : Die → Die) : State :=
  { s with dies := Sparse.set {} s.dies d (f (s.die d)) }
/-- A cluster. -/
def State.cluster (s : State) (k : Nat) : Cluster := Sparse.get {} s.clusters k
/-- Change a cluster. -/
def State.onCluster (s : State) (k : Nat) (f : Cluster → Cluster) : State :=
  { s with clusters := Sparse.set {} s.clusters k (f (s.cluster k)) }

/-- The DTB of the die of the current core (R22). -/
def State.dtb (s : State) : Nat := (s.die (dieOf s.core.id)).dtb

/-- A handle register. -/
def Core.handle (c : Core) (h : Nat) : Handle := Sparse.get {} c.st.h h
/-- Change a handle register of the current core. -/
def State.onHandle (s : State) (h : Nat) (f : Handle → Handle) : State :=
  s.onSt fun t => { t with h := Sparse.set {} t.h h (f (Sparse.get {} t.h h)) }

/-- A vector engine. -/
def Core.engine (c : Core) (e : Nat) : VEngine := if e = 0 then c.vec.e0 else c.vec.e1
/-- Change a vector engine. -/
def Vec.onEngine (v : Vec) (e : Nat) (f : VEngine → VEngine) : Vec :=
  if e = 0 then { v with e0 := f v.e0 } else { v with e1 := f v.e1 }

/-- A token. -/
def Core.token (c : Core) (t : Nat) : Token := Sparse.get {} c.eng.tok t
/-- Change a token. -/
def Engines.onToken (g : Engines) (t : Nat) (f : Token → Token) : Engines :=
  { g with tok := Sparse.set {} g.tok t (f (Sparse.get {} g.tok t)) }

/-- A loop set. -/
def Loops.set (l : Loops) (n : Nat) : LoopSet := if n = 0 then l.l0 else l.l1
/-- Change a loop set. -/
def Loops.onSet (l : Loops) (n : Nat) (f : LoopSet → LoopSet) : Loops :=
  if n = 0 then { l with l0 := f l.l0 } else { l with l1 := f l.l1 }
/-- ACT1, ACT0 as two bits. -/
def Loops.act (l : Loops) : BitVec 2 := BitVec.ofNat 2 (flg l.l1.act 1 + flg l.l0.act 0)
/-- Set ACT1 and ACT0. -/
def Loops.setAct (l : Loops) (a : BitVec 2) : Loops :=
  { l with l0 := { l.l0 with act := bit a.toNat 0 }, l1 := { l.l1 with act := bit a.toNat 1 } }

/-! ### Registers (R82, R101, R109, R370) -/

/-- The physical register that G number `g` names now (R82): the windows, and the bank of G0 to G7. -/
def Core.phys (c : Core) (g : Nat) : Nat :=
  if g < 8 then (if c.tr.mlvl then 256 + g else if c.tr.ain then 248 + g else g)
  else 8 + (16 * c.sc.depth + g - 8) % 240

/-- The value of G number `g`. -/
def Core.g (c : Core) (g : Nat) : Word := Sparse.get 0 c.sc.g (c.phys g)
/-- G of the current core as a number. -/
def State.gn (s : State) (g : BitVec 5) : Nat := (s.core.g g.toNat).toNat
/-- Empty or full (R62). -/
def Core.gEmpty (c : Core) (g : Nat) : Bool := c.sc.empty.contains (c.phys g)

/-- A predicate: P0 is true, P8 to P15 are SV[7:0] (R109). -/
def Core.pred (c : Core) (n : Nat) : Bool :=
  if n = 0 then true else if n < 8 then c.sc.p.getLsbD n else c.lp.sv.getLsbD (n - 8)

/-- The vector register that number `v` names: V128 to V159 rotate while a pipelined loop runs (R93). -/
def Core.vphys (c : Core) (v : Nat) : Nat :=
  if 128 ≤ v ∧ c.lp.pv then 128 + (v - 128 + c.lp.rrb) % 32 else v
/-- Bytes of a physical vector register. -/
def Core.vbytes (c : Core) (r off n : Nat) : List Byte := Sparse.read 0 c.vec.v (4096 * r + off) n

/-- The largest VL of an element type (R124). -/
def maxVl (t : Nat) : Nat := 4096 / typeBytes t

/-! ### System registers (R120) -/

/-- LSTAT (R96). -/
def Loops.lstat (l : Loops) : Nat :=
  fld l.sv.toNat 32 + fld l.rrb 16 + fld l.iact.toNat 8 + fld l.sact.toNat 6 + fld l.ps 5 + flg l.pv 4 +
    fld l.inner 2 + l.act.toNat

/-- VMODE (R126). -/
def VEngine.vmode (v : VEngine) : Nat :=
  fld v.vl 32 + fld v.fl.toNat 10 + fld v.k4t 8 + flg v.sat 7 + fld v.rm 4 + v.type

/-- SRC: while AIP = 1 the code of the pending interrupt (R327), else that of the last interrupt taken (R103; log 101). -/
def Traps.src (t : Traps) : BitVec 8 := if t.aip then t.apend else t.asrc

/-- ASTAT (R103). -/
def Traps.astat (t : Traps) : Nat := fld t.src.toNat 8 + flg t.ain 2 + flg t.aip 1 + flg t.aie 0

/-- DBGCTL, WSTAT (R376). -/
def Debug.ctl (d : Debug) : Nat :=
  fld d.sper 20 + flg d.bstop 7 + flg d.acyc 6 + flg d.task 5 + flg d.step 4 + flg d.stop 3
def Debug.wstat (d : Debug) : Nat :=
  fld d.fpcnt 32 + flg d.skip 8 + flg d.unscr 7 + flg d.ovf 6 + d.exact.length

/-- What MOVRS reads from system register `n`; none where the number names none. -/
def State.readSr (s : State) (n : Nat) : Option Nat :=
  let c := s.core
  let l := c.lp
  let t := c.tr
  if n = 0x001 then some c.id
  else if n = 0x002 then some c.seq.cyc
  else if n = 0x003 then some s.dtb
  else if n = 0x004 then some (fld c.sc.low 16 + c.sc.depth)
  else if n = 0x005 then some c.sc.fflags.toNat
  else if n = 0x006 then some 2050
  else if 0x008 ≤ n ∧ n ≤ 0x00F then some (Sparse.get 0 c.st.gid (n - 8))
  else if n = 0x010 then some c.st.b1
  else if n = 0x011 then some c.st.b2
  else if n = 0x012 then some c.st.b3
  else if n = 0x018 then some l.l0.beg
  else if n = 0x019 then some l.l0.fin
  else if n = 0x01A then some l.l0.cnt
  else if n = 0x01B then some l.l1.beg
  else if n = 0x01C then some l.l1.fin
  else if n = 0x01D then some l.l1.cnt
  else if n = 0x01E then some l.lstg
  else if n = 0x01F then some l.litr.toNat
  else if n = 0x020 then some l.lstat
  else if 0x028 ≤ n ∧ n ≤ 0x037 then some (Sparse.get 0xFFFFFFFF l.lsm (n - 0x28))
  else if n = 0x038 then some t.avec.toNat
  else if n = 0x039 then some t.apc.toNat
  else if n = 0x03A then some t.astat
  else if n = 0x040 then some t.tvec.toNat
  else if n = 0x041 then some (t.tcause.toNat + flg t.tlvl 16)
  else if n = 0x042 then some t.tpc.toNat
  else if n = 0x043 then some t.tinfo.toNat
  else if n = 0x048 then some c.vec.e0.vmode
  else if n = 0x049 then some c.vec.e1.vmode
  else if n = 0x04A then some c.vec.e0.vlt
  else if n = 0x04B then some c.vec.e1.vlt
  else if n = 0x04C then some c.vec.e0.vso.toNat
  else if n = 0x04D then some c.vec.e1.vso.toNat
  else if n = 0x050 then some c.vec.vrs0
  else if n = 0x051 then some c.vec.vrs1
  else if n = 0x052 then some c.vec.crs0
  else if n = 0x053 then some c.vec.crs1
  else if 0x054 ≤ n ∧ n ≤ 0x057 then some (Sparse.get 0 c.st.ag (n - 0x54))
  else if 0x058 ≤ n ∧ n ≤ 0x06F then some (Sparse.get 0 c.st.x (n - 0x58)).toNat
  else if n = 0x100 then some t.mpc.toNat
  else if n = 0x101 then some (t.mcause.toNat + flg t.mlvl 16)
  else if n = 0x102 then some t.minfo.toNat
  else if n = 0x103 then some t.maddr.toNat
  else if n = 0x104 then some t.mbytes.toNat
  else if 0x108 ≤ n ∧ n ≤ 0x10B then some (Sparse.get 0 t.mscr (n - 0x108)).toNat
  else if 0x120 ≤ n ∧ n ≤ 0x13F then
    let h := c.handle ((n - 0x120) / 2)
    some (if n % 2 = 0 then h.w0 else h.w1).toNat
  else if n = 0x140 then some c.dbg.ctl
  else if n = 0x141 then some (fld c.dbg.trbase 12 + c.dbg.tlog)
  else if n = 0x142 then some (fld c.dbg.trdrop 32 + c.dbg.head)
  else if n = 0x144 then some (flg c.dbg.wst 1 + flg c.dbg.wld 0)
  else if n = 0x145 then some c.dbg.wstat
  else none

/-- The registers whose MOVRS is em (R120, R222). -/
def srEm (n : Nat) : Bool := n == 0x003 || n == 0x006

/-- A write of an AG set: a reserved LH or SORD leaves its field unchanged (R43). -/
def agWrite (old v : Nat) : Nat :=
  (if bits v 6 2 < 2 then fld (bits v 6 2) 6 else fld (bits old 6 2) 6) +
    (if bits v 0 3 < 6 then bits v 0 3 else bits old 0 3)

/-- A write of VMODE (R126). -/
def VEngine.write (e : VEngine) (v : Nat) : VEngine :=
  let ty := if bits v 0 4 < 10 then bits v 0 4 else e.type
  { e with
    type := ty
    rm := if bits v 4 3 < 5 then bits v 4 3 else e.rm
    sat := bit v 7
    k4t := bits v 8 2
    fl := BitVec.ofNat 5 (bits v 10 5)
    vl := min (bits v 32 13) (maxVl ty) }

/-- A write of LSTAT (R96). -/
def Loops.writeStat (l : Loops) (v : Nat) : Loops :=
  { l with
    sv := BitVec.ofNat 15 (bits v 32 15)
    rrb := bits v 16 5
    iact := BitVec.ofNat 2 (bits v 8 2)
    sact := BitVec.ofNat 2 (bits v 6 2)
    ps := bits v 5 1
    pv := bit v 4
    inner := bits v 2 1
    l0 := { l.l0 with act := bit v 0 }
    l1 := { l.l1 with act := bit v 1 } }

/-- A write of TCAUSE or MCAUSE (R374): LVL and reserved bits are not kept, a 3 leaves DWIN or DREM. -/
def causeWrite (old v : Nat) : Nat :=
  fld (bits v 32 32) 32 + fld (if bits v 20 2 = 3 then bits old 20 2 else bits v 20 2) 20 +
    fld (if bits v 18 2 = 3 then bits old 18 2 else bits v 18 2) 18 + bits v 0 8

/-- A stochastic state is never 0 (R35). -/
def stochWrite (v : Nat) : Nat := if v % 2 ^ 32 = 0 then 1 else v % 2 ^ 32

/-- A write of a handle's binding through HBIND (R375, R417): the reserved KIND 3 leaves KIND as it is (R8, R225). -/
def Handle.bind (h : Handle) (w v : Nat) : Handle :=
  let h := { h with tr := none, rev := false, gv := false }
  let kind := if bits v 62 2 = 3 then bits h.w0.toNat 62 2 else bits v 62 2
  if w = 0 then { h with w0 := w64 (fld kind 62 + fld (bits v 60 2) 60 + bits v 0 52) } else { h with w1 := w64 (bits v 0 53) }

/-- A write of system register `n`; read-only registers and unlisted numbers ignore it (R120). -/
def Core.writeSr (c : Core) (n v : Nat) : Core :=
  if n = 0x005 then { c with sc := { c.sc with fflags := BitVec.ofNat 5 v } }
  else if n = 0x018 then { c with lp := c.lp.onSet 0 fun l => { l with beg := v % 2 ^ 32 } }
  else if n = 0x019 then { c with lp := c.lp.onSet 0 fun l => { l with fin := v % 2 ^ 32 } }
  else if n = 0x01A then { c with lp := c.lp.onSet 0 fun l => { l with cnt := v } }
  else if n = 0x01B then { c with lp := c.lp.onSet 1 fun l => { l with beg := v % 2 ^ 32 } }
  else if n = 0x01C then { c with lp := c.lp.onSet 1 fun l => { l with fin := v % 2 ^ 32 } }
  else if n = 0x01D then { c with lp := c.lp.onSet 1 fun l => { l with cnt := v } }
  else if n = 0x01E then { c with lp := { c.lp with lstg := v % 16 } }
  else if n = 0x01F then { c with lp := { c.lp with litr := w64 v } }
  else if n = 0x020 then { c with lp := c.lp.writeStat v }
  else if 0x028 ≤ n ∧ n ≤ 0x037 then
    { c with lp := { c.lp with lsm := Sparse.set 0xFFFFFFFF c.lp.lsm (n - 0x28) (v % 2 ^ 32) } }
  else if n = 0x038 then { c with tr := { c.tr with avec := BitVec.ofNat 32 v } }
  else if n = 0x039 then { c with tr := { c.tr with apc := BitVec.ofNat 32 v } }
  else if n = 0x03A then { c with tr := { c.tr with aip := bit v 1, aie := bit v 0 } }
  else if n = 0x040 then { c with tr := { c.tr with tvec := BitVec.ofNat 32 v } }
  else if n = 0x041 then { c with tr := { c.tr with tcause := w64 (causeWrite c.tr.tcause.toNat v) } }
  else if n = 0x042 then { c with tr := { c.tr with tpc := BitVec.ofNat 32 v } }
  else if n = 0x043 then { c with tr := { c.tr with tinfo := w64 v } }
  else if n = 0x048 then { c with vec := c.vec.onEngine 0 fun e => e.write v }
  else if n = 0x049 then { c with vec := c.vec.onEngine 1 fun e => e.write v }
  else if n = 0x04A then { c with vec := c.vec.onEngine 0 fun e => { e with vlt := v % 2 ^ 13 } }
  else if n = 0x04B then { c with vec := c.vec.onEngine 1 fun e => { e with vlt := v % 2 ^ 13 } }
  else if n = 0x04C then { c with vec := c.vec.onEngine 0 fun e => { e with vso := w64 v } }
  else if n = 0x04D then { c with vec := c.vec.onEngine 1 fun e => { e with vso := w64 v } }
  else if n = 0x050 then { c with vec := { c.vec with vrs0 := stochWrite v } }
  else if n = 0x051 then { c with vec := { c.vec with vrs1 := stochWrite v } }
  else if n = 0x052 then { c with vec := { c.vec with crs0 := stochWrite v } }
  else if n = 0x053 then { c with vec := { c.vec with crs1 := stochWrite v } }
  else if 0x054 ≤ n ∧ n ≤ 0x057 then
    { c with st := { c.st with ag := Sparse.set 0 c.st.ag (n - 0x54) (agWrite (Sparse.get 0 c.st.ag (n - 0x54)) v) } }
  else if n = 0x100 then { c with tr := { c.tr with mpc := BitVec.ofNat 32 v } }
  else if n = 0x101 then { c with tr := { c.tr with mcause := w64 (causeWrite c.tr.mcause.toNat v) } }
  else if n = 0x102 then { c with tr := { c.tr with minfo := w64 v } }
  else if n = 0x103 then { c with tr := { c.tr with maddr := w64 v } }
  else if n = 0x104 then { c with tr := { c.tr with mbytes := w64 v } }
  else if 0x108 ≤ n ∧ n ≤ 0x10B then { c with tr := { c.tr with mscr := Sparse.set 0 c.tr.mscr (n - 0x108) (w64 v) } }
  else if 0x120 ≤ n ∧ n ≤ 0x13F then
    let k := (n - 0x120) / 2
    { c with st := { c.st with h := Sparse.set {} c.st.h k ((c.handle k).bind (n % 2) v) } }
  else if n = 0x140 then
    { c with dbg := { c.dbg with
        sper := if bits v 20 4 < 13 then bits v 20 4 else c.dbg.sper
        bstop := bit v 7, acyc := bit v 6, task := bit v 5, step := bit v 4
        stop := c.dbg.stop || bit v 3
        asked := if bit v 3 && !c.dbg.stop then c.seq.cyc else c.dbg.asked
        reason := if bit v 3 then 2 else c.dbg.reason } }
  else if n = 0x141 then { c with dbg := { c.dbg with trbase := bits v 12 40, tlog := bits v 0 5 } }
  else if n = 0x142 then { c with dbg := { c.dbg with trdrop := bits v 32 32, head := bits v 0 32 } }
  else if n = 0x144 then { c with dbg := { c.dbg with wst := bit v 1, wld := bit v 0 } }
  else if n = 0x145 then { c with dbg := { c.dbg with fpcnt := bits v 32 32, skip := bit v 8 } }
  else c

/-! ### Landing (R61, R62, R15) -/

/-- One result lands. -/
def Core.land (c : Core) : Dest → Core
  | .g r v em =>
      { c with sc := { c.sc with g := Sparse.set 0 c.sc.g r v, empty := if em then dropNat r c.sc.empty else c.sc.empty } }
  | .p n b =>
      if n = 0 then c
      else if n < 8 then
        { c with sc := { c.sc with p := if b then c.sc.p ||| BitVec.twoPow 8 n else c.sc.p &&& ~~~(BitVec.twoPow 8 n) } }
      else
        { c with lp := { c.lp with
            sv := if b then c.lp.sv ||| BitVec.twoPow 15 (n - 8) else c.lp.sv &&& ~~~(BitVec.twoPow 15 (n - 8)) } }
  | .v r off bs em _ =>
      { c with vec := { c.vec with
          v := Sparse.write 0 c.vec.v (4096 * r + off) bs
          empty := if em then dropNat r c.vec.empty else c.vec.empty
          bad := c.vec.bad.filter (fun p => p.1 != r) } }
  | .vso e v => { c with vec := c.vec.onEngine e fun x => { x with vso := v } }
  | .vlt e n => { c with vec := c.vec.onEngine e fun x => { x with vlt := n } }
  | .fl e f =>
      if e = 2 then { c with sc := { c.sc with fflags := c.sc.fflags ||| f } }
      else { c with vec := c.vec.onEngine e fun x => { x with fl := x.fl ||| f } }
  | .sr n v => c.writeSr n v.toNat
  | .staging k v => { c with st := { c.st with x := Sparse.set 0 c.st.x k v } }
  | .tit k v => { c with st := { c.st with tit := Sparse.set 0 c.st.tit k v } }
  | .vfault r cause first reason addr =>
      { c with vec := { c.vec with bad := Sparse.set (0, 0, 0, 0) c.vec.bad r (cause, first, reason, addr) } }
  | .table v =>
      { c with seq := { c.seq with table := match c.seq.table with | some (.asked pc) => some (.came pc v) | _ => none } }

/-- The vector register a result writes, with its engine. -/
def Dest.vreg : Dest → Option (Nat × Nat)
  | .v r _ _ _ e => some (r, e)
  | _ => none

/-- A result of variable latency may land in a cycle: all its bytes are there, and its earliest cycle has come. -/
def Waiting.ready (w : Waiting) (cyc : Nat) : Bool := w.holes.isEmpty && decide (w.earliest ≤ cyc)

/-- A result of variable latency lands by itself in a cycle. -/
def Waiting.due (w : Waiting) (cyc : Nat) : Bool :=
  w.holes.isEmpty && (match w.latest with | some t => decide (t ≤ cyc) | none => false)

/-- The results that land by themselves by the current cycle, each with its cycle, in the order in which they land: those of
fixed latency in issue order (those of a task that has been resumed and cannot issue yet do not land, R313), then loads whose time
has come (R61, R145). -/
def Core.dues (c : Core) : List Landing :=
  (if c.seq.resumed then [] else c.flight.filter fun x => decide (x.due ≤ c.seq.cyc)) ++
    (c.waiting.filter fun w => w.due c.seq.cyc).flatMap fun w => w.dst.map fun d => ⟨c.seq.cyc, d⟩

/-- A V0 write that lands with a V1 write of the same register in the same cycle is lost (R15). -/
def lostToV1 (all : List Landing) (x : Landing) : Bool :=
  match x.dst.vreg with
  | some (r, 0) => all.any (fun y => y.due == x.due && y.dst.vreg == some (r, 1))
  | _ => false

/-- What is left of a lost write: its register, if it was made empty, is full again (R15, R62). -/
def Dest.lost : Dest → Dest
  | .v r off _ em e => .v r off [] em e
  | d => d

/-- Some results land in order, V0 writes lost to V1 writes among them. -/
def Core.landAll (c : Core) (all : List Landing) : Core :=
  all.foldl (fun c x => c.land (if lostToV1 all x then x.dst.lost else x.dst)) c

/-- Every result due by the current cycle lands (R15, R61, R145). -/
def Core.landDue (c : Core) : Core :=
  Core.landAll { c with
    flight := if c.seq.resumed then c.flight else c.flight.filter fun x => !decide (x.due ≤ c.seq.cyc)
    waiting := c.waiting.filter fun w => !w.due c.seq.cyc } c.dues

/-- A result that lands `lat` cycles after the current one. -/
def State.later (s : State) (lat : Nat) (d : Dest) : State :=
  s.onCore fun c => { c with flight := c.flight ++ [⟨c.seq.cyc + lat, d⟩] }

/-- Mark a scalar register empty (R62). -/
def State.emptyG (s : State) (g : Nat) : State :=
  s.onSc fun x => { x with empty := insertNat (s.core.phys g) x.empty }

/-- Mark a physical vector register empty (R62). -/
def State.emptyV (s : State) (r : Nat) : State :=
  s.onVec fun x => { x with empty := insertNat r x.empty }

/-- A result of latency `lat` for G number `g` (R61). -/
def State.writeG (s : State) (lat : Nat) (g : Nat) (v : Word) : State := s.later lat (.g (s.core.phys g) v false)

/-- An em result of fixed latency for G number `g` (R61, R62). -/
def State.writeGEm (s : State) (lat : Nat) (g : Nat) (v : Word) : State :=
  (s.emptyG g).later lat (.g (s.core.phys g) v true)

/-- A result of variable latency (R62). -/
def State.awaits (s : State) (w : Waiting) : State := s.onCore fun c => { c with waiting := c.waiting ++ [w] }

/-- The bundle's outcome on the current core. -/
def State.ended (s : State) (i : Issue) : State := s.onSeq fun q => { q with last := i }

/-! ### What an instruction answers -/

/-- A trap: cause (R365), stage, TINFO without the slot (R373), whether LOW names the slot, the address for MADDR,
and the resume address where it is not the bundle's own (R98, R100). -/
structure TrapInfo where
  cause : Nat
  stage : Nat := 2
  info : Nat := 0
  slot : Bool := true
  addr : Nat := 0
  bytes : Nat := 0
  resume : Option Nat := none
  deriving DecidableEq, Repr

/-- What an operation answers: a value and the state after it, a trap, or a hold. -/
inductive Act (α : Type) where
  | ok (a : α) (s : State)
  | trap (t : TrapInfo) (s : State)
  | hold (h : Hold) (s : State)

/-- What an instruction's meaning answers before it is settled. -/
abbrev Res := Act Unit

/-- Go on with the value of an operation. -/
def Act.bind {α β : Type} (x : Act α) (f : α → State → Act β) : Act β :=
  match x with
  | .ok a s => f a s
  | .trap t s => .trap t s
  | .hold h s => .hold h s

/-- The instruction is complete. -/
def State.ok (s : State) : Res := .ok () s

/-- A trap of execution with a plain cause. -/
def State.raise {α : Type} (s : State) (cause : Nat) : Act α := .trap { cause := cause } s

/-- A cause with a REASON (R373). -/
def State.raiseWhy {α : Type} (s : State) (cause reason : Nat) : Act α :=
  .trap { cause := cause, info := fld reason 28 } s

/-! ### Causes (R365) -/

def cIllegal := 0x01
def cIllegalDelay := 0x02
def cPrefix := 0x03
def cRegfield := 0x04
def cFeEmpty := 0x05
def cPriv := 0x06
def cTrapi := 0x07
def cBreak := 0x08
def cWatch := 0x09
def cStep := 0x0A
def cXlat := 0x10
def cProt := 0x11
def cRevoked := 0x12
def cSkew := 0x13
def cAlign := 0x14
def cJtab := 0x15
def cAtomicHost := 0x16
def cWindow := 0x17
def cTile := 0x20
def cOpfmt := 0x21
def cNolease := 0x23
def cToken := 0x24
def cDiverge := 0x28
def cOverrun := 0x29
def cUe := 0x30
def cGang := 0x31
def cDouble := 0x3F

/-- The causes taken at monitor level whatever TVEC holds; 0 is SYSCALL. -/
def monitorCause (c : Nat) : Bool :=
  c == 0 || c == cBreak || c == cWatch || c == cStep || c == cXlat || c == cSkew || c == cUe || c == cGang || c == cDouble

/-! ### Taking a trap and returning (R97, R367 to R372) -/

/-- Results of the kinds of R313 are captured; the others land while the handler runs. -/
def Dest.captured : Dest → Bool
  | .sr _ _ => false
  | .staging _ _ => false
  | .tit _ _ => false
  | .vfault .. => false
  | .table _ => false
  | _ => true

/-- The frame of R367: offsets count from the last bundle that took effect. -/
def Core.frame (c : Core) : Frame where
  writes := (c.flight.filter (fun x => x.dst.captured)).map fun x => { x with due := x.due - c.seq.lastCyc }
  busy0 := c.vec.e0.busy - 1 - c.seq.lastCyc
  busy1 := c.vec.e1.busy - 1 - c.seq.lastCyc
  arr := match c.seq.xfer with | some x => x.arr | none => .none
  act := c.lp.act

/-- The core with what the frame captured taken out, and its engines free. -/
def Core.unflight (c : Core) : Core :=
  { c with
    flight := c.flight.filter (fun x => !x.dst.captured)
    vec := (c.vec.onEngine 0 fun e => { e with busy := 0 }).onEngine 1 fun e => { e with busy := 0 } }

/-- A resumed task reaches the first cycle t_r in which issue may resume (R313): each captured result lands in t_r + o − 1, and each
engine is busy until t_r + its remaining occupancy − 1. -/
def Core.rejoin (c : Core) : Core :=
  let now := c.seq.cyc
  if !c.seq.resumed then c
  else { c with
    flight := c.flight.map fun x => { x with due := now + x.due - 1 }
    vec := (c.vec.onEngine 0 fun e => { e with busy := now + e.busy }).onEngine 1 fun e => { e with busy := now + e.busy }
    seq := { c.seq with lastCyc := now - 1, resumed := false } }

/-- A frame is replayed: its writes land in cycle t_r + o − 1, where t_r is the next cycle (R313, R367). They were issued
before what the handler has in flight, and stand before it (R61). Those of a resumed task count from its own t_r. -/
def Core.replay (c : Core) (f : Option Frame) : Core :=
  match f with
  | none => c
  | some f =>
      let cyc := if c.seq.resumed then 0 else c.seq.cyc
      let free := if c.seq.resumed then 0 else c.seq.cyc + 1
      { c with
        flight := (f.writes.map fun x => { x with due := cyc + x.due }) ++ c.flight
        vec := (c.vec.onEngine 0 fun e => { e with busy := max e.busy (free + f.busy0) }).onEngine 1
          fun e => { e with busy := max e.busy (free + f.busy1) } }

/-- The bundle address a trap of the current bundle names: behind an EXT, the EXT bundle's (R65). -/
def Seq.trapPc (q : Seq) : Nat := match q.ext with | some e => e.pc | none => q.pc

/-- The transfer whose delay bundles have begun, as a trap of the current bundle records it (R374). -/
def Seq.trapXfer (q : Seq) : Option Xfer := match q.ext with | some e => e.xfer | none => q.xfer

/-- DTGT, DWIN and DREM of R374. -/
def causeXfer (x : Option Xfer) : Nat :=
  match x with
  | none => 0
  | some x => fld (x.tgt % 2 ^ 32) 32 + fld (match x.arr with | .call => 1 | .ret => 2 | _ => 0) 20 + fld x.rem 18

/-- The transfer that a return finds in TCAUSE or MCAUSE (R369). -/
def xferOf (cause : Nat) (f : Option Frame) : Option Xfer :=
  if bits cause 18 2 = 0 then none
  else some ⟨bits cause 32 32, bits cause 18 2,
    if bits cause 20 2 = 1 then .call else if bits cause 20 2 = 2 then .ret
    else match f with | some f => (match f.arr with | .call => .none | .ret => .none | a => a) | none => .none⟩

/-- TINFO of a trap, with the slot of the instruction that raised it. -/
def TrapInfo.word (t : TrapInfo) (slot : Nat) : Word := w64 (if t.slot then t.info + slot else t.info)

/-- Where a trap resumes, and the transfer it records. -/
def Seq.resumePc (q : Seq) (t : TrapInfo) : Nat := match t.resume with | some a => a | none => q.trapPc
def Seq.resumeXfer (q : Seq) (t : TrapInfo) : Option Xfer := match t.resume with | some _ => none | none => q.trapXfer

/-- Enter the task-level handler (R368). An EXT of the bundle itself, a TRAP's or a SYSCALL's, prefixes nothing: the prefix
is cleared here and at monitor entry (log 97). -/
def Core.enterTask (c : Core) (t : TrapInfo) (slot : Nat) : Core :=
  let f := c.frame
  let d := c.unflight
  { d with
    tr := { d.tr with
      tpc := BitVec.ofNat 32 (c.seq.resumePc t)
      tcause := w64 (causeXfer (c.seq.resumeXfer t) + t.cause)
      tinfo := t.word slot
      tlvl := true
      tframe := some f }
    lp := { d.lp with sact := d.lp.act }.setAct 0
    seq := { d.seq with pc := d.tr.tvec.toNat, xfer := none, ext := none, moved := true, last := .trapped t.cause t.stage } }

/-- Enter the monitor (R370). -/
def Core.enterMonitor (c : Core) (t : TrapInfo) (slot : Nat) : Core :=
  let f := c.frame
  let d := c.unflight
  { d with
    tr := { d.tr with
      mpc := BitVec.ofNat 32 (c.seq.resumePc t)
      mcause := w64 (causeXfer (c.seq.resumeXfer t) + t.cause)
      minfo := t.word slot
      maddr := w64 t.addr
      mbytes := w64 t.bytes
      mlvl := true
      mframe := some f }
    lp := d.lp.setAct 0
    seq := { d.seq with pc := 0, xfer := none, ext := none, moved := true, last := .trapped t.cause t.stage } }

/-- Write a word into the log of die d (R248). -/
def State.logWord (s : State) (d w : Nat) : State :=
  s.onDie d fun x => { x with
    log := Sparse.set (0, 0) x.log x.logHead (w64 w, w64 x.dtb)
    logHead := (x.logHead + 1) % 32 }

/-- DOUBLE (R371): the first and second causes, and the task aborted. At monitor level the monitor stops and the event is logged in
the die's error record; R248 gives its entry no KIND, so that the entry's word is a free value (log 77). -/
def State.double (s : State) (first second slot : Nat) : State :=
  let s :=
    if s.core.tr.mlvl then
      let r := s.draw
      (r.2.logWord (dieOf s.core.id) r.1).onCore fun c =>
        { c with tr := { c.tr with mstop := true, minfo := w64 second },
                 seq := { c.seq with moved := true, last := .trapped cDouble 2 } }
    else s.onCore fun c => c.enterMonitor { cause := cDouble, info := fld first 8 + second, slot := false } slot
  s.push [.taskAbort s.core.id cDouble]

/-- A trap behind an EXT that was the last delay bundle of a call or a return makes that transfer pending again, so its
window step is taken back (R65, R374). -/
def Core.unstep (c : Core) (t : TrapInfo) : Core :=
  match t.resume, c.seq.ext with
  | none, some e =>
      (match e.xfer with
       | some x =>
           if x.rem ≠ 1 then c
           else match x.arr with
             | .call => { c with sc := { c.sc with depth := c.sc.depth - 1 } }
             | .ret => { c with sc := { c.sc with depth := c.sc.depth + 1 } }
             | _ => c
       | none => c)
  | _, _ => c

/-- Take a trap of the current core raised in `slot`. A cause that the shipped monitor answers by an abort, or by the
kernel's failure, is followed by that abort (R370, R231, R240, R317). The cause of a FAILED region, SRC 4, is taken at task level
whatever it is (R358). -/
def State.takeTrap (s : State) (t : TrapInfo) (slot : Nat) : State :=
  let s := s.onCore fun c => c.unstep t
  let c := s.core
  if c.tr.mlvl && t.cause != cUe then s.double (bits c.tr.mcause.toNat 0 8) t.cause slot
  else if monitorCause t.cause && bits t.info 60 4 != 4 then
    let s := s.onCore fun c => c.enterMonitor t slot
    if t.cause = cXlat ∨ t.cause = cUe ∨ t.cause = cGang then s.push [.taskAbort c.id t.cause] else s
  else if c.tr.tlvl then s.double (bits c.tr.tcause.toNat 0 8) t.cause slot
  else if c.tr.tvec = 0 then
    (s.onCore fun c => c.enterMonitor t slot).push [.taskAbort c.id t.cause]
  else s.onCore fun c => c.enterTask t slot

/-- A trap of no bundle waits for the next bundle boundary. -/
def State.postpone (s : State) (t : TrapInfo) : State :=
  s.onTr fun x => { x with late := x.late ++ [(t.cause, t.info, t.addr, t.bytes)] }

/-- The target of a transfer is reached: the next bundle address and what changes there (R83, R99, R100, R102, R369). -/
def Core.arrive (c : Core) (x : Xfer) : Core :=
  let c := { c with seq := { c.seq with pc := x.tgt, xfer := none } }
  match x.arr with
  | .none => c
  | .call => { c with sc := { c.sc with depth := c.sc.depth + 1 } }
  | .ret => { c with sc := { c.sc with depth := c.sc.depth - 1 } }
  | .tret =>
      let f := c.tr.tframe
      let y := xferOf c.tr.tcause.toNat f
      let c := { c with
        lp := c.lp.setAct c.lp.sact
        tr := { c.tr with tlvl := false, tframe := none }
        seq := { c.seq with xfer := y } }
      c.replay f
  | .mret =>
      let f := c.tr.mframe
      let y := xferOf c.tr.mcause.toNat f
      let c := { c with
        lp := match f with | some f => c.lp.setAct f.act | none => c.lp
        tr := { c.tr with mlvl := false, mframe := none }
        seq := { c.seq with xfer := y } }
      c.replay f
  | .iret =>
      { c with lp := c.lp.setAct c.lp.iact, tr := { c.tr with ain := false } }

/-- The level at which the core runs: 0 the task, 1 an arrival handler, 2 a trap handler, 3 the monitor. -/
def Core.level (c : Core) : Nat := if c.tr.mlvl then 3 else if c.tr.tlvl then 2 else if c.tr.ain then 1 else 0

/-- What exec answers: the instruction has taken effect, has trapped, or is held (log 4). Every meaning ends here. -/
def settle (slot : Nat) (r : Res) : Host.Outcome State Fault Refusal :=
  match r with
  | .ok _ s => .next (s.ended .issued)
  | .trap t s => .next ((s.takeTrap t slot).ended (.trapped t.cause t.stage))
  | .hold h s => .next ((s.await h).ended (.held h))

/-- What exec answers for an event. -/
def happens (s : State) : Host.Outcome State Fault Refusal := .next s

end Sys2Proof.Machine
end

