-- ==== Sys2Proof/Machine/Operands.lean ====
section
/-! DEFINITION. Operand forms: full and empty registers (R62, R63), vector register numbers (R71, R93), faulted
registers (R256), immediates with their EXT prefix (R64). -/

namespace Sys2Proof.Machine

/-- FE_EMPTY of a scalar register (R63, R373). -/
def feEmptyG (g : Nat) : TrapInfo := { cause := cFeEmpty, stage := 1, info := fld g 8 }

/-- FE_EMPTY of a vector register (R63, R373). -/
def feEmptyV (r : Nat) : TrapInfo := { cause := cFeEmpty, stage := 1, info := fld r 8 + 8 }

/-- The first of some G numbers whose register is empty. -/
def Core.firstEmptyG (c : Core) (gs : List (BitVec 5)) : Option Nat :=
  (gs.map BitVec.toNat).find? (fun g => c.gEmpty g)

/-- An S-slot or K-slot instruction goes on only when every scalar register it names is full: with B = 1 the bundle
holds, with B = 0 it traps FE_EMPTY (R63). -/
def State.ready {α : Type} (s : State) (w : Bool) (gs : List (BitVec 5)) (k : State → Act α) : Act α :=
  match s.core.firstEmptyG gs with
  | none => k s
  | some g => if w then .hold (.emptyG (s.core.phys g)) s else .trap (feEmptyG g) s

/-- The first of some physical vector registers that is empty. -/
def Core.firstEmptyV (c : Core) (rs : List Nat) : Option Nat := rs.find? (fun r => c.vec.empty.contains r)

/-- The trap of reading a faulted vector register (R256): DETAIL names the first register of its span, with the REASON and
the address of the fault that marked it (R373, R375). -/
def faultedTrap (x : Nat × Nat × Nat × Nat) : TrapInfo :=
  { cause := x.1, info := fld 2 60 + fld x.2.1 32 + fld x.2.2.1 28, slot := false, addr := x.2.2.2 }

/-- The first of some physical vector registers that is marked faulted. -/
def Core.firstBad (c : Core) (rs : List Nat) : Option (Nat × Nat × Nat × Nat) :=
  (rs.find? (fun r => (Sparse.get (0, 0, 0, 0) c.vec.bad r).1 != 0)).map (fun r => Sparse.get (0, 0, 0, 0) c.vec.bad r)

/-- A V-slot instruction goes on only when its registers are full and its engine is free; a span that runs past V159 traps
REGFIELD at issue, and reading a faulted register traps its cause (R57, R63, R71, R124, R135, R256). Of two reasons that hold, an
empty register is the one that R378 reports. `src` and `dst` are register numbers as the program wrote them, spans
unrolled. -/
def State.vready {α : Type} (s : State) (e : BitVec 1) (w : Bool) (gs : List (BitVec 5)) (src dst : List Nat)
    (k : State → Act α) : Act α :=
  let c := s.core
  let rs := (src ++ dst).map c.vphys
  match (if w then c.firstEmptyG gs else none), (if w then c.firstEmptyV rs else none) with
  | some g, _ => .hold (.emptyG (c.phys g)) s
  | none, some r => .hold (.emptyV r) s
  | none, none =>
      if c.seq.cyc < (c.engine e.toNat).busy then .hold (.engine e.toNat) s
      else match c.firstEmptyG gs, c.firstEmptyV rs with
        | some g, _ => .trap (feEmptyG g) s
        | none, some r => .trap (feEmptyV r) s
        | none, none =>
            if (src ++ dst).any (fun v => decide (159 < v)) then .trap { cause := cRegfield } s
            else match c.firstBad (src.map c.vphys) with
              | some x => .trap (faultedTrap x) s
              | none => k s

/-- Consecutive register numbers of a span; a span is at least one register (R135, R255). -/
def spanRegs (base n : Nat) : List Nat := (List.range (max 1 n)).map (base + ·)

/-- The immediate of an S-slot instruction whose field is `n` bits wide, with the EXT prefix where one stands (R64). -/
def State.imm (s : State) (n : Nat) (i : Nat) : Int :=
  match s.core.seq.ext with
  | some x => signedOf (25 + n) (x.imm.toNat * 2 ^ n + i)
  | none => signedOf n i

/-- The same as a 64-bit word. -/
def State.immWord (s : State) (n : Nat) (i : Nat) : Word := BitVec.ofInt 64 (s.imm n i)

end Sys2Proof.Machine
end

