-- ==== Sys2Proof/Machine/Flags.lean ====
section
/-! DEFINITION. Exception bits, predicates and conditions (R29, R70, R107, R109, R112). -/

namespace Sys2Proof.Machine

/-- The relations of CMP and CMPI (R70). -/
def condHolds (cc : Nat) (a b : Word) : Bool :=
  match cc with
  | 0 => a == b
  | 1 => a != b
  | 2 => a.slt b
  | 3 => a.ult b
  | 4 => a.sle b
  | _ => a.ule b

/-- Exception bits land with the result that raised them: in FFLAGS for the S slot (engine 2), in VMODE for a vector
engine (R112, R126). -/
def State.raiseFlags (s : State) (lat e : Nat) (f : FFlags) : State := if f = 0 then s else s.later lat (.fl e f)

/-- A predicate result (R107, R108); a write of P0 is ignored when it lands (R109). -/
def State.writeP (s : State) (lat : Nat) (p : BitVec 4) (b : Bool) : State := s.later lat (.p p.toNat b)

/-- A predicate operand. -/
def State.pn (s : State) (p : BitVec 4) : Bool := s.core.pred p.toNat

/-- One draw of a vector engine's stochastic state (R35). -/
def State.drawV (s : State) (e : Nat) : Nat × State :=
  if e = 0 then
    let w := drawWord s.core.vec.vrs0
    (w, s.onVec fun v => { v with vrs0 := w })
  else
    let w := drawWord s.core.vec.vrs1
    (w, s.onVec fun v => { v with vrs1 := w })

/-- `n` draws of a vector engine's stochastic state. -/
def State.drawsV (s : State) (e n : Nat) : List Nat × State :=
  if e = 0 then
    let r := drawWords n s.core.vec.vrs0
    (r.1, s.onVec fun v => { v with vrs0 := r.2 })
  else
    let r := drawWords n s.core.vec.vrs1
    (r.1, s.onVec fun v => { v with vrs1 := r.2 })

end Sys2Proof.Machine
end

