-- ==== Sys2Proof/Machine/Scalar.lean ====
section
/-! DEFINITION. The S slot without memory: integer and FP64 arithmetic, predicates, staging and system registers,
the tensor identifier table (R104 to R112, R119 to R123). -/

namespace Sys2Proof.Machine

/-! ### Shared forms -/

/-- gD := f(gA, gB) at a fixed latency. -/
def regReg (lat : Nat) (f : Word → Word → Word) (w : Bool) (d a b : BitVec 5) (s : State) : Res :=
  s.ready w [a, b, d] fun s => (s.writeG lat d.toNat (f (s.core.g a.toNat) (s.core.g b.toNat))).ok

/-- gD := f(gA, gB), em, at latency 20 (R61). -/
def regRegEm (f : Word → Word → Word) (w : Bool) (d a b : BitVec 5) (s : State) : Res :=
  s.ready w [a, b, d] fun s => (s.writeGEm 20 d.toNat (f (s.core.g a.toNat) (s.core.g b.toNat))).ok

/-- gD := f(gA). -/
def regOne (f : Word → Word) (w : Bool) (d a : BitVec 5) (s : State) : Res :=
  s.ready w [a, d] fun s => (s.writeG 1 d.toNat (f (s.core.g a.toNat))).ok

/-- gD := f(gA, imm), the immediate widened by EXT (R64). -/
def regImm (lat : Nat) (f : Word → Word → Word) (w : Bool) (d a : BitVec 5) (i : BitVec 14) (s : State) : Res :=
  s.ready w [a, d] fun s => (s.writeG lat d.toNat (f (s.core.g a.toNat) (s.immWord 14 i.toNat))).ok

/-- gD := f(gA, amount). -/
def regAmt (f : Word → Nat → Word) (w : Bool) (d a : BitVec 5) (i : BitVec 6) (s : State) : Res :=
  s.ready w [a, d] fun s => (s.writeG 1 d.toNat (f (s.core.g a.toNat) i.toNat)).ok

/-- A shift or rotate amount: bits [5:0] of the register (R104). -/
def amount (b : Word) : Nat := b.toNat % 64

/-- Quotient rounded toward zero; divisor 0 gives −1 (R105). -/
def divS (a b : Word) : Word := if b = 0 then BitVec.allOnes 64 else BitVec.ofInt 64 (a.toInt.tdiv b.toInt)
/-- Unsigned quotient; divisor 0 gives 2^64 − 1 (R105). -/
def divU (a b : Word) : Word := if b = 0 then BitVec.allOnes 64 else w64 (a.toNat / b.toNat)
/-- a − b · quotient (R104); divisor 0 gives a (R105). -/
def remS (a b : Word) : Word := if b = 0 then a else BitVec.ofInt 64 (a.toInt.tmod b.toInt)
/-- Unsigned remainder. -/
def remU (a b : Word) : Word := if b = 0 then a else w64 (a.toNat % b.toNat)
/-- Leading zeros; 64 for 0. -/
def clzWord (a : Word) : Word := if a = 0 then 64 else w64 (63 - Nat.log2 a.toNat)
/-- Trailing zeros; 64 for 0. -/
def ctzWord (a : Word) : Word := if a = 0 then 64 else w64 (Nat.log2 (a &&& (0 - a)).toNat)
/-- Set bits. -/
def popcWord (a : Word) : Word := w64 ((List.range 64).foldl (fun n i => n + a.toNat / 2 ^ i % 2) 0)
/-- High 64 bits of the signed product. -/
def mulhS (a b : Word) : Word := BitVec.ofInt 64 (a.toInt * b.toInt / 2 ^ 64)
/-- High 64 bits of the unsigned product. -/
def mulhU (a b : Word) : Word := w64 (a.toNat * b.toNat / 2 ^ 64)

/-! ### Integer register forms (R104, R105) -/

/-- ADD (R104). -/
def execAdd (w : Bool) (d a b : BitVec 5) (s : State) : Host.Outcome State Fault Refusal :=
  settle 1 (regReg 1 (fun a b => a + b) w d a b s)

/-- SUB (R104). -/
def execSub (w : Bool) (d a b : BitVec 5) (s : State) : Host.Outcome State Fault Refusal :=
  settle 1 (regReg 1 (fun a b => a - b) w d a b s)

/-- AND (R104). -/
def execAnd (w : Bool) (d a b : BitVec 5) (s : State) : Host.Outcome State Fault Refusal :=
  settle 1 (regReg 1 (fun a b => a &&& b) w d a b s)

/-- OR (R104). -/
def execOr (w : Bool) (d a b : BitVec 5) (s : State) : Host.Outcome State Fault Refusal :=
  settle 1 (regReg 1 (fun a b => a ||| b) w d a b s)

/-- XOR (R104). -/
def execXor (w : Bool) (d a b : BitVec 5) (s : State) : Host.Outcome State Fault Refusal :=
  settle 1 (regReg 1 (fun a b => a ^^^ b) w d a b s)

/-- ANDN (R104). -/
def execAndn (w : Bool) (d a b : BitVec 5) (s : State) : Host.Outcome State Fault Refusal :=
  settle 1 (regReg 1 (fun a b => a &&& ~~~b) w d a b s)

/-- SHL (R104). -/
def execShl (w : Bool) (d a b : BitVec 5) (s : State) : Host.Outcome State Fault Refusal :=
  settle 1 (regReg 1 (fun a b => a <<< amount b) w d a b s)

/-- SHR (R104). -/
def execShr (w : Bool) (d a b : BitVec 5) (s : State) : Host.Outcome State Fault Refusal :=
  settle 1 (regReg 1 (fun a b => a >>> amount b) w d a b s)

/-- SAR (R104). -/
def execSar (w : Bool) (d a b : BitVec 5) (s : State) : Host.Outcome State Fault Refusal :=
  settle 1 (regReg 1 (fun a b => a.sshiftRight (amount b)) w d a b s)

/-- ROL (R104). -/
def execRol (w : Bool) (d a b : BitVec 5) (s : State) : Host.Outcome State Fault Refusal :=
  settle 1 (regReg 1 (fun a b => a.rotateLeft (amount b)) w d a b s)

/-- MUL (R104). -/
def execMul (w : Bool) (d a b : BitVec 5) (s : State) : Host.Outcome State Fault Refusal :=
  settle 1 (regReg 3 (fun a b => a * b) w d a b s)

/-- MULH (R104). -/
def execMulh (w : Bool) (d a b : BitVec 5) (s : State) : Host.Outcome State Fault Refusal :=
  settle 1 (regReg 3 (fun a b => mulhS a b) w d a b s)

/-- MULHU (R104). -/
def execMulhu (w : Bool) (d a b : BitVec 5) (s : State) : Host.Outcome State Fault Refusal :=
  settle 1 (regReg 3 (fun a b => mulhU a b) w d a b s)

/-- DIV (R104, R105). -/
def execDiv (w : Bool) (d a b : BitVec 5) (s : State) : Host.Outcome State Fault Refusal :=
  settle 1 (regRegEm divS w d a b s)

/-- DIVU (R104, R105). -/
def execDivu (w : Bool) (d a b : BitVec 5) (s : State) : Host.Outcome State Fault Refusal :=
  settle 1 (regRegEm divU w d a b s)

/-- REM (R104, R105). -/
def execRem (w : Bool) (d a b : BitVec 5) (s : State) : Host.Outcome State Fault Refusal :=
  settle 1 (regRegEm remS w d a b s)

/-- REMU (R104, R105). -/
def execRemu (w : Bool) (d a b : BitVec 5) (s : State) : Host.Outcome State Fault Refusal :=
  settle 1 (regRegEm remU w d a b s)

/-- MIN (R104). -/
def execMin (w : Bool) (d a b : BitVec 5) (s : State) : Host.Outcome State Fault Refusal :=
  settle 1 (regReg 1 (fun a b => if a.slt b then a else b) w d a b s)

/-- MAX (R104). -/
def execMax (w : Bool) (d a b : BitVec 5) (s : State) : Host.Outcome State Fault Refusal :=
  settle 1 (regReg 1 (fun a b => if a.slt b then b else a) w d a b s)

/-- MINU (R104). -/
def execMinu (w : Bool) (d a b : BitVec 5) (s : State) : Host.Outcome State Fault Refusal :=
  settle 1 (regReg 1 (fun a b => if a.ult b then a else b) w d a b s)

/-- MAXU (R104). -/
def execMaxu (w : Bool) (d a b : BitVec 5) (s : State) : Host.Outcome State Fault Refusal :=
  settle 1 (regReg 1 (fun a b => if a.ult b then b else a) w d a b s)

/-- CLZ (R104). -/
def execClz (w : Bool) (d a : BitVec 5) (s : State) : Host.Outcome State Fault Refusal :=
  settle 1 (regOne (clzWord) w d a s)

/-- CTZ (R104). -/
def execCtz (w : Bool) (d a : BitVec 5) (s : State) : Host.Outcome State Fault Refusal :=
  settle 1 (regOne (ctzWord) w d a s)

/-- POPC (R104). -/
def execPopc (w : Bool) (d a : BitVec 5) (s : State) : Host.Outcome State Fault Refusal :=
  settle 1 (regOne (popcWord) w d a s)

/-- SEXTB (R104). -/
def execSextb (w : Bool) (d a : BitVec 5) (s : State) : Host.Outcome State Fault Refusal :=
  settle 1 (regOne (fun a => sext 8 a.toNat) w d a s)

/-- SEXTH (R104). -/
def execSexth (w : Bool) (d a : BitVec 5) (s : State) : Host.Outcome State Fault Refusal :=
  settle 1 (regOne (fun a => sext 16 a.toNat) w d a s)

/-- SEXTW (R104). -/
def execSextw (w : Bool) (d a : BitVec 5) (s : State) : Host.Outcome State Fault Refusal :=
  settle 1 (regOne (fun a => sext 32 a.toNat) w d a s)

/-! ### Immediate forms (R106) -/

/-- ADDI (R106). -/
def execAddi (w : Bool) (d a : BitVec 5) (i : BitVec 14) (s : State) : Host.Outcome State Fault Refusal :=
  settle 1 (regImm 1 (fun a b => a + b) w d a i s)

/-- ANDI (R106). -/
def execAndi (w : Bool) (d a : BitVec 5) (i : BitVec 14) (s : State) : Host.Outcome State Fault Refusal :=
  settle 1 (regImm 1 (fun a b => a &&& b) w d a i s)

/-- ORI (R106). -/
def execOri (w : Bool) (d a : BitVec 5) (i : BitVec 14) (s : State) : Host.Outcome State Fault Refusal :=
  settle 1 (regImm 1 (fun a b => a ||| b) w d a i s)

/-- XORI (R106). -/
def execXori (w : Bool) (d a : BitVec 5) (i : BitVec 14) (s : State) : Host.Outcome State Fault Refusal :=
  settle 1 (regImm 1 (fun a b => a ^^^ b) w d a i s)

/-- MULI (R106). -/
def execMuli (w : Bool) (d a : BitVec 5) (i : BitVec 14) (s : State) : Host.Outcome State Fault Refusal :=
  settle 1 (regImm 3 (fun a b => a * b) w d a i s)

/-- SHLI (R106). -/
def execShli (w : Bool) (d a : BitVec 5) (i : BitVec 6) (s : State) : Host.Outcome State Fault Refusal :=
  settle 1 (regAmt (fun a n => a <<< n) w d a i s)

/-- SHRI (R106). -/
def execShri (w : Bool) (d a : BitVec 5) (i : BitVec 6) (s : State) : Host.Outcome State Fault Refusal :=
  settle 1 (regAmt (fun a n => a >>> n) w d a i s)

/-- SARI (R106). -/
def execSari (w : Bool) (d a : BitVec 5) (i : BitVec 6) (s : State) : Host.Outcome State Fault Refusal :=
  settle 1 (regAmt (fun a n => a.sshiftRight n) w d a i s)

/-- MOVI (R106); its format has no B field and behaves as B = 1 (R63). -/
def execMovi (d : BitVec 5) (i : BitVec 20) (s : State) : Host.Outcome State Fault Refusal :=
  settle 1 (s.ready true [d] fun s => (s.writeG 1 d.toNat (s.immWord 20 i.toNat)).ok)

/-! ### Compares, predicates, select (R107, R108) -/

/-- A condition of R70 outside 0 to 5 traps ILLEGAL; the decoder gives none. -/
def execCmp (w : Bool) (p : BitVec 4) (a b : BitVec 5) (c : BitVec 3) (s : State) : Host.Outcome State Fault Refusal :=
  settle 1 (s.ready w [a, b] fun s => (s.writeP 1 p (condHolds c.toNat (s.core.g a.toNat) (s.core.g b.toNat))).ok)

/-- CMPI (R107): the immediate is sign-extended, and an unsigned compare reads it as unsigned (R70). -/
def execCmpi (w : Bool) (p : BitVec 4) (a : BitVec 5) (c : BitVec 3) (i : BitVec 12) (s : State) : Host.Outcome State Fault Refusal :=
  settle 1 (s.ready w [a] fun s => (s.writeP 1 p (condHolds c.toNat (s.core.g a.toNat) (s.immWord 12 i.toNat))).ok)

/-- PAND (R108). -/
def execPand (d a b : BitVec 4) (s : State) : Host.Outcome State Fault Refusal :=
  settle 1 (s.writeP 1 d (s.pn a && s.pn b)).ok

/-- POR (R108). -/
def execPor (d a b : BitVec 4) (s : State) : Host.Outcome State Fault Refusal :=
  settle 1 (s.writeP 1 d (s.pn a || s.pn b)).ok

/-- PXOR (R108). -/
def execPxor (d a b : BitVec 4) (s : State) : Host.Outcome State Fault Refusal :=
  settle 1 (s.writeP 1 d (s.pn a != s.pn b)).ok

/-- PANDN (R108). -/
def execPandn (d a b : BitVec 4) (s : State) : Host.Outcome State Fault Refusal :=
  settle 1 (s.writeP 1 d (s.pn a && !s.pn b)).ok

/-- PNOT (R108). -/
def execPnot (d a : BitVec 4) (s : State) : Host.Outcome State Fault Refusal :=
  settle 1 (s.writeP 1 d (!s.pn a)).ok

/-- SEL (R108). -/
def execSel (w : Bool) (d a b : BitVec 5) (p : BitVec 4) (s : State) : Host.Outcome State Fault Refusal :=
  settle 1 (s.ready w [a, b, d] fun s =>
    (s.writeG 1 d.toNat (if s.pn p then s.core.g a.toNat else s.core.g b.toNat)).ok)

/-! ### FP64 (R110 to R112) -/

/-- A G register read as FP64. -/
def State.fp (s : State) (a : BitVec 5) : Num := fp64.decode (s.gn a)

/-- An FP64 result rounded in RNE, with its exception bits; em at latency 20 for the divide and the root (R61). -/
def State.writeFp (s : State) (em : Bool) (d : BitVec 5) (x : Num × FFlags) : State :=
  let r := x.1.rne fp64
  let lat := if em then 20 else 4
  (if em then s.writeGEm 20 d.toNat (w64 r.1) else s.writeG 4 d.toNat (w64 r.1)).raiseFlags lat 2 (x.2 ||| r.2)

/-- gD := f(gA, gB) on FP64. -/
def fpReg (em : Bool) (f : Num → Num → Num × FFlags) (w : Bool) (d a b : BitVec 5) (s : State) : Res :=
  s.ready w [a, b, d] fun s => (s.writeFp em d (f (s.fp a) (s.fp b))).ok

/-- gD := f(gA) on FP64. -/
def fpOne (em : Bool) (f : Num → Num × FFlags) (w : Bool) (d a : BitVec 5) (s : State) : Res :=
  s.ready w [a, d] fun s => (s.writeFp em d (f (s.fp a))).ok

/-- The word a scalar conversion draws from VRS0 when its mode is RSTO (R36, R110). -/
def State.drawFor (s : State) (r : BitVec 3) : Nat × State := if r = 4 then s.drawV 0 else (0, s)

/-- FADD (R110). -/
def execFadd (w : Bool) (d a b : BitVec 5) (s : State) : Host.Outcome State Fault Refusal :=
  settle 1 (fpReg false (Num.add) w d a b s)

/-- FSUB (R110). -/
def execFsub (w : Bool) (d a b : BitVec 5) (s : State) : Host.Outcome State Fault Refusal :=
  settle 1 (fpReg false (Num.sub) w d a b s)

/-- FMUL (R110). -/
def execFmul (w : Bool) (d a b : BitVec 5) (s : State) : Host.Outcome State Fault Refusal :=
  settle 1 (fpReg false (Num.mul) w d a b s)

/-- FDIV (R110). -/
def execFdiv (w : Bool) (d a b : BitVec 5) (s : State) : Host.Outcome State Fault Refusal :=
  settle 1 (fpReg true (Num.div) w d a b s)

/-- FMIN (R110). -/
def execFmin (w : Bool) (d a b : BitVec 5) (s : State) : Host.Outcome State Fault Refusal :=
  settle 1 (fpReg false (Num.minMax false) w d a b s)

/-- FMAX (R110). -/
def execFmax (w : Bool) (d a b : BitVec 5) (s : State) : Host.Outcome State Fault Refusal :=
  settle 1 (fpReg false (Num.minMax true) w d a b s)

/-- FSQRT (R110). -/
def execFsqrt (w : Bool) (d a : BitVec 5) (s : State) : Host.Outcome State Fault Refusal :=
  settle 1 (fpOne true (Num.sqrt) w d a s)

/-- FABS (R110). -/
def execFabs (w : Bool) (d a : BitVec 5) (s : State) : Host.Outcome State Fault Refusal :=
  settle 1 (fpOne false (fun x => (x.abs, 0)) w d a s)

/-- FNEG (R110). -/
def execFneg (w : Bool) (d a : BitVec 5) (s : State) : Host.Outcome State Fault Refusal :=
  settle 1 (fpOne false (fun x => (x.negate, 0)) w d a s)

/-- FCVTID (R110): INT64 to FP64. -/
def execFcvtid (w : Bool) (d a : BitVec 5) (r : BitVec 3) (s : State) : Host.Outcome State Fault Refusal :=
  settle 1 (s.ready w [a, d] fun s =>
    let (word, s) := s.drawFor r
    let x := (Num.ofInt (s.core.g a.toNat).toInt).round fp64 (RMode.ofCode r.toNat) false word
    ((s.writeG 4 d.toNat (w64 x.1)).raiseFlags 4 2 x.2).ok)

/-- FCVTDI (R110, R33): FP64 to INT64. -/
def execFcvtdi (w : Bool) (d a : BitVec 5) (r : BitVec 3) (s : State) : Host.Outcome State Fault Refusal :=
  settle 1 (s.ready w [a, d] fun s =>
    let (word, s) := s.drawFor r
    let x := (s.fp a).toIntN 64 (RMode.ofCode r.toNat) word
    ((s.writeG 4 d.toNat (BitVec.ofInt 64 x.1)).raiseFlags 4 2 x.2).ok)

/-- The relation that FCMP's rm names (R110). -/
def relOf (r : Nat) : Rel := match r with | 0 => .eq | 1 => .lt | 2 => .le | _ => .ne

/-- FCMP (R110, R30). -/
def execFcmp (w : Bool) (p : BitVec 4) (a b : BitVec 5) (r : BitVec 3) (s : State) : Host.Outcome State Fault Refusal :=
  settle 1 (s.ready w [a, b] fun s =>
    let x := Num.rel (relOf r.toNat) (s.fp a) (s.fp b)
    ((s.writeP 4 p x.1).raiseFlags 4 2 x.2).ok)

/-- FFMA.D (R111): one rounding. -/
def execFfmaD (w : Bool) (d a b c : BitVec 5) (s : State) : Host.Outcome State Fault Refusal :=
  settle 1 (s.ready w [a, b, c, d] fun s => (s.writeFp false d (Num.fma (s.fp a) (s.fp b) (s.fp c))).ok)

/-! ### Staging and system registers (R119, R120) -/

/-- MOVX (R119). -/
def execMovx (w : Bool) (e : BitVec 2) (x : BitVec 3) (a : BitVec 5) (s : State) : Host.Outcome State Fault Refusal :=
  settle 1 (s.ready w [a] fun s => (s.later 1 (.staging (8 * e.toNat + x.toNat) (s.core.g a.toNat))).ok)

/-- The traps of naming a system register: PRIV for the monitor's below monitor level, ILLEGAL for one that is not
assigned (R120). -/
def State.srCheck (s : State) (n : Nat) (k : State → Res) : Res :=
  if 0x100 ≤ n ∧ !s.core.tr.mlvl then .trap { cause := cPriv, stage := 0 } s
  else if (s.readSr n).isNone then .trap { cause := cIllegal, stage := 0 } s
  else k s

/-- A move of a system register: an empty register holds it under B = 1; then the number is judged, and FE_EMPTY under
B = 0 behind that (R57, R59, R120). -/
def State.srReady (s : State) (w : Bool) (g : BitVec 5) (n : Nat) (k : State → Res) : Res :=
  if w then s.ready true [g] fun s => s.srCheck n k else s.srCheck n fun s => s.ready false [g] k

/-- MOVSR (R120): read-only registers and fields ignore it. -/
def execMovsr (w : Bool) (g : BitVec 5) (n : BitVec 12) (s : State) : Host.Outcome State Fault Refusal :=
  settle 1 (s.srReady w g n.toNat fun s => (s.later 1 (.sr n.toNat (s.core.g g.toNat))).ok)

/-- MOVRS (R120): DTB and LEASE_HORIZON are em, and land when the schedule says, within 40 cycles (R222, log 10). -/
def execMovrs (w : Bool) (g : BitVec 5) (n : BitVec 12) (s : State) : Host.Outcome State Fault Refusal :=
  settle 1 (s.srReady w g n.toNat fun s =>
    let v := w64 ((s.readSr n.toNat).getD 0)
    if srEm n.toNat then
      ((s.emptyG g.toNat).awaits { dst := [.g (s.core.phys g.toNat) v true], moved := true, latest := some (s.core.seq.cyc + 40) }).ok
    else (s.writeG 1 g.toNat v).ok)

/-! ### The tensor identifier table (R121 to R123) -/

/-- The values TITW refuses: a reserved bit, a reserved FMT or SWZ, a TOL of −8 to −5 (R121). -/
def titLegal (n v : Nat) : Bool :=
  match n with
  | 0 => v / 2 ^ 33 == 0 && !bit v 7 && decide (bits v 14 2 < 2) && decide (bits v 0 5 < 14) &&
      !(decide (8 ≤ bits v 8 4) && decide (bits v 8 4 < 12))
  | 1 => v / 2 ^ 52 == 0 && bits v 0 6 == 0
  | 2 => v / 2 ^ 40 == 0 && bits v 0 6 == 0
  | 3 => v / 2 ^ 40 == 0 && bits v 0 6 == 0
  | 4 => v / 2 ^ 52 == 0 && bits v 0 7 == 0
  | _ => false

/-- TITW (R121). -/
def execTitw (w : Bool) (g : BitVec 5) (t : BitVec 6) (n : BitVec 3) (s : State) : Host.Outcome State Fault Refusal :=
  settle 1 (s.ready w [g] fun s =>
    if titLegal n.toNat (s.gn g) then (s.later 1 (.tit (5 * t.toNat + n.toNat) (s.core.g g.toNat))).ok
    else s.raise cIllegal)

/-- TITR (R121). -/
def execTitr (w : Bool) (g : BitVec 5) (t : BitVec 6) (n : BitVec 3) (s : State) : Host.Outcome State Fault Refusal :=
  settle 1 (s.ready w [g] fun s => (s.writeG 1 g.toNat (Sparse.get 0 s.core.st.tit (5 * t.toNat + n.toNat))).ok)

/-- EXT (R64, R65): the next bundle's S slot takes the immediate. -/
def execExt (i : BitVec 25) (s : State) : Host.Outcome State Fault Refusal :=
  settle 1 (s.onSeq fun q => { q with ext := some ⟨i, q.pc, q.xfer⟩ }).ok

end Sys2Proof.Machine
end

