-- ==== Sys2Proof/WellFormed.lean ====
section
/-! DEFINITION. What makes an instruction well-formed.

For a slot word: no field holds a value its format calls reserved or illegal, so that the word does not trap ILLEGAL
by itself (R58, R8). A V register number of 160 or more is a REGFIELD trap (R71) and a privileged form a PRIV trap
(R67, R120); both are judged at issue and are no matter of form. For an event: what it names exists. -/

namespace Sys2Proof

/-- The system registers of R120 below the monitor block. -/
def srAssigned (n : Nat) : Bool :=
  decide (1 ≤ n ∧ n ≤ 6) || decide (8 ≤ n ∧ n ≤ 0x12) || decide (0x18 ≤ n ∧ n ≤ 0x20) ||
    decide (0x28 ≤ n ∧ n ≤ 0x3A) || decide (0x40 ≤ n ∧ n ≤ 0x43) || decide (0x48 ≤ n ∧ n ≤ 0x4D) ||
    decide (0x50 ≤ n ∧ n ≤ 0x6F) || decide (0x100 ≤ n ∧ n ≤ 0x1FF)

/-- The staging registers XC, XD, XM, which MOVSR may not name (R120). -/
def srStaging (n : Nat) : Bool := decide (0x58 ≤ n ∧ n ≤ 0x6F)

/-- What an instruction needs to be well-formed. -/
def Instr.wellFormed : Instr → Bool
  -- K slot: an `end` of 0 and a stage count of 0 trap ILLEGAL (R67)
  | .loop _ _ e => e != 0
  | .loopi _ _ e => e != 0
  | .lpipe _ _ s e => s != 0 && e != 0
  -- S slot: cc, rm, eng, gd, w and sr (R70, R119 to R121)
  | .cmp _ _ _ _ c => decide (c.toNat ≤ 5)
  | .cmpi _ _ _ c _ => decide (c.toNat ≤ 5)
  | .fcvtid _ _ _ r => decide (r.toNat ≤ 4)
  | .fcvtdi _ _ _ r => decide (r.toNat ≤ 4)
  | .fcmp _ _ _ _ r => decide (r.toNat ≤ 3)
  | .cas _ d _ _ _ _ => d.toNat % 2 == 0
  | .movx _ e _ _ => e != 3
  | .movsr _ _ s => srAssigned s.toNat && !srStaging s.toNat
  | .movrs _ _ s => srAssigned s.toNat
  | .titw _ _ _ n => decide (n.toNat ≤ 4)
  | .titr _ _ _ n => decide (n.toNat ≤ 4)
  -- V slots (R72)
  | .vsetm _ _ t m _ _ => decide (t.toNat ≤ 9) && decide (m.toNat ≤ 4)
  | .vcvt _ _ _ _ t m s =>
      decide (t.toNat ≤ 10) && decide (m.toNat ≤ 4) && (s == 0 || !(t == 2 || t == 3 || t == 6 || t == 7))
  | .vlds _ _ _ _ _ a => a.toNat % 2 == 0
  | .vsts _ _ _ _ _ a => a.toNat % 2 == 0
  -- M slot: the mod values of R168 and R169
  | .mdrn _ _ _ m _ => m != 3
  | .mdrnr _ _ _ m _ => m != 3
  -- Y slot: scopes 0 to 5 (R75, R24)
  | .rel s => decide (s.toNat ≤ 5)
  | .acq s => decide (s.toNat ≤ 5)
  -- events
  | .holdRelease c => decide (c < 256)
  | .fixedResultLanding c => decide (c < 256)
  | .variableResultLanding c _ => decide (c < 256)
  | .spillFill c => decide (c < 256)
  | .segmentCopyComplete c h => decide (c < 256) && decide (h < 2)
  | .commandStart c q => decide (c < 256) && decide (q < 3)
  | .productStep c => decide (c < 256)
  | .tokenRetire c t => decide (c < 256) && decide (t < 64)
  | .leaseGrant cl => decide (cl < 64)
  | .arrayRepair cl => decide (cl < 64)
  | .faultHistoryExpiry cl => decide (cl < 64)
  | .arrivalInterrupt c => decide (c < 256)
  | .step c => decide (c < 256)
  | .traceSample c => decide (c < 256)
  | .debugStop c => decide (c < 256)
  | .debugStopForce c => decide (c < 256)
  | .stop c => decide (c < 256)
  | .run c => decide (c < 256)
  | .req c => decide (c < 256)
  | .data c _ => decide (c < 256)
  | .hbind c n k _ => decide (c < 256) && decide (n < 16) && decide (k < 2)
  | .taskDispatch => true
  | .priorityPreemption p => decide (p < 64)
  | .preemption c => decide (c < 256)
  | .resumption _ => true
  | .taskAbort c _ => decide (c < 256)
  | .ueCore c => decide (c < 256)
  | .kernelComplete _ => true
  | .pageWalk c _ => decide (c < 256)
  | .walkTimeout c => decide (c < 256)
  | .leaseExpiry d => decide (d < 8)
  | .foldAtomicApply _ _ _ _ => true
  | .cincApply _ _ => true
  | .cwaitGrant _ => true
  | .flagPost c f n ctx => decide (c < 256) && decide (f < 32) && decide (n < 65536) && decide (ctx < 256)
  | .barrierPhaseComplete c b => decide (c < 256) && decide (b < 128)
  | .barrierCombine _ _ _ _ => true
  | .readRequest _ _ _ _ => true
  | .readResponse _ _ _ => true
  | .write _ _ _ _ _ _ _ _ => true
  | .writeAck _ _ => true
  | .atomic _ _ _ _ _ _ => true
  | .atomicResponse _ _ _ => true
  | .launchHandOff _ _ _ _ _ _ => true
  | .dtbSynchronisation d _ => decide (d < 8)
  | .syncResend d => decide (d < 8)
  | .ack d j _ => decide (d < 8) && decide (j < 6)
  | .nak d j _ => decide (d < 8) && decide (j < 6)
  | .en d j _ => decide (d < 8) && decide (j < 6)
  | .retrain d j => decide (d < 8) && decide (j < 6)
  | .trainingStart d j => decide (d < 8) && decide (j < 6)
  | .trainingComplete d j pp pd pj => decide (d < 8) && decide (j < 6) && decide (pp < 64) && decide (pd < 8) && decide (pj < 6)
  | .trainingTimeout d j => decide (d < 8) && decide (j < 6)
  | .retrainComplete d j _ => decide (d < 8) && decide (j < 6)
  | .routeHoldTimeout _ => true
  | .stagingArrival _ _ => true
  | .chunkLaunch _ _ => true
  | .ringPartial _ _ _ _ _ _ _ => true
  | .ringResult _ _ _ _ _ => true
  | .armed _ _ _ => true
  | .done _ _ _ => true
  | .fail _ _ _ _ _ => true
  | .ringAbort _ _ _ => true
  | .abortAck _ _ _ => true
  | .notify n _ => decide (n < 4096)
  | .apertureUngate n => decide (n < 4096)
  | .qpend n _ => decide (n < 64)
  | .packetFetch p => decide (p < 64)
  | .invalid p => decide (p < 64)
  | .nopPacket p => decide (p < 64)
  | .launch p => decide (p < 64)
  | .waitsig p => decide (p < 64)
  | .waitsigPoll p => decide (p < 64)
  | .ffence p => decide (p < 64)
  | .notifyPacket p => decide (p < 64)
  | .map p => decide (p < 64)
  | .unmap p => decide (p < 64)
  | .unbindComplete p => decide (p < 64)
  | .queueReset p => decide (p < 64)
  | .setprio p => decide (p < 64)
  | .resume p => decide (p < 64)
  | .create _ => true
  | .setmask _ => true
  | .setbudget _ => true
  | .setpool _ => true
  | .contextReset _ => true
  | .destroy _ => true
  | .deadline _ => true
  | .query _ => true
  | .clrrepair _ => true
  | .hostOrderedRead _ _ => true
  | .hostOrderedWrite _ _ => true
  | .hostRelaxedRead _ _ => true
  | .hostRelaxedWrite _ _ => true
  | .hostAtomicop _ op _ _ _ => decide (op < 3)
  | .completionTimeout c _ => decide (c < 256)
  | .coldReset => true
  | .warmReset => true
  | .resetpkg => true
  | .recover => true
  | .svncommit _ => true
  | .powerLimit _ => true
  | .pldmSensorRead _ => true
  | .getVersion => true
  | .getCapabilities => true
  | .negotiateAlgorithms => true
  | .getDigests => true
  | .getCertificate => true
  | .challenge _ => true
  | .getMeasurements => true
  | .savebase _ => true
  | .registerWrite _ _ => true
  | .softError _ _ _ => true
  | .packagePartComplete _ _ _ => true
  | .pageResidentReport _ _ => true
  | .pollingPosition p => decide (p < 80)
  | .copyStepBoundary c q _ => decide (c < 256) && decide (q < 2)
  | .crcFailure d j _ => decide (d < 8) && decide (j < 6)
  | .apertureGate n => decide (n < 4096)
  | _ => true

/-- The events: what happens to the machine beside the issue of slot words. -/
def Instr.isEvent : Instr → Bool
  | .holdRelease _ => true
  | .fixedResultLanding _ => true
  | .variableResultLanding _ _ => true
  | .spillFill _ => true
  | .segmentCopyComplete _ _ => true
  | .commandStart _ _ => true
  | .productStep _ => true
  | .tokenRetire _ _ => true
  | .leaseGrant _ => true
  | .arrayRepair _ => true
  | .faultHistoryExpiry _ => true
  | .arrivalInterrupt _ => true
  | .step _ => true
  | .traceSample _ => true
  | .debugStop _ => true
  | .debugStopForce _ => true
  | .stop _ => true
  | .run _ => true
  | .req _ => true
  | .data _ _ => true
  | .hbind _ _ _ _ => true
  | .taskDispatch => true
  | .priorityPreemption _ => true
  | .preemption _ => true
  | .resumption _ => true
  | .taskAbort _ _ => true
  | .ueCore _ => true
  | .kernelComplete _ => true
  | .pageWalk _ _ => true
  | .walkTimeout _ => true
  | .leaseExpiry _ => true
  | .foldAtomicApply _ _ _ _ => true
  | .cincApply _ _ => true
  | .cwaitGrant _ => true
  | .flagPost _ _ _ _ => true
  | .barrierPhaseComplete _ _ => true
  | .barrierCombine _ _ _ _ => true
  | .readRequest _ _ _ _ => true
  | .readResponse _ _ _ => true
  | .write _ _ _ _ _ _ _ _ => true
  | .writeAck _ _ => true
  | .atomic _ _ _ _ _ _ => true
  | .atomicResponse _ _ _ => true
  | .launchHandOff _ _ _ _ _ _ => true
  | .dtbSynchronisation _ _ => true
  | .syncResend _ => true
  | .ack _ _ _ => true
  | .nak _ _ _ => true
  | .en _ _ _ => true
  | .retrain _ _ => true
  | .trainingStart _ _ => true
  | .trainingComplete _ _ _ _ _ => true
  | .trainingTimeout _ _ => true
  | .retrainComplete _ _ _ => true
  | .routeHoldTimeout _ => true
  | .stagingArrival _ _ => true
  | .chunkLaunch _ _ => true
  | .ringPartial _ _ _ _ _ _ _ => true
  | .ringResult _ _ _ _ _ => true
  | .armed _ _ _ => true
  | .done _ _ _ => true
  | .fail _ _ _ _ _ => true
  | .ringAbort _ _ _ => true
  | .abortAck _ _ _ => true
  | .notify _ _ => true
  | .apertureUngate _ => true
  | .qpend _ _ => true
  | .packetFetch _ => true
  | .invalid _ => true
  | .nopPacket _ => true
  | .launch _ => true
  | .waitsig _ => true
  | .waitsigPoll _ => true
  | .ffence _ => true
  | .notifyPacket _ => true
  | .map _ => true
  | .unmap _ => true
  | .unbindComplete _ => true
  | .queueReset _ => true
  | .setprio _ => true
  | .resume _ => true
  | .create _ => true
  | .setmask _ => true
  | .setbudget _ => true
  | .setpool _ => true
  | .contextReset _ => true
  | .destroy _ => true
  | .deadline _ => true
  | .query _ => true
  | .clrrepair _ => true
  | .hostOrderedRead _ _ => true
  | .hostOrderedWrite _ _ => true
  | .hostRelaxedRead _ _ => true
  | .hostRelaxedWrite _ _ => true
  | .hostAtomicop _ _ _ _ _ => true
  | .completionTimeout _ _ => true
  | .coldReset => true
  | .warmReset => true
  | .resetpkg => true
  | .recover => true
  | .svncommit _ => true
  | .powerLimit _ => true
  | .pldmSensorRead _ => true
  | .getVersion => true
  | .getCapabilities => true
  | .negotiateAlgorithms => true
  | .getDigests => true
  | .getCertificate => true
  | .challenge _ => true
  | .getMeasurements => true
  | .savebase _ => true
  | .registerWrite _ _ => true
  | .softError _ _ _ => true
  | .packagePartComplete _ _ _ => true
  | .pageResidentReport _ _ => true
  | .pollingPosition _ => true
  | .copyStepBoundary _ _ _ => true
  | .crcFailure _ _ _ => true
  | .apertureGate _ => true
  | _ => false

end Sys2Proof
end

