-- ==== Sys2Proof/Decode.lean ====
section
/-! DEFINITION. Decoding of slot words (R58, R66 to R75) and the encoder.

A word is cut into the fields of its slot's format, lowest first, by `unpack`; `pack` lays fields side by side.
The decoder of a slot answers the instruction and the weight of its encoding (64 for each bit it fixes at 1 and
1 more for each bit it fixes, used only by `tableReading`); a word of no listed encoding,
or one that breaks a check of WellFormed.lean, decodes to none: such a slot traps ILLEGAL (R58). -/

namespace Sys2Proof

/-- Cut `x` into fields of the given widths, the lowest first. -/
def unpack : List Nat → Nat → List Nat
  | [], _ => []
  | w :: ws, x => x % 2 ^ w :: unpack ws (x / 2 ^ w)

/-- Lay fields (width, value) side by side, the lowest first. -/
def pack : List (Nat × Nat) → Nat
  | [] => 0
  | (w, v) :: fs => v % 2 ^ w + 2 ^ w * pack fs

/-- The K slot (R66, R67): what the 25 bits under the major opcode say. -/
def decodeK (x : Nat) : Option (Nat × Instr) :=
    match x / 2 ^ 25 with
    | 1 =>
      match unpack [20, 5] x with
      | [d, 0] => some (76, .br (.ofNat 20 d))
      | _ => none
    | 2 =>
      match unpack [20, 4, 1] x with
      | [d, p, 0] => some (72, .brp (.ofNat 4 p) (.ofNat 20 d))
      | [d, p, 1] => some (136, .brn (.ofNat 4 p) (.ofNat 20 d))
      | _ => none
    | 3 =>
      match unpack [20, 5] x with
      | [d, 0] => some (140, .call (.ofNat 20 d))
      | _ => none
    | 4 =>
      match unpack [15, 5, 5] x with
      | [i, 0, a] => some (76, .calli (.ofNat 5 a) (.ofNat 15 i))
      | _ => none
    | 5 =>
      match unpack [25] x with
      | [0] => some (160, .ret)
      | _ => none
    | 6 =>
      match unpack [15, 5, 5] x with
      | [i, 0, a] => some (140, .jmpi (.ofNat 5 a) (.ofNat 15 i))
      | _ => none
    | 7 =>
      match unpack [4, 12, 4, 5] x with
      | [0, l, h, a] => some (203, .jtab (.ofNat 5 a) (.ofNat 4 h) (.ofNat 12 l))
      | _ => none
    | 8 =>
      match unpack [12, 4, 5, 3, 1] x with
      | [e, 0, a, 0, l] => some (78, .loop (.ofNat 1 l) (.ofNat 5 a) (.ofNat 12 e))
      | _ => none
    | 9 =>
      match unpack [12, 4, 8, 1] x with
      | [e, 0, n, l] => some (139, .loopi (.ofNat 1 l) (.ofNat 8 n) (.ofNat 12 e))
      | _ => none
    | 10 =>
      match unpack [12, 4, 5, 3, 1] x with
      | [e, s, a, 0, l] => some (138, .lpipe (.ofNat 1 l) (.ofNat 5 a) (.ofNat 4 s) (.ofNat 12 e))
      | _ => none
    | 11 =>
      match unpack [24, 1] x with
      | [0, l] => some (223, .lbrk (.ofNat 1 l))
      | _ => none
    | 12 =>
      match unpack [16, 9] x with
      | [i, 0] => some (144, .trap (.ofNat 16 i))
      | _ => none
    | 13 =>
      match unpack [25] x with
      | [0] => some (224, .tret)
      | _ => none
    | 14 =>
      match unpack [16, 9] x with
      | [i, 0] => some (208, .exit (.ofNat 16 i))
      | _ => none
    | 15 =>
      match unpack [16, 9] x with
      | [i, 0] => some (272, .abort (.ofNat 16 i))
      | _ => none
    | 16 =>
      match unpack [16, 9] x with
      | [i, 0] => some (80, .brk (.ofNat 16 i))
      | _ => none
    | 17 =>
      match unpack [16, 9] x with
      | [s, 0] => some (144, .segb (.ofNat 16 s))
      | _ => none
    | 18 =>
      match unpack [25] x with
      | [0] => some (160, .iwait)
      | _ => none
    | 19 =>
      match unpack [25] x with
      | [0] => some (224, .iret)
      | _ => none
    | 20 =>
      match unpack [16, 9] x with
      | [i, 0] => some (144, .syscall (.ofNat 16 i))
      | _ => none
    | 21 =>
      match unpack [25] x with
      | [0] => some (224, .mret)
      | _ => none
    | _ => none

/-- The S slot (R68 to R70): what the 25 bits under the major opcode say. -/
def decodeS (x : Nat) : Option (Nat × Instr) :=
    match x / 2 ^ 25 with
    | 1 =>
      match unpack [9, 1, 5, 5, 5] x with
      | [0, w, b, a, d] => some (80, .add (w == 1) (.ofNat 5 d) (.ofNat 5 a) (.ofNat 5 b))
      | [1, w, b, a, d] => some (144, .sub (w == 1) (.ofNat 5 d) (.ofNat 5 a) (.ofNat 5 b))
      | [2, w, b, a, d] => some (144, .and (w == 1) (.ofNat 5 d) (.ofNat 5 a) (.ofNat 5 b))
      | [3, w, b, a, d] => some (208, .or (w == 1) (.ofNat 5 d) (.ofNat 5 a) (.ofNat 5 b))
      | [4, w, b, a, d] => some (144, .xor (w == 1) (.ofNat 5 d) (.ofNat 5 a) (.ofNat 5 b))
      | [5, w, b, a, d] => some (208, .andn (w == 1) (.ofNat 5 d) (.ofNat 5 a) (.ofNat 5 b))
      | [6, w, b, a, d] => some (208, .shl (w == 1) (.ofNat 5 d) (.ofNat 5 a) (.ofNat 5 b))
      | [7, w, b, a, d] => some (272, .shr (w == 1) (.ofNat 5 d) (.ofNat 5 a) (.ofNat 5 b))
      | [8, w, b, a, d] => some (144, .sar (w == 1) (.ofNat 5 d) (.ofNat 5 a) (.ofNat 5 b))
      | [9, w, b, a, d] => some (208, .rol (w == 1) (.ofNat 5 d) (.ofNat 5 a) (.ofNat 5 b))
      | [10, w, b, a, d] => some (208, .mul (w == 1) (.ofNat 5 d) (.ofNat 5 a) (.ofNat 5 b))
      | [11, w, b, a, d] => some (272, .mulh (w == 1) (.ofNat 5 d) (.ofNat 5 a) (.ofNat 5 b))
      | [12, w, b, a, d] => some (208, .mulhu (w == 1) (.ofNat 5 d) (.ofNat 5 a) (.ofNat 5 b))
      | [13, w, b, a, d] => some (272, .div (w == 1) (.ofNat 5 d) (.ofNat 5 a) (.ofNat 5 b))
      | [14, w, b, a, d] => some (272, .divu (w == 1) (.ofNat 5 d) (.ofNat 5 a) (.ofNat 5 b))
      | [15, w, b, a, d] => some (336, .rem (w == 1) (.ofNat 5 d) (.ofNat 5 a) (.ofNat 5 b))
      | [16, w, b, a, d] => some (144, .remu (w == 1) (.ofNat 5 d) (.ofNat 5 a) (.ofNat 5 b))
      | [17, w, b, a, d] => some (208, .min (w == 1) (.ofNat 5 d) (.ofNat 5 a) (.ofNat 5 b))
      | [18, w, b, a, d] => some (208, .max (w == 1) (.ofNat 5 d) (.ofNat 5 a) (.ofNat 5 b))
      | [19, w, b, a, d] => some (272, .minu (w == 1) (.ofNat 5 d) (.ofNat 5 a) (.ofNat 5 b))
      | [20, w, b, a, d] => some (208, .maxu (w == 1) (.ofNat 5 d) (.ofNat 5 a) (.ofNat 5 b))
      | [21, w, 0, a, d] => some (277, .clz (w == 1) (.ofNat 5 d) (.ofNat 5 a))
      | [22, w, 0, a, d] => some (277, .ctz (w == 1) (.ofNat 5 d) (.ofNat 5 a))
      | [23, w, 0, a, d] => some (341, .popc (w == 1) (.ofNat 5 d) (.ofNat 5 a))
      | [24, w, 0, a, d] => some (213, .sextb (w == 1) (.ofNat 5 d) (.ofNat 5 a))
      | [25, w, 0, a, d] => some (277, .sexth (w == 1) (.ofNat 5 d) (.ofNat 5 a))
      | [26, w, 0, a, d] => some (277, .sextw (w == 1) (.ofNat 5 d) (.ofNat 5 a))
      | _ => none
    | 2 =>
      match unpack [14, 5, 5, 1] x with
      | [i, a, d, w] => some (71, .addi (w == 1) (.ofNat 5 d) (.ofNat 5 a) (.ofNat 14 i))
      | _ => none
    | 3 =>
      match unpack [14, 5, 5, 1] x with
      | [i, a, d, w] => some (135, .andi (w == 1) (.ofNat 5 d) (.ofNat 5 a) (.ofNat 14 i))
      | _ => none
    | 4 =>
      match unpack [14, 5, 5, 1] x with
      | [i, a, d, w] => some (71, .ori (w == 1) (.ofNat 5 d) (.ofNat 5 a) (.ofNat 14 i))
      | _ => none
    | 5 =>
      match unpack [14, 5, 5, 1] x with
      | [i, a, d, w] => some (135, .xori (w == 1) (.ofNat 5 d) (.ofNat 5 a) (.ofNat 14 i))
      | _ => none
    | 6 =>
      match unpack [6, 8, 5, 5, 1] x with
      | [i, 0, a, d, w] => some (143, .shli (w == 1) (.ofNat 5 d) (.ofNat 5 a) (.ofNat 6 i))
      | _ => none
    | 7 =>
      match unpack [6, 8, 5, 5, 1] x with
      | [i, 0, a, d, w] => some (207, .shri (w == 1) (.ofNat 5 d) (.ofNat 5 a) (.ofNat 6 i))
      | _ => none
    | 8 =>
      match unpack [6, 8, 5, 5, 1] x with
      | [i, 0, a, d, w] => some (79, .sari (w == 1) (.ofNat 5 d) (.ofNat 5 a) (.ofNat 6 i))
      | _ => none
    | 9 =>
      match unpack [14, 5, 5, 1] x with
      | [i, a, d, w] => some (135, .muli (w == 1) (.ofNat 5 d) (.ofNat 5 a) (.ofNat 14 i))
      | _ => none
    | 10 =>
      match unpack [20, 5] x with
      | [i, d] => some (135, .movi (.ofNat 5 d) (.ofNat 20 i))
      | _ => none
    | 12 =>
      match unpack [7, 3, 5, 5, 4, 1] x with
      | [0, c, b, a, p, w] => some (142, .cmp (w == 1) (.ofNat 4 p) (.ofNat 5 a) (.ofNat 5 b) (.ofNat 3 c))
      | _ => none
    | 13 =>
      match unpack [12, 3, 5, 4, 1] x with
      | [i, c, a, p, w] => some (199, .cmpi (w == 1) (.ofNat 4 p) (.ofNat 5 a) (.ofNat 3 c) (.ofNat 12 i))
      | _ => none
    | 14 =>
      match unpack [13, 4, 4, 4] x with
      | [0, b, a, d] => some (212, .pand (.ofNat 4 d) (.ofNat 4 a) (.ofNat 4 b))
      | [1024, b, a, d] => some (276, .por (.ofNat 4 d) (.ofNat 4 a) (.ofNat 4 b))
      | [2048, b, a, d] => some (276, .pxor (.ofNat 4 d) (.ofNat 4 a) (.ofNat 4 b))
      | [3072, b, a, d] => some (340, .pandn (.ofNat 4 d) (.ofNat 4 a) (.ofNat 4 b))
      | [4096, 0, a, d] => some (280, .pnot (.ofNat 4 d) (.ofNat 4 a))
      | _ => none
    | 15 =>
      match unpack [5, 4, 5, 5, 5, 1] x with
      | [0, p, b, a, d, w] => some (268, .sel (w == 1) (.ofNat 5 d) (.ofNat 5 a) (.ofNat 5 b) (.ofNat 4 p))
      | _ => none
    | 16 =>
      match unpack [2, 3, 4, 5, 5, 5, 1] x with
      | [0, 0, 0, b, a, d, w] => some (80, .fadd (w == 1) (.ofNat 5 d) (.ofNat 5 a) (.ofNat 5 b))
      | [0, 0, 1, b, a, d, w] => some (144, .fsub (w == 1) (.ofNat 5 d) (.ofNat 5 a) (.ofNat 5 b))
      | [0, 0, 2, b, a, d, w] => some (144, .fmul (w == 1) (.ofNat 5 d) (.ofNat 5 a) (.ofNat 5 b))
      | [0, 0, 3, b, a, d, w] => some (208, .fdiv (w == 1) (.ofNat 5 d) (.ofNat 5 a) (.ofNat 5 b))
      | [0, 0, 4, 0, a, d, w] => some (149, .fsqrt (w == 1) (.ofNat 5 d) (.ofNat 5 a))
      | [0, 0, 5, b, a, d, w] => some (208, .fmin (w == 1) (.ofNat 5 d) (.ofNat 5 a) (.ofNat 5 b))
      | [0, 0, 6, b, a, d, w] => some (208, .fmax (w == 1) (.ofNat 5 d) (.ofNat 5 a) (.ofNat 5 b))
      | [0, 0, 7, 0, a, d, w] => some (277, .fabs (w == 1) (.ofNat 5 d) (.ofNat 5 a))
      | [0, 0, 8, 0, a, d, w] => some (149, .fneg (w == 1) (.ofNat 5 d) (.ofNat 5 a))
      | [0, r, 9, 0, a, d, w] => some (210, .fcvtid (w == 1) (.ofNat 5 d) (.ofNat 5 a) (.ofNat 3 r))
      | [0, r, 10, 0, a, d, w] => some (210, .fcvtdi (w == 1) (.ofNat 5 d) (.ofNat 5 a) (.ofNat 3 r))
      | _ =>
        match unpack [2, 3, 4, 5, 5, 4, 1, 1] x with
        | [0, r, 11, b, a, p, 0, w] => some (270, .fcmp (w == 1) (.ofNat 4 p) (.ofNat 5 a) (.ofNat 5 b) (.ofNat 3 r))
        | _ => none
    | 17 =>
      match unpack [4, 5, 5, 5, 5, 1] x with
      | [0, c, b, a, d, w] => some (139, .ffmaD (w == 1) (.ofNat 5 d) (.ofNat 5 a) (.ofNat 5 b) (.ofNat 5 c))
      | _ => none
    | 24 =>
      match unpack [6, 5, 4, 4, 5, 1] x with
      | [i, a, c, h, g, w] => some (135, .ldB (w == 1) (.ofNat 5 g) (.ofNat 4 h) (.ofNat 4 c) (.ofNat 5 a) (.ofNat 6 i))
      | _ => none
    | 25 =>
      match unpack [6, 5, 4, 4, 5, 1] x with
      | [i, a, c, h, g, w] => some (199, .ldBu (w == 1) (.ofNat 5 g) (.ofNat 4 h) (.ofNat 4 c) (.ofNat 5 a) (.ofNat 6 i))
      | _ => none
    | 26 =>
      match unpack [6, 5, 4, 4, 5, 1] x with
      | [i, a, c, h, g, w] => some (199, .ldH (w == 1) (.ofNat 5 g) (.ofNat 4 h) (.ofNat 4 c) (.ofNat 5 a) (.ofNat 6 i))
      | _ => none
    | 27 =>
      match unpack [6, 5, 4, 4, 5, 1] x with
      | [i, a, c, h, g, w] => some (263, .ldHu (w == 1) (.ofNat 5 g) (.ofNat 4 h) (.ofNat 4 c) (.ofNat 5 a) (.ofNat 6 i))
      | _ => none
    | 28 =>
      match unpack [6, 5, 4, 4, 5, 1] x with
      | [i, a, c, h, g, w] => some (199, .ldW (w == 1) (.ofNat 5 g) (.ofNat 4 h) (.ofNat 4 c) (.ofNat 5 a) (.ofNat 6 i))
      | _ => none
    | 29 =>
      match unpack [6, 5, 4, 4, 5, 1] x with
      | [i, a, c, h, g, w] => some (263, .ldWu (w == 1) (.ofNat 5 g) (.ofNat 4 h) (.ofNat 4 c) (.ofNat 5 a) (.ofNat 6 i))
      | _ => none
    | 30 =>
      match unpack [6, 5, 4, 4, 5, 1] x with
      | [i, a, c, h, g, w] => some (263, .ldD (w == 1) (.ofNat 5 g) (.ofNat 4 h) (.ofNat 4 c) (.ofNat 5 a) (.ofNat 6 i))
      | _ => none
    | 32 =>
      match unpack [6, 5, 4, 4, 5, 1] x with
      | [i, a, c, h, g, w] => some (71, .stB (w == 1) (.ofNat 5 g) (.ofNat 4 h) (.ofNat 4 c) (.ofNat 5 a) (.ofNat 6 i))
      | _ => none
    | 33 =>
      match unpack [6, 5, 4, 4, 5, 1] x with
      | [i, a, c, h, g, w] => some (135, .stH (w == 1) (.ofNat 5 g) (.ofNat 4 h) (.ofNat 4 c) (.ofNat 5 a) (.ofNat 6 i))
      | _ => none
    | 34 =>
      match unpack [6, 5, 4, 4, 5, 1] x with
      | [i, a, c, h, g, w] => some (135, .stW (w == 1) (.ofNat 5 g) (.ofNat 4 h) (.ofNat 4 c) (.ofNat 5 a) (.ofNat 6 i))
      | _ => none
    | 35 =>
      match unpack [6, 5, 4, 4, 5, 1] x with
      | [i, a, c, h, g, w] => some (199, .stD (w == 1) (.ofNat 5 g) (.ofNat 4 h) (.ofNat 4 c) (.ofNat 5 a) (.ofNat 6 i))
      | _ => none
    | 37 =>
      match unpack [6, 5, 4, 4, 5, 1] x with
      | [i, a, c, h, g, w] => some (199, .stntD (w == 1) (.ofNat 5 g) (.ofNat 4 h) (.ofNat 4 c) (.ofNat 5 a) (.ofNat 6 i))
      | _ => none
    | 40 =>
      match unpack [2, 4, 4, 5, 4, 5, 1] x with
      | [s, 0, c, a, h, d, w] => some (139, .amoAdd (w == 1) (.ofNat 5 d) (.ofNat 4 h) (.ofNat 5 a) (.ofNat 4 c) (.ofNat 2 s))
      | [s, 1, c, a, h, d, w] => some (203, .amoAnd (w == 1) (.ofNat 5 d) (.ofNat 4 h) (.ofNat 5 a) (.ofNat 4 c) (.ofNat 2 s))
      | [s, 2, c, a, h, d, w] => some (203, .amoOr (w == 1) (.ofNat 5 d) (.ofNat 4 h) (.ofNat 5 a) (.ofNat 4 c) (.ofNat 2 s))
      | [s, 3, c, a, h, d, w] => some (267, .amoXor (w == 1) (.ofNat 5 d) (.ofNat 4 h) (.ofNat 5 a) (.ofNat 4 c) (.ofNat 2 s))
      | [s, 4, c, a, h, d, w] => some (203, .amoMin (w == 1) (.ofNat 5 d) (.ofNat 4 h) (.ofNat 5 a) (.ofNat 4 c) (.ofNat 2 s))
      | [s, 5, c, a, h, d, w] => some (267, .amoMax (w == 1) (.ofNat 5 d) (.ofNat 4 h) (.ofNat 5 a) (.ofNat 4 c) (.ofNat 2 s))
      | [s, 6, c, a, h, d, w] => some (267, .amoMinu (w == 1) (.ofNat 5 d) (.ofNat 4 h) (.ofNat 5 a) (.ofNat 4 c) (.ofNat 2 s))
      | [s, 7, c, a, h, d, w] => some (331, .amoMaxu (w == 1) (.ofNat 5 d) (.ofNat 4 h) (.ofNat 5 a) (.ofNat 4 c) (.ofNat 2 s))
      | [s, 8, c, a, h, d, w] => some (203, .amoSwap (w == 1) (.ofNat 5 d) (.ofNat 4 h) (.ofNat 5 a) (.ofNat 4 c) (.ofNat 2 s))
      | _ => none
    | 41 =>
      match unpack [2, 4, 4, 5, 4, 5, 1] x with
      | [s, 0, c, a, h, d, w] => some (203, .cas (w == 1) (.ofNat 5 d) (.ofNat 4 h) (.ofNat 5 a) (.ofNat 4 c) (.ofNat 2 s))
      | _ => none
    | 48 =>
      match unpack [10, 5, 4, 5, 1] x with
      | [0, a, h, d, w] => some (145, .xlat (w == 1) (.ofNat 5 d) (.ofNat 4 h) (.ofNat 5 a))
      | _ => none
    | 49 =>
      match unpack [15, 4, 5, 1] x with
      | [0, h, 0, w] => some (219, .hrev (w == 1) (.ofNat 4 h))
      | _ => none
    | 50 =>
      match unpack [15, 4, 5, 1] x with
      | [0, h, d, w] => some (214, .hinfo (w == 1) (.ofNat 5 d) (.ofNat 4 h))
      | _ => none
    | 52 =>
      match unpack [14, 5, 3, 2, 1] x with
      | [0, a, x, e, w] => some (213, .movx (w == 1) (.ofNat 2 e) (.ofNat 3 x) (.ofNat 5 a))
      | _ => none
    | 53 =>
      match unpack [7, 12, 5, 1] x with
      | [0, s, g, w] => some (270, .movsr (w == 1) (.ofNat 5 g) (.ofNat 12 s))
      | _ => none
    | 54 =>
      match unpack [7, 12, 5, 1] x with
      | [0, s, g, w] => some (270, .movrs (w == 1) (.ofNat 5 g) (.ofNat 12 s))
      | _ => none
    | 55 =>
      match unpack [10, 3, 6, 5, 1] x with
      | [0, n, t, g, w] => some (337, .titw (w == 1) (.ofNat 5 g) (.ofNat 6 t) (.ofNat 3 n))
      | _ => none
    | 56 =>
      match unpack [10, 3, 6, 5, 1] x with
      | [0, n, t, g, w] => some (209, .titr (w == 1) (.ofNat 5 g) (.ofNat 6 t) (.ofNat 3 n))
      | _ => none
    | 63 =>
      match unpack [25] x with
      | [i] => some (391, .ext (.ofNat 25 i))
      | _ => none
    | _ => none

/-- The V slot of engine `e` (R71, R72): what the 25 bits under the major opcode say. -/
def decodeV (e : BitVec 1) (x : Nat) : Option (Nat × Instr) :=
    match x / 2 ^ 25 with
    | 1 =>
      match unpack [3, 5, 8, 1, 3, 4, 1] x with
      | [0, b, 0, s, m, t, w] => some (82, .vsetm e (w == 1) (.ofNat 4 t) (.ofNat 3 m) (.ofNat 1 s) (.ofNat 5 b))
      | _ => none
    | 2 =>
      match unpack [8, 8, 8, 1] x with
      | [b, a, d, w] => some (71, .vadd e (w == 1) (.ofNat 8 d) (.ofNat 8 a) (.ofNat 8 b))
      | _ => none
    | 3 =>
      match unpack [8, 8, 8, 1] x with
      | [b, a, d, w] => some (135, .vsub e (w == 1) (.ofNat 8 d) (.ofNat 8 a) (.ofNat 8 b))
      | _ => none
    | 4 =>
      match unpack [8, 8, 8, 1] x with
      | [b, a, d, w] => some (71, .vmul e (w == 1) (.ofNat 8 d) (.ofNat 8 a) (.ofNat 8 b))
      | _ => none
    | 5 =>
      match unpack [8, 8, 8, 1] x with
      | [b, a, d, w] => some (135, .vfma e (w == 1) (.ofNat 8 d) (.ofNat 8 a) (.ofNat 8 b))
      | _ => none
    | 6 =>
      match unpack [8, 8, 8, 1] x with
      | [b, a, d, w] => some (135, .vfms e (w == 1) (.ofNat 8 d) (.ofNat 8 a) (.ofNat 8 b))
      | _ => none
    | 7 =>
      match unpack [8, 8, 8, 1] x with
      | [b, a, d, w] => some (199, .vnfma e (w == 1) (.ofNat 8 d) (.ofNat 8 a) (.ofNat 8 b))
      | _ => none
    | 8 =>
      match unpack [8, 8, 8, 1] x with
      | [b, a, d, w] => some (71, .vdiv e (w == 1) (.ofNat 8 d) (.ofNat 8 a) (.ofNat 8 b))
      | _ => none
    | 9 =>
      match unpack [8, 8, 8, 1] x with
      | [0, a, d, w] => some (143, .vsqrt e (w == 1) (.ofNat 8 d) (.ofNat 8 a))
      | _ => none
    | 10 =>
      match unpack [8, 8, 8, 1] x with
      | [0, a, d, w] => some (143, .vrcpe e (w == 1) (.ofNat 8 d) (.ofNat 8 a))
      | _ => none
    | 11 =>
      match unpack [8, 8, 8, 1] x with
      | [0, a, d, w] => some (207, .vrsqe e (w == 1) (.ofNat 8 d) (.ofNat 8 a))
      | _ => none
    | 12 =>
      match unpack [8, 8, 8, 1] x with
      | [0, a, d, w] => some (143, .vexp2e e (w == 1) (.ofNat 8 d) (.ofNat 8 a))
      | _ => none
    | 13 =>
      match unpack [8, 8, 8, 1] x with
      | [0, a, d, w] => some (207, .vlog2e e (w == 1) (.ofNat 8 d) (.ofNat 8 a))
      | _ => none
    | 14 =>
      match unpack [8, 8, 8, 1] x with
      | [b, a, d, w] => some (199, .vmin e (w == 1) (.ofNat 8 d) (.ofNat 8 a) (.ofNat 8 b))
      | _ => none
    | 15 =>
      match unpack [8, 8, 8, 1] x with
      | [b, a, d, w] => some (263, .vmax e (w == 1) (.ofNat 8 d) (.ofNat 8 a) (.ofNat 8 b))
      | _ => none
    | 16 =>
      match unpack [8, 8, 8, 1] x with
      | [0, a, d, w] => some (79, .vabs e (w == 1) (.ofNat 8 d) (.ofNat 8 a))
      | _ => none
    | 17 =>
      match unpack [8, 8, 8, 1] x with
      | [0, a, d, w] => some (143, .vneg e (w == 1) (.ofNat 8 d) (.ofNat 8 a))
      | _ => none
    | 18 =>
      match unpack [8, 8, 8, 1] x with
      | [b, a, d, w] => some (135, .vand e (w == 1) (.ofNat 8 d) (.ofNat 8 a) (.ofNat 8 b))
      | _ => none
    | 19 =>
      match unpack [8, 8, 8, 1] x with
      | [b, a, d, w] => some (199, .vor e (w == 1) (.ofNat 8 d) (.ofNat 8 a) (.ofNat 8 b))
      | _ => none
    | 20 =>
      match unpack [8, 8, 8, 1] x with
      | [b, a, d, w] => some (135, .vxor e (w == 1) (.ofNat 8 d) (.ofNat 8 a) (.ofNat 8 b))
      | _ => none
    | 21 =>
      match unpack [8, 8, 8, 1] x with
      | [b, a, d, w] => some (199, .vshl e (w == 1) (.ofNat 8 d) (.ofNat 8 a) (.ofNat 8 b))
      | _ => none
    | 22 =>
      match unpack [8, 8, 8, 1] x with
      | [b, a, d, w] => some (199, .vshr e (w == 1) (.ofNat 8 d) (.ofNat 8 a) (.ofNat 8 b))
      | _ => none
    | 23 =>
      match unpack [8, 8, 8, 1] x with
      | [b, a, d, w] => some (263, .vsar e (w == 1) (.ofNat 8 d) (.ofNat 8 a) (.ofNat 8 b))
      | _ => none
    | 24 =>
      match unpack [8, 8, 8, 1] x with
      | [b, a, d, w] => some (135, .vcmpeq e (w == 1) (.ofNat 8 d) (.ofNat 8 a) (.ofNat 8 b))
      | _ => none
    | 25 =>
      match unpack [8, 8, 8, 1] x with
      | [b, a, d, w] => some (199, .vcmplt e (w == 1) (.ofNat 8 d) (.ofNat 8 a) (.ofNat 8 b))
      | _ => none
    | 26 =>
      match unpack [8, 8, 8, 1] x with
      | [b, a, d, w] => some (199, .vcmple e (w == 1) (.ofNat 8 d) (.ofNat 8 a) (.ofNat 8 b))
      | _ => none
    | 27 =>
      match unpack [8, 8, 8, 1] x with
      | [b, a, d, w] => some (263, .vcmpne e (w == 1) (.ofNat 8 d) (.ofNat 8 a) (.ofNat 8 b))
      | _ => none
    | 28 =>
      match unpack [8, 8, 8, 1] x with
      | [b, a, d, w] => some (199, .vsel e (w == 1) (.ofNat 8 d) (.ofNat 8 a) (.ofNat 8 b))
      | _ => none
    | 29 =>
      match unpack [1, 3, 4, 8, 8, 1] x with
      | [s, m, t, a, d, w] => some (263, .vcvt e (w == 1) (.ofNat 8 d) (.ofNat 8 a) (.ofNat 4 t) (.ofNat 3 m) (.ofNat 1 s))
      | _ => none
    | 30 =>
      match unpack [3, 5, 8, 8, 1] x with
      | [0, b, a, d, w] => some (266, .vadds e (w == 1) (.ofNat 8 d) (.ofNat 8 a) (.ofNat 5 b))
      | _ => none
    | 31 =>
      match unpack [3, 5, 8, 8, 1] x with
      | [0, b, a, d, w] => some (330, .vmuls e (w == 1) (.ofNat 8 d) (.ofNat 8 a) (.ofNat 5 b))
      | _ => none
    | 32 =>
      match unpack [3, 5, 8, 8, 1] x with
      | [0, b, 0, d, w] => some (82, .vbcast e (w == 1) (.ofNat 8 d) (.ofNat 5 b))
      | _ => none
    | 33 =>
      match unpack [3, 5, 8, 8, 1] x with
      | [0, b, 0, d, w] => some (146, .viota e (w == 1) (.ofNat 8 d) (.ofNat 5 b))
      | _ => none
    | 34 =>
      match unpack [8, 8, 8, 1] x with
      | [b, a, d, w] => some (135, .vperm e (w == 1) (.ofNat 8 d) (.ofNat 8 a) (.ofNat 8 b))
      | _ => none
    | 35 =>
      match unpack [3, 5, 8, 8, 1] x with
      | [0, b, a, d, w] => some (202, .vslideUp e (w == 1) (.ofNat 8 d) (.ofNat 8 a) (.ofNat 5 b))
      | [1, b, a, d, w] => some (266, .vslideDn e (w == 1) (.ofNat 8 d) (.ofNat 8 a) (.ofNat 5 b))
      | _ => none
    | 36 =>
      match unpack [8, 8, 8, 1] x with
      | [0, a, d, w] => some (143, .vrsum e (w == 1) (.ofNat 8 d) (.ofNat 8 a))
      | _ => none
    | 37 =>
      match unpack [8, 8, 8, 1] x with
      | [0, a, d, w] => some (207, .vrmax e (w == 1) (.ofNat 8 d) (.ofNat 8 a))
      | _ => none
    | 38 =>
      match unpack [8, 8, 8, 1] x with
      | [0, a, d, w] => some (207, .vrmin e (w == 1) (.ofNat 8 d) (.ofNat 8 a))
      | _ => none
    | 39 =>
      match unpack [8, 8, 8, 1] x with
      | [0, a, d, w] => some (271, .vpart e (w == 1) (.ofNat 8 d) (.ofNat 8 a))
      | _ => none
    | 40 =>
      match unpack [3, 5, 8, 5, 3, 1] x with
      | [0, b, a, d, 0, w] => some (141, .vextr e (w == 1) (.ofNat 5 d) (.ofNat 8 a) (.ofNat 5 b))
      | _ => none
    | 48 =>
      match unpack [3, 5, 4, 4, 8, 1] x with
      | [0, a, c, h, d, w] => some (138, .vld e (w == 1) (.ofNat 8 d) (.ofNat 4 h) (.ofNat 4 c) (.ofNat 5 a))
      | _ => none
    | 49 =>
      match unpack [3, 5, 4, 4, 8, 1] x with
      | [0, a, c, h, d, w] => some (202, .vst e (w == 1) (.ofNat 8 d) (.ofNat 4 h) (.ofNat 4 c) (.ofNat 5 a))
      | _ => none
    | 50 =>
      match unpack [3, 5, 4, 4, 8, 1] x with
      | [0, a, c, h, d, w] => some (202, .vlds e (w == 1) (.ofNat 8 d) (.ofNat 4 h) (.ofNat 4 c) (.ofNat 5 a))
      | _ => none
    | 51 =>
      match unpack [3, 5, 4, 4, 8, 1] x with
      | [0, a, c, h, d, w] => some (266, .vsts e (w == 1) (.ofNat 8 d) (.ofNat 4 h) (.ofNat 4 c) (.ofNat 5 a))
      | _ => none
    | 52 =>
      match unpack [4, 4, 8, 8, 1] x with
      | [c, h, i, d, w] => some (199, .vgath e (w == 1) (.ofNat 8 d) (.ofNat 8 i) (.ofNat 4 h) (.ofNat 4 c))
      | _ => none
    | 53 =>
      match unpack [4, 4, 8, 8, 1] x with
      | [c, h, i, d, w] => some (263, .vscat e (w == 1) (.ofNat 8 d) (.ofNat 8 i) (.ofNat 4 h) (.ofNat 4 c))
      | _ => none
    | 54 =>
      match unpack [4, 4, 8, 8, 1] x with
      | [c, h, i, d, w] => some (263, .vscata e (w == 1) (.ofNat 8 d) (.ofNat 8 i) (.ofNat 4 h) (.ofNat 4 c))
      | _ => none
    | 55 =>
      match unpack [3, 5, 4, 4, 8, 1] x with
      | [0, a, c, h, d, w] => some (330, .vstnt e (w == 1) (.ofNat 8 d) (.ofNat 4 h) (.ofNat 4 c) (.ofNat 5 a))
      | _ => none
    | 56 =>
      match unpack [3, 5, 8, 8, 1] x with
      | [0, a, 0, d, w] => some (210, .vldp e (w == 1) (.ofNat 8 d) (.ofNat 5 a))
      | _ => none
    | 57 =>
      match unpack [3, 5, 8, 8, 1] x with
      | [0, a, 0, d, w] => some (274, .vstp e (w == 1) (.ofNat 8 d) (.ofNat 5 a))
      | _ => none
    | 58 =>
      match unpack [3, 5, 2, 6, 8, 1] x with
      | [0, a, 0, t, d, w] => some (268, .vldtRow e (w == 1) (.ofNat 8 d) (.ofNat 6 t) (.ofNat 5 a))
      | [1, a, 0, t, d, w] => some (332, .vldtCol e (w == 1) (.ofNat 8 d) (.ofNat 6 t) (.ofNat 5 a))
      | _ => none
    | 64 =>
      match unpack [4, 4, 8, 8, 1] x with
      | [0, h, a, d, w] => some (75, .hgld e (w == 1) (.ofNat 8 d) (.ofNat 8 a) (.ofNat 4 h))
      | _ => none
    | 65 =>
      match unpack [3, 1, 4, 8, 8, 1] x with
      | [t, o, h, a, d, w] => some (135, .hgscat e (w == 1) (.ofNat 8 d) (.ofNat 8 a) (.ofNat 4 h) (.ofNat 1 o) (.ofNat 3 t))
      | _ => none
    | _ => none

/-- The M slot (R73): what the 25 bits under the major opcode say. -/
def decodeM (x : Nat) : Option (Nat × Instr) :=
    match x / 2 ^ 25 with
    | 1 =>
      match unpack [19, 6] x with
      | [0, t] => some (90, .mlease (.ofNat 6 t))
      | _ => none
    | 2 =>
      match unpack [19, 6] x with
      | [0, t] => some (90, .mfree (.ofNat 6 t))
      | _ => none
    | 3 =>
      match unpack [1, 8, 6, 4, 6] x with
      | [v, 0, a, 0, t] => some (147, .mldw (.ofNat 6 t) (.ofNat 6 a) (.ofNat 1 v))
      | _ => none
    | 4 =>
      match unpack [1, 8, 6, 4, 6] x with
      | [v, 0, a, z, t] => some (79, .mmul (.ofNat 6 t) (.ofNat 4 z) (.ofNat 6 a) (.ofNat 1 v))
      | _ => none
    | 5 =>
      match unpack [1, 8, 6, 4, 6] x with
      | [v, 0, a, z, t] => some (143, .mmulb (.ofNat 6 t) (.ofNat 4 z) (.ofNat 6 a) (.ofNat 1 v))
      | _ => none
    | 6 =>
      match unpack [1, 2, 6, 6, 4, 6] x with
      | [v, 0, b, a, z, t] => some (137, .mrsa (.ofNat 6 t) (.ofNat 4 z) (.ofNat 6 a) (.ofNat 6 b) (.ofNat 1 v))
      | _ => none
    | 7 =>
      match unpack [1, 2, 6, 6, 4, 6] x with
      | [v, 0, b, a, z, t] => some (201, .mrsd (.ofNat 6 t) (.ofNat 4 z) (.ofNat 6 a) (.ofNat 6 b) (.ofNat 1 v))
      | _ => none
    | 8 =>
      match unpack [1, 2, 6, 6, 4, 6] x with
      | [c, m, 0, a, z, t] => some (77, .mdrn (.ofNat 6 t) (.ofNat 4 z) (.ofNat 6 a) (.ofNat 2 m) (.ofNat 1 c))
      | _ => none
    | 9 =>
      match unpack [1, 2, 6, 6, 4, 6] x with
      | [c, m, 0, a, z, t] => some (141, .mdrnr (.ofNat 6 t) (.ofNat 4 z) (.ofNat 6 a) (.ofNat 2 m) (.ofNat 1 c))
      | _ => none
    | 10 =>
      match unpack [15, 4, 6] x with
      | [0, z, t] => some (150, .mzero (.ofNat 6 t) (.ofNat 4 z))
      | _ => none
    | 11 =>
      match unpack [1, 2, 6, 6, 4, 6] x with
      | [c, 0, b, a, 0, t] => some (205, .fgemv (.ofNat 6 t) (.ofNat 6 a) (.ofNat 6 b) (.ofNat 1 c))
      | _ => none
    | _ => none

/-- The C slot of engine `e` (R74): what the 25 bits under the major opcode say. -/
def decodeC (e : BitVec 1) (x : Nat) : Option (Nat × Instr) :=
    match x / 2 ^ 25 with
    | 1 =>
      match unpack [2, 1, 2, 2, 6, 6, 6] x with
      | [0, f, 0, c, b, a, t] => some (75, .cpy e (.ofNat 6 t) (.ofNat 6 a) (.ofNat 6 b) (.ofNat 2 c) (.ofNat 1 f))
      | _ => none
    | 2 =>
      match unpack [2, 1, 2, 2, 6, 6, 6] x with
      | [0, f, 0, c, b, a, t] => some (75, .cpy2 e (.ofNat 6 t) (.ofNat 6 a) (.ofNat 6 b) (.ofNat 2 c) (.ofNat 1 f))
      | _ => none
    | 3 =>
      match unpack [2, 1, 2, 2, 6, 6, 6] x with
      | [0, f, k, c, b, a, t] => some (137, .ctile e (.ofNat 6 t) (.ofNat 6 a) (.ofNat 6 b) (.ofNat 2 c) (.ofNat 2 k) (.ofNat 1 f))
      | _ => none
    | 4 =>
      match unpack [2, 1, 2, 2, 6, 6, 6] x with
      | [0, f, k, c, b, a, t] => some (73, .cxpose e (.ofNat 6 t) (.ofNat 6 a) (.ofNat 6 b) (.ofNat 2 c) (.ofNat 2 k) (.ofNat 1 f))
      | _ => none
    | 5 =>
      match unpack [2, 1, 2, 2, 6, 6, 6] x with
      | [0, f, k, c, b, a, t] => some (137, .cconv e (.ofNat 6 t) (.ofNat 6 a) (.ofNat 6 b) (.ofNat 2 c) (.ofNat 2 k) (.ofNat 1 f))
      | _ => none
    | 6 =>
      match unpack [2, 1, 2, 2, 6, 6, 6] x with
      | [0, f, 0, c, 0, a, t] => some (145, .csend e (.ofNat 6 t) (.ofNat 6 a) (.ofNat 2 c) (.ofNat 1 f))
      | _ => none
    | 7 =>
      match unpack [2, 1, 2, 2, 6, 6, 6] x with
      | [0, f, k, c, b, 0, t] => some (207, .cfill e (.ofNat 6 t) (.ofNat 6 b) (.ofNat 2 c) (.ofNat 2 k) (.ofNat 1 f))
      | _ => none
    | 8 =>
      match unpack [2, 1, 2, 2, 6, 6, 6] x with
      | [0, f, k, c, b, a, t] => some (73, .cgath e (.ofNat 6 t) (.ofNat 6 a) (.ofNat 6 b) (.ofNat 2 c) (.ofNat 2 k) (.ofNat 1 f))
      | _ => none
    | 9 =>
      match unpack [5, 2, 6, 6, 6] x with
      | [0, c, 0, a, t] => some (146, .cpref e (.ofNat 6 t) (.ofNat 6 a) (.ofNat 2 c))
      | [1, c, 0, a, t] => some (210, .cprefL1 e (.ofNat 6 t) (.ofNat 6 a) (.ofNat 2 c))
      | _ => none
    | 10 =>
      match unpack [2, 1, 2, 2, 6, 6, 6] x with
      | [0, f, k, c, b, a, t] => some (137, .coptmSgdm e (.ofNat 6 t) (.ofNat 6 a) (.ofNat 6 b) (.ofNat 2 c) (.ofNat 2 k) (.ofNat 1 f))
      | [1, f, k, c, b, a, t] => some (201, .coptmAdam e (.ofNat 6 t) (.ofNat 6 a) (.ofNat 6 b) (.ofNat 2 c) (.ofNat 2 k) (.ofNat 1 f))
      | _ => none
    | 11 =>
      match unpack [2, 1, 2, 2, 6, 6, 6] x with
      | [0, f, 0, c, b, a, t] => some (203, .csparsePack e (.ofNat 6 t) (.ofNat 6 a) (.ofNat 6 b) (.ofNat 2 c) (.ofNat 1 f))
      | [1, f, 0, c, b, a, t] => some (267, .csparseUnpack e (.ofNat 6 t) (.ofNat 6 a) (.ofNat 6 b) (.ofNat 2 c) (.ofNat 1 f))
      | _ => none
    | 12 =>
      match unpack [2, 1, 2, 2, 12, 6] x with
      | [0, f, 0, c, 0, t] => some (151, .hgfold e (.ofNat 6 t) (.ofNat 2 c) (.ofNat 1 f))
      | [1, f, 0, c, 0, t] => some (215, .hgfoldAdd e (.ofNat 6 t) (.ofNat 2 c) (.ofNat 1 f))
      | _ => none
    | _ => none

/-- The Y slot (R75): what the 25 bits under the major opcode say. -/
def decodeY (x : Nat) : Option (Nat × Instr) :=
    match x / 2 ^ 25 with
    | 1 =>
      match unpack [9, 8, 5, 3] x with
      | [n, 0, f, 0] => some (82, .fwait (.ofNat 5 f) (.ofNat 9 n))
      | _ => none
    | 2 =>
      match unpack [9, 8, 5, 3] x with
      | [n, 0, f, 0] => some (82, .fpost (.ofNat 5 f) (.ofNat 9 n))
      | _ => none
    | 3 =>
      match unpack [9, 5, 3, 5, 3] x with
      | [n, g, 0, f, 0] => some (141, .fpostr (.ofNat 5 f) (.ofNat 5 g) (.ofNat 9 n))
      | _ => none
    | 4 =>
      match unpack [17, 5, 3] x with
      | [0, g, 0] => some (91, .twait (.ofNat 5 g))
      | _ => none
    | 5 =>
      match unpack [17, 5, 3] x with
      | [0, g, 0] => some (155, .twaita (.ofNat 5 g))
      | _ => none
    | 6 =>
      match unpack [17, 7, 1] x with
      | [0, b, 0] => some (153, .barv (.ofNat 7 b))
      | _ => none
    | 7 =>
      match unpack [17, 7, 1] x with
      | [0, b, 0] => some (217, .barw (.ofNat 7 b))
      | _ => none
    | 8 =>
      match unpack [17, 7, 1] x with
      | [0, b, 0] => some (89, .bars (.ofNat 7 b))
      | _ => none
    | 9 =>
      match unpack [9, 16] x with
      | [0, m] => some (144, .fence (.ofNat 16 m))
      | _ => none
    | 10 =>
      match unpack [17, 3, 5] x with
      | [0, s, 0] => some (157, .rel (.ofNat 3 s))
      | _ => none
    | 11 =>
      match unpack [17, 3, 5] x with
      | [0, s, 0] => some (221, .acq (.ofNat 3 s))
      | _ => none
    | 12 =>
      match unpack [25] x with
      | [0] => some (160, .drainnt)
      | _ => none
    | 13 =>
      match unpack [9, 5, 3, 4, 4] x with
      | [n, g, 0, h, 0] => some (206, .cwait (.ofNat 4 h) (.ofNat 5 g) (.ofNat 9 n))
      | _ => none
    | 14 =>
      match unpack [9, 5, 3, 4, 4] x with
      | [n, g, 0, h, 0] => some (206, .cinc (.ofNat 4 h) (.ofNat 5 g) (.ofNat 9 n))
      | _ => none
    | 15 =>
      match unpack [17, 5, 3] x with
      | [0, g, 0] => some (283, .rgo (.ofNat 5 g))
      | _ => none
    | 16 =>
      match unpack [9, 5, 3, 5, 3] x with
      | [0, b, 0, a, 0] => some (86, .wadd (.ofNat 5 a) (.ofNat 5 b))
      | _ => none
    | 17 =>
      match unpack [25] x with
      | [0] => some (160, .wclr)
      | _ => none
    | 18 =>
      match unpack [25] x with
      | [0] => some (160, .wresume)
      | _ => none
    | _ => none

/-- The word in slot `k` (R56, R58): the all-zero word is NOP in every slot. -/
def decodeRow (k : Nat) (x : Nat) : Option (Nat × Instr) :=
  if x = 0 then some (32, .nop)
  else match k with
    | 0 => decodeK x
    | 1 => decodeS x
    | 2 => decodeV 0 x
    | 3 => decodeV 1 x
    | 4 => decodeM x
    | 5 => decodeC 0 x
    | 6 => decodeC 1 x
    | 7 => decodeY x
    | _ => none

/-- The instruction of slot word `w` in slot `k`; none traps ILLEGAL (R58, R8). -/
def decodeSlot (k : Nat) (w : SlotWord) : Option Instr :=
  match decodeRow k w.toNat with
  | some (_, i) => if i.wellFormed then some i else none
  | none => none

/-- The slot of each slot instruction (R56); events have none. NOP may stand in any slot; it is counted to K. -/
def Instr.slot : Instr → Option Nat
  | .nop => some 0
  | .br _ => some 0
  | .brp _ _ => some 0
  | .brn _ _ => some 0
  | .call _ => some 0
  | .calli _ _ => some 0
  | .ret => some 0
  | .jmpi _ _ => some 0
  | .jtab _ _ _ => some 0
  | .loop _ _ _ => some 0
  | .loopi _ _ _ => some 0
  | .lpipe _ _ _ _ => some 0
  | .lbrk _ => some 0
  | .trap _ => some 0
  | .tret => some 0
  | .exit _ => some 0
  | .abort _ => some 0
  | .brk _ => some 0
  | .segb _ => some 0
  | .iwait => some 0
  | .iret => some 0
  | .syscall _ => some 0
  | .mret => some 0
  | .add _ _ _ _ => some 1
  | .sub _ _ _ _ => some 1
  | .and _ _ _ _ => some 1
  | .or _ _ _ _ => some 1
  | .xor _ _ _ _ => some 1
  | .andn _ _ _ _ => some 1
  | .shl _ _ _ _ => some 1
  | .shr _ _ _ _ => some 1
  | .sar _ _ _ _ => some 1
  | .rol _ _ _ _ => some 1
  | .mul _ _ _ _ => some 1
  | .mulh _ _ _ _ => some 1
  | .mulhu _ _ _ _ => some 1
  | .div _ _ _ _ => some 1
  | .divu _ _ _ _ => some 1
  | .rem _ _ _ _ => some 1
  | .remu _ _ _ _ => some 1
  | .min _ _ _ _ => some 1
  | .max _ _ _ _ => some 1
  | .minu _ _ _ _ => some 1
  | .maxu _ _ _ _ => some 1
  | .clz _ _ _ => some 1
  | .ctz _ _ _ => some 1
  | .popc _ _ _ => some 1
  | .sextb _ _ _ => some 1
  | .sexth _ _ _ => some 1
  | .sextw _ _ _ => some 1
  | .addi _ _ _ _ => some 1
  | .andi _ _ _ _ => some 1
  | .ori _ _ _ _ => some 1
  | .xori _ _ _ _ => some 1
  | .shli _ _ _ _ => some 1
  | .shri _ _ _ _ => some 1
  | .sari _ _ _ _ => some 1
  | .muli _ _ _ _ => some 1
  | .movi _ _ => some 1
  | .cmp _ _ _ _ _ => some 1
  | .cmpi _ _ _ _ _ => some 1
  | .pand _ _ _ => some 1
  | .por _ _ _ => some 1
  | .pxor _ _ _ => some 1
  | .pandn _ _ _ => some 1
  | .pnot _ _ => some 1
  | .sel _ _ _ _ _ => some 1
  | .fadd _ _ _ _ => some 1
  | .fsub _ _ _ _ => some 1
  | .fmul _ _ _ _ => some 1
  | .fdiv _ _ _ _ => some 1
  | .fsqrt _ _ _ => some 1
  | .fmin _ _ _ _ => some 1
  | .fmax _ _ _ _ => some 1
  | .fabs _ _ _ => some 1
  | .fneg _ _ _ => some 1
  | .fcvtid _ _ _ _ => some 1
  | .fcvtdi _ _ _ _ => some 1
  | .fcmp _ _ _ _ _ => some 1
  | .ffmaD _ _ _ _ _ => some 1
  | .ldB _ _ _ _ _ _ => some 1
  | .ldBu _ _ _ _ _ _ => some 1
  | .ldH _ _ _ _ _ _ => some 1
  | .ldHu _ _ _ _ _ _ => some 1
  | .ldW _ _ _ _ _ _ => some 1
  | .ldWu _ _ _ _ _ _ => some 1
  | .ldD _ _ _ _ _ _ => some 1
  | .stB _ _ _ _ _ _ => some 1
  | .stH _ _ _ _ _ _ => some 1
  | .stW _ _ _ _ _ _ => some 1
  | .stD _ _ _ _ _ _ => some 1
  | .stntD _ _ _ _ _ _ => some 1
  | .amoAdd _ _ _ _ _ _ => some 1
  | .amoAnd _ _ _ _ _ _ => some 1
  | .amoOr _ _ _ _ _ _ => some 1
  | .amoXor _ _ _ _ _ _ => some 1
  | .amoMin _ _ _ _ _ _ => some 1
  | .amoMax _ _ _ _ _ _ => some 1
  | .amoMinu _ _ _ _ _ _ => some 1
  | .amoMaxu _ _ _ _ _ _ => some 1
  | .amoSwap _ _ _ _ _ _ => some 1
  | .cas _ _ _ _ _ _ => some 1
  | .xlat _ _ _ _ => some 1
  | .hrev _ _ => some 1
  | .hinfo _ _ _ => some 1
  | .movx _ _ _ _ => some 1
  | .movsr _ _ _ => some 1
  | .movrs _ _ _ => some 1
  | .titw _ _ _ _ => some 1
  | .titr _ _ _ _ => some 1
  | .ext _ => some 1
  | .vsetm e _ _ _ _ _ => some (2 + e.toNat)
  | .vadd e _ _ _ _ => some (2 + e.toNat)
  | .vsub e _ _ _ _ => some (2 + e.toNat)
  | .vmul e _ _ _ _ => some (2 + e.toNat)
  | .vfma e _ _ _ _ => some (2 + e.toNat)
  | .vfms e _ _ _ _ => some (2 + e.toNat)
  | .vnfma e _ _ _ _ => some (2 + e.toNat)
  | .vdiv e _ _ _ _ => some (2 + e.toNat)
  | .vsqrt e _ _ _ => some (2 + e.toNat)
  | .vrcpe e _ _ _ => some (2 + e.toNat)
  | .vrsqe e _ _ _ => some (2 + e.toNat)
  | .vexp2e e _ _ _ => some (2 + e.toNat)
  | .vlog2e e _ _ _ => some (2 + e.toNat)
  | .vmin e _ _ _ _ => some (2 + e.toNat)
  | .vmax e _ _ _ _ => some (2 + e.toNat)
  | .vabs e _ _ _ => some (2 + e.toNat)
  | .vneg e _ _ _ => some (2 + e.toNat)
  | .vand e _ _ _ _ => some (2 + e.toNat)
  | .vor e _ _ _ _ => some (2 + e.toNat)
  | .vxor e _ _ _ _ => some (2 + e.toNat)
  | .vshl e _ _ _ _ => some (2 + e.toNat)
  | .vshr e _ _ _ _ => some (2 + e.toNat)
  | .vsar e _ _ _ _ => some (2 + e.toNat)
  | .vcmpeq e _ _ _ _ => some (2 + e.toNat)
  | .vcmplt e _ _ _ _ => some (2 + e.toNat)
  | .vcmple e _ _ _ _ => some (2 + e.toNat)
  | .vcmpne e _ _ _ _ => some (2 + e.toNat)
  | .vsel e _ _ _ _ => some (2 + e.toNat)
  | .vcvt e _ _ _ _ _ _ => some (2 + e.toNat)
  | .vadds e _ _ _ _ => some (2 + e.toNat)
  | .vmuls e _ _ _ _ => some (2 + e.toNat)
  | .vbcast e _ _ _ => some (2 + e.toNat)
  | .viota e _ _ _ => some (2 + e.toNat)
  | .vperm e _ _ _ _ => some (2 + e.toNat)
  | .vslideUp e _ _ _ _ => some (2 + e.toNat)
  | .vslideDn e _ _ _ _ => some (2 + e.toNat)
  | .vrsum e _ _ _ => some (2 + e.toNat)
  | .vrmax e _ _ _ => some (2 + e.toNat)
  | .vrmin e _ _ _ => some (2 + e.toNat)
  | .vpart e _ _ _ => some (2 + e.toNat)
  | .vextr e _ _ _ _ => some (2 + e.toNat)
  | .vld e _ _ _ _ _ => some (2 + e.toNat)
  | .vst e _ _ _ _ _ => some (2 + e.toNat)
  | .vlds e _ _ _ _ _ => some (2 + e.toNat)
  | .vsts e _ _ _ _ _ => some (2 + e.toNat)
  | .vgath e _ _ _ _ _ => some (2 + e.toNat)
  | .vscat e _ _ _ _ _ => some (2 + e.toNat)
  | .vscata e _ _ _ _ _ => some (2 + e.toNat)
  | .vstnt e _ _ _ _ _ => some (2 + e.toNat)
  | .vldp e _ _ _ => some (2 + e.toNat)
  | .vstp e _ _ _ => some (2 + e.toNat)
  | .vldtRow e _ _ _ _ => some (2 + e.toNat)
  | .vldtCol e _ _ _ _ => some (2 + e.toNat)
  | .hgld e _ _ _ _ => some (2 + e.toNat)
  | .hgscat e _ _ _ _ _ _ => some (2 + e.toNat)
  | .mlease _ => some 4
  | .mfree _ => some 4
  | .mldw _ _ _ => some 4
  | .mmul _ _ _ _ => some 4
  | .mmulb _ _ _ _ => some 4
  | .mrsa _ _ _ _ _ => some 4
  | .mrsd _ _ _ _ _ => some 4
  | .mdrn _ _ _ _ _ => some 4
  | .mdrnr _ _ _ _ _ => some 4
  | .mzero _ _ => some 4
  | .fgemv _ _ _ _ => some 4
  | .cpy e _ _ _ _ _ => some (5 + e.toNat)
  | .cpy2 e _ _ _ _ _ => some (5 + e.toNat)
  | .ctile e _ _ _ _ _ _ => some (5 + e.toNat)
  | .cxpose e _ _ _ _ _ _ => some (5 + e.toNat)
  | .cconv e _ _ _ _ _ _ => some (5 + e.toNat)
  | .csend e _ _ _ _ => some (5 + e.toNat)
  | .cfill e _ _ _ _ _ => some (5 + e.toNat)
  | .cgath e _ _ _ _ _ _ => some (5 + e.toNat)
  | .cpref e _ _ _ => some (5 + e.toNat)
  | .cprefL1 e _ _ _ => some (5 + e.toNat)
  | .coptmSgdm e _ _ _ _ _ _ => some (5 + e.toNat)
  | .coptmAdam e _ _ _ _ _ _ => some (5 + e.toNat)
  | .csparsePack e _ _ _ _ _ => some (5 + e.toNat)
  | .csparseUnpack e _ _ _ _ _ => some (5 + e.toNat)
  | .hgfold e _ _ _ => some (5 + e.toNat)
  | .hgfoldAdd e _ _ _ => some (5 + e.toNat)
  | .fwait _ _ => some 7
  | .fpost _ _ => some 7
  | .fpostr _ _ _ => some 7
  | .twait _ => some 7
  | .twaita _ => some 7
  | .barv _ => some 7
  | .barw _ => some 7
  | .bars _ => some 7
  | .fence _ => some 7
  | .rel _ => some 7
  | .acq _ => some 7
  | .drainnt => some 7
  | .cwait _ _ _ => some 7
  | .cinc _ _ _ => some 7
  | .rgo _ => some 7
  | .wadd _ _ => some 7
  | .wclr => some 7
  | .wresume => some 7
  | _ => none

/-- The fields of each slot instruction as its encoding lays them out, lowest first, the major opcode last. -/
def Instr.fields : Instr → List (Nat × Nat)
  | .nop => [(25, 0), (7, 0)]
  | .br d => [(20, d.toNat), (5, 0), (7, 1)]
  | .brp p d => [(20, d.toNat), (4, p.toNat), (1, 0), (7, 2)]
  | .brn p d => [(20, d.toNat), (4, p.toNat), (1, 1), (7, 2)]
  | .call d => [(20, d.toNat), (5, 0), (7, 3)]
  | .calli a i => [(15, i.toNat), (5, 0), (5, a.toNat), (7, 4)]
  | .ret => [(25, 0), (7, 5)]
  | .jmpi a i => [(15, i.toNat), (5, 0), (5, a.toNat), (7, 6)]
  | .jtab a h l => [(4, 0), (12, l.toNat), (4, h.toNat), (5, a.toNat), (7, 7)]
  | .loop l a e => [(12, e.toNat), (4, 0), (5, a.toNat), (3, 0), (1, l.toNat), (7, 8)]
  | .loopi l n e => [(12, e.toNat), (4, 0), (8, n.toNat), (1, l.toNat), (7, 9)]
  | .lpipe l a s e => [(12, e.toNat), (4, s.toNat), (5, a.toNat), (3, 0), (1, l.toNat), (7, 10)]
  | .lbrk l => [(24, 0), (1, l.toNat), (7, 11)]
  | .trap i => [(16, i.toNat), (9, 0), (7, 12)]
  | .tret => [(25, 0), (7, 13)]
  | .exit i => [(16, i.toNat), (9, 0), (7, 14)]
  | .abort i => [(16, i.toNat), (9, 0), (7, 15)]
  | .brk i => [(16, i.toNat), (9, 0), (7, 16)]
  | .segb s => [(16, s.toNat), (9, 0), (7, 17)]
  | .iwait => [(25, 0), (7, 18)]
  | .iret => [(25, 0), (7, 19)]
  | .syscall i => [(16, i.toNat), (9, 0), (7, 20)]
  | .mret => [(25, 0), (7, 21)]
  | .add w d a b => [(9, 0), (1, (if w then 1 else 0)), (5, b.toNat), (5, a.toNat), (5, d.toNat), (7, 1)]
  | .sub w d a b => [(9, 1), (1, (if w then 1 else 0)), (5, b.toNat), (5, a.toNat), (5, d.toNat), (7, 1)]
  | .and w d a b => [(9, 2), (1, (if w then 1 else 0)), (5, b.toNat), (5, a.toNat), (5, d.toNat), (7, 1)]
  | .or w d a b => [(9, 3), (1, (if w then 1 else 0)), (5, b.toNat), (5, a.toNat), (5, d.toNat), (7, 1)]
  | .xor w d a b => [(9, 4), (1, (if w then 1 else 0)), (5, b.toNat), (5, a.toNat), (5, d.toNat), (7, 1)]
  | .andn w d a b => [(9, 5), (1, (if w then 1 else 0)), (5, b.toNat), (5, a.toNat), (5, d.toNat), (7, 1)]
  | .shl w d a b => [(9, 6), (1, (if w then 1 else 0)), (5, b.toNat), (5, a.toNat), (5, d.toNat), (7, 1)]
  | .shr w d a b => [(9, 7), (1, (if w then 1 else 0)), (5, b.toNat), (5, a.toNat), (5, d.toNat), (7, 1)]
  | .sar w d a b => [(9, 8), (1, (if w then 1 else 0)), (5, b.toNat), (5, a.toNat), (5, d.toNat), (7, 1)]
  | .rol w d a b => [(9, 9), (1, (if w then 1 else 0)), (5, b.toNat), (5, a.toNat), (5, d.toNat), (7, 1)]
  | .mul w d a b => [(9, 10), (1, (if w then 1 else 0)), (5, b.toNat), (5, a.toNat), (5, d.toNat), (7, 1)]
  | .mulh w d a b => [(9, 11), (1, (if w then 1 else 0)), (5, b.toNat), (5, a.toNat), (5, d.toNat), (7, 1)]
  | .mulhu w d a b => [(9, 12), (1, (if w then 1 else 0)), (5, b.toNat), (5, a.toNat), (5, d.toNat), (7, 1)]
  | .div w d a b => [(9, 13), (1, (if w then 1 else 0)), (5, b.toNat), (5, a.toNat), (5, d.toNat), (7, 1)]
  | .divu w d a b => [(9, 14), (1, (if w then 1 else 0)), (5, b.toNat), (5, a.toNat), (5, d.toNat), (7, 1)]
  | .rem w d a b => [(9, 15), (1, (if w then 1 else 0)), (5, b.toNat), (5, a.toNat), (5, d.toNat), (7, 1)]
  | .remu w d a b => [(9, 16), (1, (if w then 1 else 0)), (5, b.toNat), (5, a.toNat), (5, d.toNat), (7, 1)]
  | .min w d a b => [(9, 17), (1, (if w then 1 else 0)), (5, b.toNat), (5, a.toNat), (5, d.toNat), (7, 1)]
  | .max w d a b => [(9, 18), (1, (if w then 1 else 0)), (5, b.toNat), (5, a.toNat), (5, d.toNat), (7, 1)]
  | .minu w d a b => [(9, 19), (1, (if w then 1 else 0)), (5, b.toNat), (5, a.toNat), (5, d.toNat), (7, 1)]
  | .maxu w d a b => [(9, 20), (1, (if w then 1 else 0)), (5, b.toNat), (5, a.toNat), (5, d.toNat), (7, 1)]
  | .clz w d a => [(9, 21), (1, (if w then 1 else 0)), (5, 0), (5, a.toNat), (5, d.toNat), (7, 1)]
  | .ctz w d a => [(9, 22), (1, (if w then 1 else 0)), (5, 0), (5, a.toNat), (5, d.toNat), (7, 1)]
  | .popc w d a => [(9, 23), (1, (if w then 1 else 0)), (5, 0), (5, a.toNat), (5, d.toNat), (7, 1)]
  | .sextb w d a => [(9, 24), (1, (if w then 1 else 0)), (5, 0), (5, a.toNat), (5, d.toNat), (7, 1)]
  | .sexth w d a => [(9, 25), (1, (if w then 1 else 0)), (5, 0), (5, a.toNat), (5, d.toNat), (7, 1)]
  | .sextw w d a => [(9, 26), (1, (if w then 1 else 0)), (5, 0), (5, a.toNat), (5, d.toNat), (7, 1)]
  | .addi w d a i => [(14, i.toNat), (5, a.toNat), (5, d.toNat), (1, (if w then 1 else 0)), (7, 2)]
  | .andi w d a i => [(14, i.toNat), (5, a.toNat), (5, d.toNat), (1, (if w then 1 else 0)), (7, 3)]
  | .ori w d a i => [(14, i.toNat), (5, a.toNat), (5, d.toNat), (1, (if w then 1 else 0)), (7, 4)]
  | .xori w d a i => [(14, i.toNat), (5, a.toNat), (5, d.toNat), (1, (if w then 1 else 0)), (7, 5)]
  | .shli w d a i => [(6, i.toNat), (8, 0), (5, a.toNat), (5, d.toNat), (1, (if w then 1 else 0)), (7, 6)]
  | .shri w d a i => [(6, i.toNat), (8, 0), (5, a.toNat), (5, d.toNat), (1, (if w then 1 else 0)), (7, 7)]
  | .sari w d a i => [(6, i.toNat), (8, 0), (5, a.toNat), (5, d.toNat), (1, (if w then 1 else 0)), (7, 8)]
  | .muli w d a i => [(14, i.toNat), (5, a.toNat), (5, d.toNat), (1, (if w then 1 else 0)), (7, 9)]
  | .movi d i => [(20, i.toNat), (5, d.toNat), (7, 10)]
  | .cmp w p a b c => [(7, 0), (3, c.toNat), (5, b.toNat), (5, a.toNat), (4, p.toNat), (1, (if w then 1 else 0)), (7, 12)]
  | .cmpi w p a c i => [(12, i.toNat), (3, c.toNat), (5, a.toNat), (4, p.toNat), (1, (if w then 1 else 0)), (7, 13)]
  | .pand d a b => [(13, 0), (4, b.toNat), (4, a.toNat), (4, d.toNat), (7, 14)]
  | .por d a b => [(13, 1024), (4, b.toNat), (4, a.toNat), (4, d.toNat), (7, 14)]
  | .pxor d a b => [(13, 2048), (4, b.toNat), (4, a.toNat), (4, d.toNat), (7, 14)]
  | .pandn d a b => [(13, 3072), (4, b.toNat), (4, a.toNat), (4, d.toNat), (7, 14)]
  | .pnot d a => [(13, 4096), (4, 0), (4, a.toNat), (4, d.toNat), (7, 14)]
  | .sel w d a b p => [(5, 0), (4, p.toNat), (5, b.toNat), (5, a.toNat), (5, d.toNat), (1, (if w then 1 else 0)), (7, 15)]
  | .fadd w d a b => [(2, 0), (3, 0), (4, 0), (5, b.toNat), (5, a.toNat), (5, d.toNat), (1, (if w then 1 else 0)), (7, 16)]
  | .fsub w d a b => [(2, 0), (3, 0), (4, 1), (5, b.toNat), (5, a.toNat), (5, d.toNat), (1, (if w then 1 else 0)), (7, 16)]
  | .fmul w d a b => [(2, 0), (3, 0), (4, 2), (5, b.toNat), (5, a.toNat), (5, d.toNat), (1, (if w then 1 else 0)), (7, 16)]
  | .fdiv w d a b => [(2, 0), (3, 0), (4, 3), (5, b.toNat), (5, a.toNat), (5, d.toNat), (1, (if w then 1 else 0)), (7, 16)]
  | .fsqrt w d a => [(2, 0), (3, 0), (4, 4), (5, 0), (5, a.toNat), (5, d.toNat), (1, (if w then 1 else 0)), (7, 16)]
  | .fmin w d a b => [(2, 0), (3, 0), (4, 5), (5, b.toNat), (5, a.toNat), (5, d.toNat), (1, (if w then 1 else 0)), (7, 16)]
  | .fmax w d a b => [(2, 0), (3, 0), (4, 6), (5, b.toNat), (5, a.toNat), (5, d.toNat), (1, (if w then 1 else 0)), (7, 16)]
  | .fabs w d a => [(2, 0), (3, 0), (4, 7), (5, 0), (5, a.toNat), (5, d.toNat), (1, (if w then 1 else 0)), (7, 16)]
  | .fneg w d a => [(2, 0), (3, 0), (4, 8), (5, 0), (5, a.toNat), (5, d.toNat), (1, (if w then 1 else 0)), (7, 16)]
  | .fcvtid w d a r => [(2, 0), (3, r.toNat), (4, 9), (5, 0), (5, a.toNat), (5, d.toNat), (1, (if w then 1 else 0)), (7, 16)]
  | .fcvtdi w d a r => [(2, 0), (3, r.toNat), (4, 10), (5, 0), (5, a.toNat), (5, d.toNat), (1, (if w then 1 else 0)), (7, 16)]
  | .fcmp w p a b r => [(2, 0), (3, r.toNat), (4, 11), (5, b.toNat), (5, a.toNat), (4, p.toNat), (1, 0), (1, (if w then 1 else 0)), (7, 16)]
  | .ffmaD w d a b c => [(4, 0), (5, c.toNat), (5, b.toNat), (5, a.toNat), (5, d.toNat), (1, (if w then 1 else 0)), (7, 17)]
  | .ldB w g h c a i => [(6, i.toNat), (5, a.toNat), (4, c.toNat), (4, h.toNat), (5, g.toNat), (1, (if w then 1 else 0)), (7, 24)]
  | .ldBu w g h c a i => [(6, i.toNat), (5, a.toNat), (4, c.toNat), (4, h.toNat), (5, g.toNat), (1, (if w then 1 else 0)), (7, 25)]
  | .ldH w g h c a i => [(6, i.toNat), (5, a.toNat), (4, c.toNat), (4, h.toNat), (5, g.toNat), (1, (if w then 1 else 0)), (7, 26)]
  | .ldHu w g h c a i => [(6, i.toNat), (5, a.toNat), (4, c.toNat), (4, h.toNat), (5, g.toNat), (1, (if w then 1 else 0)), (7, 27)]
  | .ldW w g h c a i => [(6, i.toNat), (5, a.toNat), (4, c.toNat), (4, h.toNat), (5, g.toNat), (1, (if w then 1 else 0)), (7, 28)]
  | .ldWu w g h c a i => [(6, i.toNat), (5, a.toNat), (4, c.toNat), (4, h.toNat), (5, g.toNat), (1, (if w then 1 else 0)), (7, 29)]
  | .ldD w g h c a i => [(6, i.toNat), (5, a.toNat), (4, c.toNat), (4, h.toNat), (5, g.toNat), (1, (if w then 1 else 0)), (7, 30)]
  | .stB w g h c a i => [(6, i.toNat), (5, a.toNat), (4, c.toNat), (4, h.toNat), (5, g.toNat), (1, (if w then 1 else 0)), (7, 32)]
  | .stH w g h c a i => [(6, i.toNat), (5, a.toNat), (4, c.toNat), (4, h.toNat), (5, g.toNat), (1, (if w then 1 else 0)), (7, 33)]
  | .stW w g h c a i => [(6, i.toNat), (5, a.toNat), (4, c.toNat), (4, h.toNat), (5, g.toNat), (1, (if w then 1 else 0)), (7, 34)]
  | .stD w g h c a i => [(6, i.toNat), (5, a.toNat), (4, c.toNat), (4, h.toNat), (5, g.toNat), (1, (if w then 1 else 0)), (7, 35)]
  | .stntD w g h c a i => [(6, i.toNat), (5, a.toNat), (4, c.toNat), (4, h.toNat), (5, g.toNat), (1, (if w then 1 else 0)), (7, 37)]
  | .amoAdd w d h a c s => [(2, s.toNat), (4, 0), (4, c.toNat), (5, a.toNat), (4, h.toNat), (5, d.toNat), (1, (if w then 1 else 0)), (7, 40)]
  | .amoAnd w d h a c s => [(2, s.toNat), (4, 1), (4, c.toNat), (5, a.toNat), (4, h.toNat), (5, d.toNat), (1, (if w then 1 else 0)), (7, 40)]
  | .amoOr w d h a c s => [(2, s.toNat), (4, 2), (4, c.toNat), (5, a.toNat), (4, h.toNat), (5, d.toNat), (1, (if w then 1 else 0)), (7, 40)]
  | .amoXor w d h a c s => [(2, s.toNat), (4, 3), (4, c.toNat), (5, a.toNat), (4, h.toNat), (5, d.toNat), (1, (if w then 1 else 0)), (7, 40)]
  | .amoMin w d h a c s => [(2, s.toNat), (4, 4), (4, c.toNat), (5, a.toNat), (4, h.toNat), (5, d.toNat), (1, (if w then 1 else 0)), (7, 40)]
  | .amoMax w d h a c s => [(2, s.toNat), (4, 5), (4, c.toNat), (5, a.toNat), (4, h.toNat), (5, d.toNat), (1, (if w then 1 else 0)), (7, 40)]
  | .amoMinu w d h a c s => [(2, s.toNat), (4, 6), (4, c.toNat), (5, a.toNat), (4, h.toNat), (5, d.toNat), (1, (if w then 1 else 0)), (7, 40)]
  | .amoMaxu w d h a c s => [(2, s.toNat), (4, 7), (4, c.toNat), (5, a.toNat), (4, h.toNat), (5, d.toNat), (1, (if w then 1 else 0)), (7, 40)]
  | .amoSwap w d h a c s => [(2, s.toNat), (4, 8), (4, c.toNat), (5, a.toNat), (4, h.toNat), (5, d.toNat), (1, (if w then 1 else 0)), (7, 40)]
  | .cas w d h a c s => [(2, s.toNat), (4, 0), (4, c.toNat), (5, a.toNat), (4, h.toNat), (5, d.toNat), (1, (if w then 1 else 0)), (7, 41)]
  | .xlat w d h a => [(10, 0), (5, a.toNat), (4, h.toNat), (5, d.toNat), (1, (if w then 1 else 0)), (7, 48)]
  | .hrev w h => [(15, 0), (4, h.toNat), (5, 0), (1, (if w then 1 else 0)), (7, 49)]
  | .hinfo w d h => [(15, 0), (4, h.toNat), (5, d.toNat), (1, (if w then 1 else 0)), (7, 50)]
  | .movx w e x a => [(14, 0), (5, a.toNat), (3, x.toNat), (2, e.toNat), (1, (if w then 1 else 0)), (7, 52)]
  | .movsr w g s => [(7, 0), (12, s.toNat), (5, g.toNat), (1, (if w then 1 else 0)), (7, 53)]
  | .movrs w g s => [(7, 0), (12, s.toNat), (5, g.toNat), (1, (if w then 1 else 0)), (7, 54)]
  | .titw w g t n => [(10, 0), (3, n.toNat), (6, t.toNat), (5, g.toNat), (1, (if w then 1 else 0)), (7, 55)]
  | .titr w g t n => [(10, 0), (3, n.toNat), (6, t.toNat), (5, g.toNat), (1, (if w then 1 else 0)), (7, 56)]
  | .ext i => [(25, i.toNat), (7, 63)]
  | .vsetm _ w t m s b => [(3, 0), (5, b.toNat), (8, 0), (1, s.toNat), (3, m.toNat), (4, t.toNat), (1, (if w then 1 else 0)), (7, 1)]
  | .vadd _ w d a b => [(8, b.toNat), (8, a.toNat), (8, d.toNat), (1, (if w then 1 else 0)), (7, 2)]
  | .vsub _ w d a b => [(8, b.toNat), (8, a.toNat), (8, d.toNat), (1, (if w then 1 else 0)), (7, 3)]
  | .vmul _ w d a b => [(8, b.toNat), (8, a.toNat), (8, d.toNat), (1, (if w then 1 else 0)), (7, 4)]
  | .vfma _ w d a b => [(8, b.toNat), (8, a.toNat), (8, d.toNat), (1, (if w then 1 else 0)), (7, 5)]
  | .vfms _ w d a b => [(8, b.toNat), (8, a.toNat), (8, d.toNat), (1, (if w then 1 else 0)), (7, 6)]
  | .vnfma _ w d a b => [(8, b.toNat), (8, a.toNat), (8, d.toNat), (1, (if w then 1 else 0)), (7, 7)]
  | .vdiv _ w d a b => [(8, b.toNat), (8, a.toNat), (8, d.toNat), (1, (if w then 1 else 0)), (7, 8)]
  | .vsqrt _ w d a => [(8, 0), (8, a.toNat), (8, d.toNat), (1, (if w then 1 else 0)), (7, 9)]
  | .vrcpe _ w d a => [(8, 0), (8, a.toNat), (8, d.toNat), (1, (if w then 1 else 0)), (7, 10)]
  | .vrsqe _ w d a => [(8, 0), (8, a.toNat), (8, d.toNat), (1, (if w then 1 else 0)), (7, 11)]
  | .vexp2e _ w d a => [(8, 0), (8, a.toNat), (8, d.toNat), (1, (if w then 1 else 0)), (7, 12)]
  | .vlog2e _ w d a => [(8, 0), (8, a.toNat), (8, d.toNat), (1, (if w then 1 else 0)), (7, 13)]
  | .vmin _ w d a b => [(8, b.toNat), (8, a.toNat), (8, d.toNat), (1, (if w then 1 else 0)), (7, 14)]
  | .vmax _ w d a b => [(8, b.toNat), (8, a.toNat), (8, d.toNat), (1, (if w then 1 else 0)), (7, 15)]
  | .vabs _ w d a => [(8, 0), (8, a.toNat), (8, d.toNat), (1, (if w then 1 else 0)), (7, 16)]
  | .vneg _ w d a => [(8, 0), (8, a.toNat), (8, d.toNat), (1, (if w then 1 else 0)), (7, 17)]
  | .vand _ w d a b => [(8, b.toNat), (8, a.toNat), (8, d.toNat), (1, (if w then 1 else 0)), (7, 18)]
  | .vor _ w d a b => [(8, b.toNat), (8, a.toNat), (8, d.toNat), (1, (if w then 1 else 0)), (7, 19)]
  | .vxor _ w d a b => [(8, b.toNat), (8, a.toNat), (8, d.toNat), (1, (if w then 1 else 0)), (7, 20)]
  | .vshl _ w d a b => [(8, b.toNat), (8, a.toNat), (8, d.toNat), (1, (if w then 1 else 0)), (7, 21)]
  | .vshr _ w d a b => [(8, b.toNat), (8, a.toNat), (8, d.toNat), (1, (if w then 1 else 0)), (7, 22)]
  | .vsar _ w d a b => [(8, b.toNat), (8, a.toNat), (8, d.toNat), (1, (if w then 1 else 0)), (7, 23)]
  | .vcmpeq _ w d a b => [(8, b.toNat), (8, a.toNat), (8, d.toNat), (1, (if w then 1 else 0)), (7, 24)]
  | .vcmplt _ w d a b => [(8, b.toNat), (8, a.toNat), (8, d.toNat), (1, (if w then 1 else 0)), (7, 25)]
  | .vcmple _ w d a b => [(8, b.toNat), (8, a.toNat), (8, d.toNat), (1, (if w then 1 else 0)), (7, 26)]
  | .vcmpne _ w d a b => [(8, b.toNat), (8, a.toNat), (8, d.toNat), (1, (if w then 1 else 0)), (7, 27)]
  | .vsel _ w d a b => [(8, b.toNat), (8, a.toNat), (8, d.toNat), (1, (if w then 1 else 0)), (7, 28)]
  | .vcvt _ w d a t m s => [(1, s.toNat), (3, m.toNat), (4, t.toNat), (8, a.toNat), (8, d.toNat), (1, (if w then 1 else 0)), (7, 29)]
  | .vadds _ w d a b => [(3, 0), (5, b.toNat), (8, a.toNat), (8, d.toNat), (1, (if w then 1 else 0)), (7, 30)]
  | .vmuls _ w d a b => [(3, 0), (5, b.toNat), (8, a.toNat), (8, d.toNat), (1, (if w then 1 else 0)), (7, 31)]
  | .vbcast _ w d b => [(3, 0), (5, b.toNat), (8, 0), (8, d.toNat), (1, (if w then 1 else 0)), (7, 32)]
  | .viota _ w d b => [(3, 0), (5, b.toNat), (8, 0), (8, d.toNat), (1, (if w then 1 else 0)), (7, 33)]
  | .vperm _ w d a b => [(8, b.toNat), (8, a.toNat), (8, d.toNat), (1, (if w then 1 else 0)), (7, 34)]
  | .vslideUp _ w d a b => [(3, 0), (5, b.toNat), (8, a.toNat), (8, d.toNat), (1, (if w then 1 else 0)), (7, 35)]
  | .vslideDn _ w d a b => [(3, 1), (5, b.toNat), (8, a.toNat), (8, d.toNat), (1, (if w then 1 else 0)), (7, 35)]
  | .vrsum _ w d a => [(8, 0), (8, a.toNat), (8, d.toNat), (1, (if w then 1 else 0)), (7, 36)]
  | .vrmax _ w d a => [(8, 0), (8, a.toNat), (8, d.toNat), (1, (if w then 1 else 0)), (7, 37)]
  | .vrmin _ w d a => [(8, 0), (8, a.toNat), (8, d.toNat), (1, (if w then 1 else 0)), (7, 38)]
  | .vpart _ w d a => [(8, 0), (8, a.toNat), (8, d.toNat), (1, (if w then 1 else 0)), (7, 39)]
  | .vextr _ w d a b => [(3, 0), (5, b.toNat), (8, a.toNat), (5, d.toNat), (3, 0), (1, (if w then 1 else 0)), (7, 40)]
  | .vld _ w d h c a => [(3, 0), (5, a.toNat), (4, c.toNat), (4, h.toNat), (8, d.toNat), (1, (if w then 1 else 0)), (7, 48)]
  | .vst _ w d h c a => [(3, 0), (5, a.toNat), (4, c.toNat), (4, h.toNat), (8, d.toNat), (1, (if w then 1 else 0)), (7, 49)]
  | .vlds _ w d h c a => [(3, 0), (5, a.toNat), (4, c.toNat), (4, h.toNat), (8, d.toNat), (1, (if w then 1 else 0)), (7, 50)]
  | .vsts _ w d h c a => [(3, 0), (5, a.toNat), (4, c.toNat), (4, h.toNat), (8, d.toNat), (1, (if w then 1 else 0)), (7, 51)]
  | .vgath _ w d i h c => [(4, c.toNat), (4, h.toNat), (8, i.toNat), (8, d.toNat), (1, (if w then 1 else 0)), (7, 52)]
  | .vscat _ w d i h c => [(4, c.toNat), (4, h.toNat), (8, i.toNat), (8, d.toNat), (1, (if w then 1 else 0)), (7, 53)]
  | .vscata _ w d i h c => [(4, c.toNat), (4, h.toNat), (8, i.toNat), (8, d.toNat), (1, (if w then 1 else 0)), (7, 54)]
  | .vstnt _ w d h c a => [(3, 0), (5, a.toNat), (4, c.toNat), (4, h.toNat), (8, d.toNat), (1, (if w then 1 else 0)), (7, 55)]
  | .vldp _ w d a => [(3, 0), (5, a.toNat), (8, 0), (8, d.toNat), (1, (if w then 1 else 0)), (7, 56)]
  | .vstp _ w d a => [(3, 0), (5, a.toNat), (8, 0), (8, d.toNat), (1, (if w then 1 else 0)), (7, 57)]
  | .vldtRow _ w d t a => [(3, 0), (5, a.toNat), (2, 0), (6, t.toNat), (8, d.toNat), (1, (if w then 1 else 0)), (7, 58)]
  | .vldtCol _ w d t a => [(3, 1), (5, a.toNat), (2, 0), (6, t.toNat), (8, d.toNat), (1, (if w then 1 else 0)), (7, 58)]
  | .hgld _ w d a h => [(4, 0), (4, h.toNat), (8, a.toNat), (8, d.toNat), (1, (if w then 1 else 0)), (7, 64)]
  | .hgscat _ w d a h o t => [(3, t.toNat), (1, o.toNat), (4, h.toNat), (8, a.toNat), (8, d.toNat), (1, (if w then 1 else 0)), (7, 65)]
  | .mlease t => [(19, 0), (6, t.toNat), (7, 1)]
  | .mfree t => [(19, 0), (6, t.toNat), (7, 2)]
  | .mldw t a v => [(1, v.toNat), (8, 0), (6, a.toNat), (4, 0), (6, t.toNat), (7, 3)]
  | .mmul t z a v => [(1, v.toNat), (8, 0), (6, a.toNat), (4, z.toNat), (6, t.toNat), (7, 4)]
  | .mmulb t z a v => [(1, v.toNat), (8, 0), (6, a.toNat), (4, z.toNat), (6, t.toNat), (7, 5)]
  | .mrsa t z a b v => [(1, v.toNat), (2, 0), (6, b.toNat), (6, a.toNat), (4, z.toNat), (6, t.toNat), (7, 6)]
  | .mrsd t z a b v => [(1, v.toNat), (2, 0), (6, b.toNat), (6, a.toNat), (4, z.toNat), (6, t.toNat), (7, 7)]
  | .mdrn t z a m c => [(1, c.toNat), (2, m.toNat), (6, 0), (6, a.toNat), (4, z.toNat), (6, t.toNat), (7, 8)]
  | .mdrnr t z a m c => [(1, c.toNat), (2, m.toNat), (6, 0), (6, a.toNat), (4, z.toNat), (6, t.toNat), (7, 9)]
  | .mzero t z => [(15, 0), (4, z.toNat), (6, t.toNat), (7, 10)]
  | .fgemv t a b c => [(1, c.toNat), (2, 0), (6, b.toNat), (6, a.toNat), (4, 0), (6, t.toNat), (7, 11)]
  | .cpy _ t a b c f => [(2, 0), (1, f.toNat), (2, 0), (2, c.toNat), (6, b.toNat), (6, a.toNat), (6, t.toNat), (7, 1)]
  | .cpy2 _ t a b c f => [(2, 0), (1, f.toNat), (2, 0), (2, c.toNat), (6, b.toNat), (6, a.toNat), (6, t.toNat), (7, 2)]
  | .ctile _ t a b c k f => [(2, 0), (1, f.toNat), (2, k.toNat), (2, c.toNat), (6, b.toNat), (6, a.toNat), (6, t.toNat), (7, 3)]
  | .cxpose _ t a b c k f => [(2, 0), (1, f.toNat), (2, k.toNat), (2, c.toNat), (6, b.toNat), (6, a.toNat), (6, t.toNat), (7, 4)]
  | .cconv _ t a b c k f => [(2, 0), (1, f.toNat), (2, k.toNat), (2, c.toNat), (6, b.toNat), (6, a.toNat), (6, t.toNat), (7, 5)]
  | .csend _ t a c f => [(2, 0), (1, f.toNat), (2, 0), (2, c.toNat), (6, 0), (6, a.toNat), (6, t.toNat), (7, 6)]
  | .cfill _ t b c k f => [(2, 0), (1, f.toNat), (2, k.toNat), (2, c.toNat), (6, b.toNat), (6, 0), (6, t.toNat), (7, 7)]
  | .cgath _ t a b c k f => [(2, 0), (1, f.toNat), (2, k.toNat), (2, c.toNat), (6, b.toNat), (6, a.toNat), (6, t.toNat), (7, 8)]
  | .cpref _ t a c => [(5, 0), (2, c.toNat), (6, 0), (6, a.toNat), (6, t.toNat), (7, 9)]
  | .cprefL1 _ t a c => [(5, 1), (2, c.toNat), (6, 0), (6, a.toNat), (6, t.toNat), (7, 9)]
  | .coptmSgdm _ t a b c k f => [(2, 0), (1, f.toNat), (2, k.toNat), (2, c.toNat), (6, b.toNat), (6, a.toNat), (6, t.toNat), (7, 10)]
  | .coptmAdam _ t a b c k f => [(2, 1), (1, f.toNat), (2, k.toNat), (2, c.toNat), (6, b.toNat), (6, a.toNat), (6, t.toNat), (7, 10)]
  | .csparsePack _ t a b c f => [(2, 0), (1, f.toNat), (2, 0), (2, c.toNat), (6, b.toNat), (6, a.toNat), (6, t.toNat), (7, 11)]
  | .csparseUnpack _ t a b c f => [(2, 1), (1, f.toNat), (2, 0), (2, c.toNat), (6, b.toNat), (6, a.toNat), (6, t.toNat), (7, 11)]
  | .hgfold _ t c f => [(2, 0), (1, f.toNat), (2, 0), (2, c.toNat), (12, 0), (6, t.toNat), (7, 12)]
  | .hgfoldAdd _ t c f => [(2, 1), (1, f.toNat), (2, 0), (2, c.toNat), (12, 0), (6, t.toNat), (7, 12)]
  | .fwait f n => [(9, n.toNat), (8, 0), (5, f.toNat), (3, 0), (7, 1)]
  | .fpost f n => [(9, n.toNat), (8, 0), (5, f.toNat), (3, 0), (7, 2)]
  | .fpostr f g n => [(9, n.toNat), (5, g.toNat), (3, 0), (5, f.toNat), (3, 0), (7, 3)]
  | .twait g => [(17, 0), (5, g.toNat), (3, 0), (7, 4)]
  | .twaita g => [(17, 0), (5, g.toNat), (3, 0), (7, 5)]
  | .barv b => [(17, 0), (7, b.toNat), (1, 0), (7, 6)]
  | .barw b => [(17, 0), (7, b.toNat), (1, 0), (7, 7)]
  | .bars b => [(17, 0), (7, b.toNat), (1, 0), (7, 8)]
  | .fence m => [(9, 0), (16, m.toNat), (7, 9)]
  | .rel s => [(17, 0), (3, s.toNat), (5, 0), (7, 10)]
  | .acq s => [(17, 0), (3, s.toNat), (5, 0), (7, 11)]
  | .drainnt => [(25, 0), (7, 12)]
  | .cwait h g n => [(9, n.toNat), (5, g.toNat), (3, 0), (4, h.toNat), (4, 0), (7, 13)]
  | .cinc h g n => [(9, n.toNat), (5, g.toNat), (3, 0), (4, h.toNat), (4, 0), (7, 14)]
  | .rgo g => [(17, 0), (5, g.toNat), (3, 0), (7, 15)]
  | .wadd a b => [(9, 0), (5, b.toNat), (3, 0), (5, a.toNat), (3, 0), (7, 16)]
  | .wclr => [(25, 0), (7, 17)]
  | .wresume => [(25, 0), (7, 18)]
  | _ => []

/-- The 32-bit word of a slot instruction (0 for an event, which has none). -/
def encode (i : Instr) : SlotWord := BitVec.ofNat 32 (pack i.fields)

/-- Of two readings of one word, the one of greater weight; the first where they weigh the same. -/
def moreFixed (a b : Option (Nat × Instr)) : Option (Nat × Instr) :=
  match a, b with
  | some (n, i), some (m, j) => if n < m then some (m, j) else some (n, i)
  | some x, none => some x
  | none, y => y

/-- One reading of a word in one slot, kept only when it is well-formed. -/
def reading (k : Nat) (x : Nat) : Option (Nat × Instr) :=
  match decodeRow k x with
  | some (n, i) => if i.wellFormed then some (n, i) else none
  | none => none

/-- A word of the table belongs to a slot that the number alone does not give: the six kinds of slot share the
opcodes. It is read in the slot where the fewest operand bits are set and then the most bits are fixed (log 13). -/
def tableReading (w : Nat) : Option (Nat × Instr) :=
  moreFixed (moreFixed (moreFixed (moreFixed (moreFixed (reading 0 w) (reading 1 w)) (reading 2 w)) (reading 4 w))
    (reading 5 w)) (reading 7 w)

/-- The instruction the decoder reads from a table row's word; events have no word. -/
def decodeTableWord (nbits w : Nat) : Option Instr :=
  if nbits ≤ 32 ∧ w < 2 ^ 32 then (tableReading w).map Prod.snd else none

end Sys2Proof
end

