-- ==== Sys2Proof/Machine/Tile.lean ====
section
/-! DEFINITION. Tiles: element formats, block scales, checksum vectors, headers, the comparison and its outcomes
(R39 to R50, R122, R233 to R244). All of it is arithmetic on lists; where a tile stands is another file's matter. -/

namespace Sys2Proof.Machine

/-! ### Element formats of a TIT entry (R122) -/

/-- Bits of an element of FMT `f`: 0 to 9 as VMODE.TYPE, 10 K4, 11 and 12 MXFP8, 13 MXFP4. -/
def fmtBits (f : Nat) : Nat := if f = 10 ∨ f = 13 then 4 else if 10 < f then 8 else 8 * typeBytes f

/-- A format with block scales. -/
def fmtBlock (f : Nat) : Bool := decide (10 ≤ f)
/-- An integer format. -/
def fmtInt (f : Nat) : Bool := decide (f < 4)
/-- The floating format of an element; none for integers and K4. -/
def fmtElem (f : Nat) : Option Fmt :=
  if f = 11 then some e4m3 else if f = 12 then some e5m2 else if f = 13 then some e2m1 else typeFmt f

/-- Data bytes of a tile (R233). -/
def fmtData (f : Nat) : Nat := 512 * fmtBits f
/-- 64-byte lines of data of a row (R146); for a 4-bit format a row is half a line. -/
def fmtLines (f : Nat) : Nat := fmtBits f / 8
/-- Bytes of a row. -/
def fmtRow (f : Nat) : Nat := 8 * fmtBits f
/-- Vector bytes of a checked tile (R49, R233). -/
def fmtVec (f : Nat) : Nat := if f = 2 ∨ f = 3 ∨ f = 6 ∨ f = 7 then 2048 else 1024
/-- Bytes of a tile (R233). -/
def tileSize (f : Nat) (chk : Bool) : Nat := if chk then fmtData f + fmtVec f + 64 else fmtData f
/-- Bytes of a vector entry. -/
def fmtEntry (f : Nat) : Nat := fmtVec f / 256
/-- The floating checksum format; none where sums are integers (R49). -/
def fmtSum (f : Nat) : Option Fmt := if f < 4 then none else if f = 6 ∨ f = 7 then some fp64 else some fp32

/-- Lists cut into pieces of n. -/
def chunks {α : Type} (n : Nat) : Nat → List α → List (List α)
  | 0, _ => []
  | k + 1, l => l.take n :: chunks n k (l.drop n)

/-- Element codes in bytes (R123): two 4-bit codes share a byte, the even one in its low half (log 16). -/
def packCodes (f : Nat) (cs : List Nat) : List Byte :=
  if fmtBits f = 4 then (chunks 2 (cs.length / 2) cs).map fun p => BitVec.ofNat 8 (p.getD 0 0 % 16 + 16 * (p.getD 1 0 % 16))
  else cs.flatMap (leBytes (fmtBits f / 8))

/-- The codes of bytes. -/
def unpackCodes (f : Nat) (bs : List Byte) : List Nat :=
  if fmtBits f = 4 then bs.flatMap fun b => [b.toNat % 16, b.toNat / 16]
  else (chunks (fmtBits f / 8) (bs.length / (fmtBits f / 8)) bs).map leNat

/-- The rows of 64 of a tile's list. -/
def rowsOf {α : Type} (l : List α) : List (List α) := chunks 64 64 l

/-- The columns of a tile's list. -/
def colsOf {α : Type} (l : List α) : List (List α) :=
  (rowsOf l).foldr (fun r cs => r.zipWith (fun x c => x :: c) cs) (List.replicate 64 [])

/-- The transpose of a tile's list. -/
def transposed {α : Type} (l : List α) : List α := (colsOf l).flatten

/-! ### Block scales (R43) -/

/-- Log2 of a block's height, and the order of scale bytes, from an address-generator set. -/
def agLh (ag : Nat) : Nat := ag % 8
def agSord (ag : Nat) : Nat := bits ag 6 2

/-- Which of a tile's 128 blocks holds element (r, c) as stored, as the index of its scale byte (R43). -/
def scaleIndex (ag r c : Nat) : Nat :=
  let h := 2 ^ agLh ag
  let w := 32 / h
  if agSord ag = 0 then r / h * (64 / w) + c / w else c / w * (64 / h) + r / h

/-- The element indices 64·r + c of block `k`, in ascending order. -/
def blockElems (ag k : Nat) : List Nat :=
  (List.range 4096).filter fun x => scaleIndex ag (x / 64) (x % 64) == k

/-- The scale byte of element (r, c). -/
def scaleOf (ag : Nat) (scales : List Nat) (x : Nat) : Nat := scales.getD (scaleIndex ag (x / 64) (x % 64)) 0

/-- The exact value of an element code, scale included (R26, R31, R39, R41). -/
def elemNum (f sc code : Nat) : Num :=
  if f = 10 then k4Decode sc code
  else match fmtElem f with
    | some g => if fmtBlock f then mxDecode g sc code else g.decode code
    | none => Num.ofInt (signedOf (fmtBits f) code)

/-- The exact values of a tile's codes. -/
def tileNums (f ag : Nat) (scales codes : List Nat) : List Num :=
  if fmtBlock f then codes.zipIdx.map fun p => elemNum f (scaleOf ag scales p.2) p.1
  else codes.map (elemNum f 0)

/-- Encode one value in a format without scales: the mode of a floating format, Sat where asked, R33 for an
integer. -/
def encodeElem (f : Nat) (md : RMode) (sat : Bool) (w : Nat) (x : Num) : Nat :=
  match typeFmt f with
  | some g => (x.convert g md sat w).1
  | none => wrapTo (fmtBits f) (x.toIntN (fmtBits f) md w).1

/-- Encode a tile's values in a block format: one scale per block (R40, R42), the words by element index. -/
def encodeBlocks (f ag k4t : Nat) (md : RMode) (ws : List Nat) (xs : List Num) : List Nat × List Nat :=
  let blocks := (List.range 128).map fun k =>
    let ix := blockElems ag k
    let v := ix.map fun x => xs.getD x (.fin false 0 0)
    let w := ix.map fun x => ws.getD x 0
    if f = 10 then
      let sc := k4Scale k4t v
      let cs := if sc = 63 ∨ (blockMax v).isZero then v.map (fun _ => 0)
        else (v.zip w).map fun p => (k4Code md k4t sc p.2 p.1).1
      (ix, 64 * k4t + sc, cs)
    else
      let g := (fmtElem f).getD e4m3
      let sc := mxScale g v
      (ix, sc, mxCodes g md sc w v)
  let codes := blocks.foldl (fun (t : Sparse Nat) b => (b.1.zip b.2.2).foldl (fun t p => Sparse.set 0 t p.1 p.2) t) []
  (Sparse.read 0 codes 0 4096, blocks.map fun b => b.2.1)

/-- Encode a tile's values: codes and scale bytes. -/
def encodeTile (f ag k4t : Nat) (md : RMode) (sat : Bool) (ws : List Nat) (xs : List Num) : List Nat × List Nat :=
  if fmtBlock f then encodeBlocks f ag k4t md ws xs
  else (xs.zipIdx.map fun p => encodeElem f md sat (ws.getD p.2 0) p.1, [])

/-! ### Sums (R49, R243) -/

/-- A sum in a floating format, each addition rounded by RNE, in ascending order. -/
def sumIn (g : Fmt) (xs : List Num) : Nat := xs.foldl (fun a x => (((g.decode a).add x).1.rne g).1) 0

/-- The integer that an exact integral value is. -/
def Num.int : Num → Int
  | .fin neg m e => signedAt neg m e 0
  | _ => 0

/-- A sum modulo 2^n. -/
def sumMod (n : Nat) (xs : List Num) : Nat := wrapTo n (xs.foldl (fun a x => a + x.int) 0)

/-- A sum in the checksum format of FMT `f`. -/
def sumAs (f : Nat) (xs : List Num) : Nat :=
  match fmtSum f with
  | some g => sumIn g xs
  | none => sumMod (8 * fmtEntry f) xs

/-- The 256 vector entries of a tile: column sums, row sums, column magnitudes, row magnitudes (R233, R243). -/
def vectorsOf (f : Nat) (xs : List Num) : List Nat :=
  let c := colsOf xs
  let r := rowsOf xs
  c.map (sumAs f) ++ r.map (sumAs f) ++ c.map (fun l => sumAs f (l.map Num.abs)) ++
    r.map (fun l => sumAs f (l.map Num.abs))

/-- The value of a vector entry. -/
def entryNum (f code : Nat) : Num :=
  match fmtSum f with
  | some g => g.decode code
  | none => .fin false code 0

/-- TOTAL: the sum of the row sums in the checksum format (R234). -/
def totalOf (f : Nat) (vec : List Nat) : Nat := sumAs f (((vec.drop 64).take 64).map (entryNum f))

/-! ### Headers (R234) -/

/-- The header of a checked tile. -/
structure Header where
  total : Nat
  /-- View tile row and column at which the writer wrote it. -/
  row : Nat
  col : Nat
  fmt : Nat
  corr : Bool
  nf : Bool
  nadd : Nat
  gen : Nat
  deriving DecidableEq, Repr

/-- The 64 bytes of a header. -/
def Header.bytes (h : Header) : List Byte :=
  leBytes 8 h.total ++ leBytes 4 (fld (h.row % 256) 8 + h.col % 256) ++ leBytes 1 h.fmt ++
    leBytes 1 (flg h.nf 1 + flg h.corr 0) ++ leBytes 2 h.nadd ++ leBytes 8 h.gen ++ List.replicate 40 0

/-- The header that 64 bytes hold. -/
def Header.ofBytes (b : List Byte) : Header where
  total := leNat (b.take 8)
  col := leNat ((b.drop 8).take 1)
  row := leNat ((b.drop 9).take 1)
  fmt := leNat ((b.drop 12).take 1)
  corr := bit (leNat ((b.drop 13).take 1)) 0
  nf := bit (leNat ((b.drop 13).take 1)) 1
  nadd := leNat ((b.drop 14).take 2)
  gen := leNat ((b.drop 16).take 8)

/-- A reserved header byte, or bit, that is not 0 (R234, R237). -/
def headerDirty (b : List Byte) : Bool :=
  (b.drop 24).any (· != 0)

/-- The vector bytes of 256 entries. -/
def vecBytes (f : Nat) (vec : List Nat) : List Byte := vec.flatMap (leBytes (fmtEntry f))

/-- The entries of vector bytes. -/
def vecOf (f : Nat) (b : List Byte) : List Nat := (chunks (fmtEntry f) 256 b).map leNat

/-- Vectors and header of a tile written with regenerated sums (R243). -/
def regenerated (f : Nat) (xs : List Num) (h : Header) : List Byte :=
  let v := vectorsOf f xs
  vecBytes f v ++ ({ h with total := totalOf f v, fmt := f } : Header).bytes

/-! ### The comparison (R50, R237 to R239) -/

/-- 2^e. -/
def pow2 (e : Int) : Num := .fin false 1 e

/-- The tolerance scale s of TOL: a 4-bit two's complement field. -/
def tolOf (x : Nat) : Int := signedOf 4 x

/-- How a comparison judges: integer sums modulo 2^n, or the format of the carried sums with τ and σ. -/
structure Judge where
  int : Option Nat
  cf : Fmt
  tau : Num
  sigma : Num
  deriving DecidableEq, Repr

/-- An FP64 rounding of an exact value. -/
def in64 (x : Num) : Num := fp64.decode (x.rne fp64).1

/-- The judge of a stored comparison (R237). -/
def storedJudge (f tol : Nat) : Judge :=
  match fmtSum f with
  | none => ⟨some (8 * fmtEntry f), fp64, pow2 0, pow2 0⟩
  | some g =>
      if g = fp64 then ⟨none, fp64, pow2 (7 - 53 + tolOf tol), pow2 (-1022)⟩
      else ⟨none, fp32, pow2 (7 - 24 + tolOf tol), pow2 (-126)⟩

/-- The judge of a drain comparison with K indices (R50): for INT32, FP32 or FP64 accumulators 0, 1, 2. -/
def drainJudge (acc k tol : Nat) : Judge :=
  if acc = 0 then ⟨some 32, fp64, pow2 0, pow2 0⟩
  else if acc = 1 then ⟨none, fp64, .fin false (k + 128) (-24 + tolOf tol), pow2 (-126)⟩
  else ⟨none, fp64, .fin false (k + 128) (-53 + tolOf tol), pow2 (-1022)⟩

/-- S of a line: its elements in order, each addition rounded to FP64, or modulo 2^n. -/
def Judge.sum (j : Judge) (xs : List Num) : Nat :=
  match j.int with
  | some n => sumMod n xs
  | none => sumIn fp64 xs

/-- θ = τ·M + σ in FP64; 0 for integers. -/
def Judge.theta (j : Judge) (m : Nat) : Num :=
  match j.int with
  | some _ => .fin false 0 0
  | none => in64 ((in64 (j.tau.mul (j.cf.decode m)).1).add j.sigma).1

/-- C − S, exactly (log 17). -/
def Judge.diff (j : Judge) (s c : Nat) : Num :=
  match j.int with
  | some n => Num.ofInt (signedOf n (wrapTo n ((c : Int) - s)))
  | none => ((j.cf.decode c).sub (fp64.decode s)).1

/-- A row or column that an infinite or NaN sum exempts (R50). -/
def Judge.exempt (j : Judge) (s c m : Nat) : Bool :=
  match j.int with
  | some _ => false
  | none => !(fp64.decode s).isFin || !(j.cf.decode c).isFin || !(j.cf.decode m).isFin

/-- A mismatch (R50, R237). -/
def Judge.off (j : Judge) (s c m : Nat) : Bool :=
  match j.int with
  | some n => s % 2 ^ n != c % 2 ^ n
  | none => !j.exempt s c m && (in64 (j.diff s c)).abs.cmp (j.theta m) == .gt

/-- The outcome of a comparison (R238): `bad` with the lowest mismatching row and column, and whether it names one
element (R241). -/
inductive Outcome where
  | pass
  | correct (i j : Nat) (d : Num)
  | regenRow (i : Nat)
  | regenCol (j : Nat)
  | bad (i j : Nat) (named : Bool)
  deriving DecidableEq, Repr

/-- The lowest mismatching row and column, 0 where none mismatches (R248). -/
def Outcome.at : Outcome → Nat × Nat
  | .pass => (0, 0)
  | .correct i j _ => (i, j)
  | .regenRow i => (i, 0)
  | .regenCol j => (0, j)
  | .bad i j _ => (i, j)

/-- One line of a comparison: its index, S, C and M. -/
structure Line3 where
  k : Nat
  s : Nat
  c : Nat
  m : Nat
  deriving DecidableEq, Repr

/-- The lines of a comparison: the computed sums of `ls` with the carried sums and magnitudes. -/
def Judge.lines (j : Judge) (ls : List (List Num)) (c m : List Nat) : List Line3 :=
  ((ls.zip (c.zip m)).zipIdx).map fun p => ⟨p.2, j.sum p.1.1, p.1.2.1, p.1.2.2⟩

/-- The comparison of a tile's values with 256 carried entries: the outcome of R238, and NF. -/
def Judge.compare (j : Judge) (xs : List Num) (vec : List Nat) : Outcome × Bool :=
  let cols := j.lines (colsOf xs) (vec.take 64) ((vec.drop 128).take 64)
  let rows := j.lines (rowsOf xs) ((vec.drop 64).take 64) ((vec.drop 192).take 64)
  let nf := (rows ++ cols).any fun l => j.exempt l.s l.c l.m
  let mr := rows.filter fun l => j.off l.s l.c l.m
  let mc := cols.filter fun l => j.off l.s l.c l.m
  let o := match mr, mc with
    | [], [] => Outcome.pass
    | [r], [c] =>
        let d := j.diff r.s r.c
        let e := j.diff c.s c.c
        let lim := ((j.theta r.m).add (j.theta c.m)).1
        if (d.sub e).1.abs.cmp lim != .gt then .correct r.k c.k d else .bad r.k c.k true
    | [r], [] => .regenRow r.k
    | [], [c] => .regenCol c.k
    | _, _ => .bad ((mr.map Line3.k).headD 0) ((mc.map Line3.k).headD 0) false
  (o, nf)

/-- Row i and column j match after a correction (R239). -/
def Judge.settled (jd : Judge) (xs : List Num) (vec : List Nat) (i j : Nat) : Bool :=
  let r := jd.sum ((rowsOf xs).getD i [])
  let c := jd.sum ((colsOf xs).getD j [])
  !jd.off r (vec.getD (64 + i) 0) (vec.getD (192 + i) 0) && !jd.off c (vec.getD j 0) (vec.getD (128 + j) 0)

/-- The corrected code of a stored element (R239): x + d rounded by RNE with SAT = 1, in a block format under the
block's scale. -/
def correctedCode (f sc : Nat) (x d : Num) : Nat :=
  let y := (x.add d).1
  if f = 10 then (k4Code .rne (sc / 64) (sc % 64) 0 y).1
  else match fmtElem f with
    | some g => if fmtBlock f then ((y.scale (127 - (sc : Int))).convert g .rne true 0).1 else (y.convert g .rne true 0).1
    | none =>
        if f = 2 then wrapTo 32 y.int else wrapTo (fmtBits f) (y.toIntN (fmtBits f) .rne 0).1

/-- What a stored comparison finds (R237, R238): 0 passed, 1 corrected, 2 regenerated, 3 TILE_CHECK; the row and
column it names, whether it names one element, and the tile as it is to be written. -/
structure Verified where
  kind : Nat
  i : Nat
  j : Nat
  named : Bool
  nf : Bool
  codes : List Nat
  vec : List Nat
  total : Nat
  deriving DecidableEq, Repr

/-- TOTAL agrees with the row sums (R237). Where the sum of the row sums or of the row magnitudes is infinite or NaN, the bound of
R237 is no number: the model takes TOTAL as agreeing (log 115). -/
def totalAgrees (f tol : Nat) (vec : List Nat) (total : Nat) : Bool :=
  let rs := ((vec.drop 64).take 64).map (entryNum f)
  match fmtSum f with
  | none => total % 2 ^ (8 * fmtEntry f) == sumMod (8 * fmtEntry f) rs
  | some g =>
      let j := storedJudge f tol
      let s := sumIn fp64 rs
      let m := sumIn fp64 (((vec.drop 192).take 64).map (entryNum f))
      let t := g.decode (total % 2 ^ (8 * fmtEntry f))
      let lim := in64 ((in64 (j.tau.mul (fp64.decode m)).1).add j.sigma).1
      if !(fp64.decode s).isFin || !(fp64.decode m).isFin then true
      else t.isFin && (in64 (t.sub (fp64.decode s)).1).abs.cmp lim != .gt

/-- The stored comparison of a tile (R237 to R239). -/
def verifyTile (f ag tol : Nat) (scales codes vec : List Nat) (total : Nat) (dirty : Bool) : Verified :=
  let xs := tileNums f ag scales codes
  let jd := storedJudge f tol
  let r := jd.compare xs vec
  let v : Verified := ⟨0, 0, 0, false, r.2, codes, vec, total⟩
  let done (v : Verified) : Verified :=
    if v.kind = 3 ∨ totalAgrees f tol v.vec v.total then v
    else if v.kind = 0 then { v with kind := 2, total := totalOf f v.vec }
    else { v with kind := 3, named := false }
  if dirty then { v with kind := 3, i := r.1.at.1, j := r.1.at.2 }
  else match r.1 with
    | .pass => done v
    | .correct i j d =>
        let x := 64 * i + j
        let sc := scaleOf ag scales x
        let codes := setAt codes x (correctedCode f sc (xs.getD x (.fin false 0 0)) d)
        if jd.settled (tileNums f ag scales codes) vec i j then
          done { v with kind := 1, i := i, j := j, named := true, codes := codes }
        else { v with kind := 3, i := i, j := j, named := true }
    | .regenRow i =>
        let l := (rowsOf xs).getD i []
        let w := setAt (setAt vec (64 + i) (sumAs f l)) (192 + i) (sumAs f (l.map Num.abs))
        done { v with kind := 2, i := i, vec := w }
    | .regenCol j =>
        let l := (colsOf xs).getD j []
        let w := setAt (setAt vec j (sumAs f l)) (128 + j) (sumAs f (l.map Num.abs))
        done { v with kind := 2, j := j, vec := w }
    | .bad i j n => { v with kind := 3, i := i, j := j, named := n }

/-- Equal within tolerance (R244): every entry of the second tile agrees with the first's under the first's
magnitudes. -/
def vectorsAgree (f tol : Nat) (a b : List Nat) : Bool :=
  let j := storedJudge f tol
  (List.range 256).all fun k =>
    let x := a.getD k 0
    let y := b.getD k 0
    let m := a.getD (128 + k % 128) 0
    match j.int with
    | some _ => x == y
    | none =>
        if !(j.cf.decode x).isFin || !(j.cf.decode y).isFin then x == y
        else (in64 ((j.cf.decode x).sub (j.cf.decode y)).1).abs.cmp (j.theta m) != .gt

/-! ### Where a tile's bytes stand (R146, R235) -/

/-- The offset from the tile's start of byte `o` of a tile in the layout of R233; under SWZ = 1 from bank b0, slot 0
of the tile's group, in units of the pool's 32768-byte banks. -/
def swizzled (f o : Nat) : Nat :=
  let d := fmtData f
  if o < d then
    let l := o / 64
    let x := if fmtBits f = 4 then l / 16 else fmtLines f * (o / fmtRow f) / 16
    32768 * (l % 16 ^^^ x % 16) + 64 * (l / 16) + o % 64
  else
    let q := o - d
    let l := q / 64
    let s1 := if fmtBits f = 4 then 2 else 4 * fmtLines f
    32768 * (l % 16) + 64 * (s1 + l / 16) + q % 64

end Sys2Proof.Machine
end

