-- ==== Sys2Proof/Machine/Control.lean ====
section
/-! DEFINITION. The K slot without memory: transfers, windows, loops, traps and returns (R79 to R102, R301, R385). -/

namespace Sys2Proof.Machine

/-! ### Loops (R88 to R93) -/

/-- Clear ACT of loop set `n`; PV returns to 0 with the pipelined loop (R92). -/
def Loops.stop (l : Loops) (n : Nat) : Loops :=
  { l.onSet n (fun x => { x with act := false }) with pv := l.pv && l.ps != n }

/-- Loop set `n` is the outer one of two active loops. -/
def Loops.outer (l : Loops) (n : Nat) : Bool := l.l0.act && l.l1.act && l.inner != n

/-- Clear a loop, and the inner loop when it is the outer one of two (R90, R91). -/
def Loops.leave (l : Loops) (n : Nat) : Loops := if l.outer n then (l.stop n).stop (1 - n) else l.stop n

/-- The address lies in the body of loop set `n`. -/
def LoopSet.holds (x : LoopSet) (a : Nat) : Bool := decide (x.beg ≤ a) && decide (a ≤ x.fin)

/-- A taken branch to `tgt` clears every active loop that it leaves (R90). -/
def Loops.branchTo (l : Loops) (tgt : Nat) : Loops :=
  let l := if l.l0.act && !l.l0.holds tgt then l.leave 0 else l
  if l.l1.act && !l.l1.holds tgt then l.leave 1 else l

/-- The rotation at the end of a kernel iteration (R93); LCNT[PS] is read before it is decremented. -/
def Loops.rotate (l : Loops) : Loops :=
  { l with
    sv := BitVec.ofNat 15 ((fld l.sv.toNat 1 + (if l.lstg < (l.set l.ps).cnt then 1 else 0)) % 2 ^ l.lstg)
    litr := l.litr + 1
    rrb := (l.rrb + 31) % 32 }

/-- Whether the bundle at `pc` ends loop set `n`. -/
def Loops.endsAt (l : Loops) (n pc : Nat) : Bool := (l.set n).act && (l.set n).fin == pc

/-- The end of loop set `n` at its end bundle: the loops after it, the next bundle, and whether the loop finished
(R89). -/
def Loops.endOne (l : Loops) (n pc : Nat) : Loops × Nat × Bool :=
  let l := if l.pv && l.ps == n then l.rotate else l
  if 1 < (l.set n).cnt then (l.onSet n fun x => { x with cnt := x.cnt - 1 }, (l.set n).beg, false)
  else ((l.onSet n fun x => { x with cnt := 0 }).stop n, pc + 1, true)

/-- The rule of R89 for the bundle at `pc`: the inner loop first, the outer one only if the inner one finishes. -/
def Loops.endBundle (l : Loops) (pc : Nat) : Loops × Nat :=
  let first := if l.l0.act && l.l1.act then l.inner else if l.l0.act then 0 else 1
  if l.endsAt first pc then
    let r := l.endOne first pc
    if r.2.2 && r.1.endsAt (1 - first) pc then
      let q := r.1.endOne (1 - first) pc
      (q.1, q.2.1)
    else (r.1, r.2.1)
  else if l.endsAt (1 - first) pc then
    let r := l.endOne (1 - first) pc
    (r.1, r.2.1)
  else (l, pc + 1)

/-- The loop rule for the bundle that has issued, and the address it yields; a kernel iteration that ended is noted
for a debug stop (R89, R380). -/
def State.loopEnd (s : State) : Nat × State :=
  let l := s.core.lp
  let r := l.endBundle s.core.seq.pc
  (r.2, (s.onLp fun _ => r.1).onDbg fun d => { d with iterEnd := l.pv && l.endsAt l.ps s.core.seq.pc })

/-! ### Transfers (R79, R80, R90) -/

/-- A loop that is active ends in one of the two delay bundles of a transfer at `pc` (R90). -/
def Loops.endsInDelay (l : Loops) (pc : Nat) : Bool :=
  let at_ (x : LoopSet) := x.act && (x.fin == pc + 1 || x.fin == pc + 2)
  at_ l.l0 || at_ l.l1

/-- ILLEGAL_DELAY of a transfer that leaves such a loop active: a decode cause, judged before what the transfer itself raises
(R90, R365, R366). -/
def State.unlessDelay {α : Type} (s : State) (l : Loops) (k : Act α) : Act α :=
  if l.endsInDelay s.core.seq.pc then .trap { cause := cIllegalDelay, stage := 0 } s else k

/-- A taken transfer; its own bundle counts as the first of three that issue before the target. A loop that stays
active and ends in a delay bundle traps ILLEGAL_DELAY (R90). -/
def State.transfer (s : State) (l : Loops) (tgt : Nat) (arr : Arrive) : Res :=
  s.unlessDelay l ((s.onLp fun _ => l).onSeq fun q => { q with xfer := some ⟨tgt, 3, arr⟩ }).ok

/-- A branch: loops that it leaves become inactive (R90). -/
def State.branch (s : State) (tgt : Nat) : Res := s.transfer (s.core.lp.branchTo tgt) tgt .none

/-- PC + disp, modulo 2^32 (R80; log 15). -/
def State.dispTarget (s : State) (d : BitVec 20) : Nat := (((s.core.seq.pc : Int) + d.toInt) % 2 ^ 32).toNat

/-- A register target that is negative or at least 2^32 traps PROT (R81, R83). The register is read as a signed number
(log 98). -/
def State.regTarget (s : State) (a : BitVec 5) (i : BitVec 15) (k : Nat → Res) : Res :=
  let t := (s.core.g a.toNat).toInt + i.toInt
  if t < 0 ∨ (2 ^ 32 : Int) ≤ t then s.raise cProt else k t.toNat

/-- BR (R80). -/
def execBr (d : BitVec 20) (s : State) : Host.Outcome State Fault Refusal := settle 0 (s.branch (s.dispTarget d))

/-- BRP (R80): taken when the predicate is true. -/
def execBrp (p : BitVec 4) (d : BitVec 20) (s : State) : Host.Outcome State Fault Refusal :=
  settle 0 (if s.pn p then s.branch (s.dispTarget d) else s.ok)

/-- BRN (R80): taken when the predicate is false. -/
def execBrn (p : BitVec 4) (d : BitVec 20) (s : State) : Host.Outcome State Fault Refusal :=
  settle 0 (if s.pn p then s.ok else s.branch (s.dispTarget d))

/-- JMPI (R81). -/
def execJmpi (a : BitVec 5) (i : BitVec 15) (s : State) : Host.Outcome State Fault Refusal :=
  settle 0 (s.ready true [a] fun s => s.regTarget a i fun t => s.branch t)

/-! ### Calls and windows (R82 to R85) -/

/-- WINDOW_OVF carries the depth (R373). -/
def windowTrap (depth : Nat) : TrapInfo := { cause := cWindow, info := depth, slot := false }

/-- A call from depth d traps when the slot it must spill does not fit, or at depth 65535 (R85). -/
def Core.callOverflows (c : Core) : Bool :=
  let d := c.sc.depth
  decide (13 ≤ d ∧ 32768 * c.st.b1 < 128 * (d - 13) + 128) || d == 65535

/-- The spill of slot n starts, or, with `fill`, its fill (R84). -/
def State.moveSlot (s : State) (fill : Bool) (n : Nat) : State :=
  s.onSeq fun q => { q with spill := some (fill, n, q.cyc + 8) }

/-- The call's own effect: the transfer, the return address, the spill (R83, R84). A call leaves every loop active, so that
R90 is judged before WINDOW_OVF. -/
def State.callTo (s : State) (tgt : Nat) : Res :=
  let c := s.core
  let d := c.sc.depth
  s.unlessDelay c.lp <| if c.callOverflows then .trap (windowTrap d) s
  else (s.transfer c.lp tgt .call).bind fun _ s =>
    let s := s.writeG 1 31 (w64 (c.seq.pc + 3))
    (if 13 ≤ d ∧ c.sc.low ≤ d - 13 then s.moveSlot false (d - 13) else s).ok

/-- CALL (R83). -/
def execCall (d : BitVec 20) (s : State) : Host.Outcome State Fault Refusal :=
  settle 0 (s.ready true [31] fun s => s.callTo (s.dispTarget d))

/-- CALLI (R83): R90 is judged before PROT of the target, and that before WINDOW_OVF (log 99). -/
def execCalli (a : BitVec 5) (i : BitVec 15) (s : State) : Host.Outcome State Fault Refusal :=
  settle 0 (s.ready true [a, 31] fun s => s.unlessDelay s.core.lp (s.regTarget a i fun t => s.callTo t))

/-- RET (R83, R84): G15 whole is the target, and one of 2^32 or more traps PROT as the bundle there is fetched
(log 100). -/
def execRet (s : State) : Host.Outcome State Fault Refusal :=
  settle 0 (s.ready true [15] fun s =>
    let d := s.core.sc.depth
    s.unlessDelay s.core.lp <| if d = 0 then .trap (windowTrap 0) s
    else
      let low := s.core.sc.low
      (s.transfer s.core.lp (s.core.g 15).toNat .ret).bind fun _ s =>
        (if d - 1 < low then s.moveSlot true (d - 1) else s).ok)

/-! ### Loop set-up (R88, R91, R92) -/

/-- The nesting check of R88: an active other loop must hold the whole body. -/
def Loops.nests (l : Loops) (n last : Nat) : Bool := !(l.set (1 - n)).act || decide (last ≤ (l.set (1 - n)).fin)

/-- Set up loop set `n` for a count (R88). -/
def State.setLoop (s : State) (n count e : Nat) : Res :=
  let l := s.core.lp
  let pc := s.core.seq.pc
  s.unlessDelay l <| if (l.set n).act then s.raise cIllegal
  else if !l.nests n (pc + 2 + e) then s.raise cIllegal
  else
    let m := l.onSet n fun x => { x with beg := pc + 3, fin := pc + 2 + e }
    if count = 0 then s.transfer m (pc + 3 + e) .none
    else
      let m := m.onSet n fun x => { x with cnt := count, act := true }
      let m := if (l.set (1 - n)).act then { m with inner := n } else m
      s.transfer m (pc + 3) .none

/-- LOOP (R88). -/
def execLoop (n : BitVec 1) (a : BitVec 5) (e : BitVec 12) (s : State) : Host.Outcome State Fault Refusal :=
  settle 0 (s.ready true [a] fun s => s.setLoop n.toNat (s.gn a) e.toNat)

/-- LOOPI (R88). -/
def execLoopi (n : BitVec 1) (k : BitVec 8) (e : BitVec 12) (s : State) : Host.Outcome State Fault Refusal :=
  settle 0 (s.setLoop n.toNat k.toNat e.toNat)

/-- LPIPE (R92). -/
def execLpipe (n : BitVec 1) (a : BitVec 5) (g : BitVec 4) (e : BitVec 12) (s : State) :
    Host.Outcome State Fault Refusal :=
  settle 0 (s.ready true [a] fun s =>
    let l := s.core.lp
    let pc := s.core.seq.pc
    let k := n.toNat
    let count := s.gn a
    let last := pc + 2 + e.toNat
    s.unlessDelay l <| if (l.set k).act || l.pv then s.raise cIllegal
    else if 2 ^ 63 ≤ count then s.raise cIllegal
    else if !l.nests k last then s.raise cIllegal
    else
      let m := { l.onSet k (fun x => { x with beg := pc + 3, fin := last }) with lstg := g.toNat, litr := 0, rrb := 0 }
      if count = 0 then s.transfer m (last + 1) .none
      else
        let m := { m.onSet k (fun x => { x with cnt := count + g.toNat - 1, act := true }) with pv := true, ps := k, sv := 1 }
        let m := if (l.set (1 - k)).act then { m with inner := k } else m
        s.transfer m (pc + 3) .none)

/-- LBRK (R91): not a transfer. -/
def execLbrk (n : BitVec 1) (s : State) : Host.Outcome State Fault Refusal :=
  settle 0 (if (s.core.lp.set n.toNat).act then (s.onLp fun l => l.leave n.toNat).ok else s.ok)

/-! ### Traps, services and returns (R98 to R102, R369, R385) -/

/-- TRAP (R98): raised after the other slots of its bundle, resuming at the next bundle. -/
def execTrap (i : BitVec 16) (s : State) : Host.Outcome State Fault Refusal :=
  let r := s.loopEnd
  settle 0 (.trap { cause := cTrapi, info := i.toNat, slot := false, resume := some r.1 } r.2)

/-- SYSCALL (R100, R372): the monitor, after the other slots of its bundle. -/
def execSyscall (i : BitVec 16) (s : State) : Host.Outcome State Fault Refusal :=
  let r := s.loopEnd
  settle 0 (.trap { cause := 0, info := i.toNat, slot := false, resume := some r.1 } r.2)

/-- TRET (R99, R369). -/
def execTret (s : State) : Host.Outcome State Fault Refusal :=
  settle 0 (if s.core.tr.tlvl then s.transfer s.core.lp s.core.tr.tpc.toNat .tret else s.raise cIllegal)

/-- MRET (R100, R370): privileged. -/
def execMret (s : State) : Host.Outcome State Fault Refusal :=
  settle 0 (if s.core.tr.mlvl then s.transfer s.core.lp s.core.tr.mpc.toNat .mret
    else .trap { cause := cPriv, stage := 0 } s)

/-- IWAIT (R102). -/
def execIwait (s : State) : Host.Outcome State Fault Refusal :=
  settle 0 (if s.core.tr.aip then s.ok else .hold .iwait s)

/-- IRET (R102). -/
def execIret (s : State) : Host.Outcome State Fault Refusal :=
  settle 0 (if s.core.tr.ain then s.transfer s.core.lp s.core.tr.apc.toNat .iret else s.raise cIllegal)

/-- BREAK (R385): a NOP under SKIP (R386). -/
def execBrk (i : BitVec 16) (s : State) : Host.Outcome State Fault Refusal :=
  settle 0 (if s.core.dbg.skip && !s.core.tr.mlvl then s.ok
    else .trap { cause := cBreak, info := i.toNat, slot := false } s)

/-- NOP (R58). -/
def execNop (s : State) : Host.Outcome State Fault Refusal := settle 0 s.ok

/-! ### Overlay segments (R299 to R301) -/

/-- A kernel by number. -/
def State.kernel (s : State) (k : Nat) : Option Kernel := s.fe.kernels.find? (fun x => x.id == k)

/-- The kernel of the task on the current core. -/
def State.myKernel (s : State) : Option Kernel :=
  match s.core.task with
  | some t => s.kernel t.kern
  | none => none

/-- The segment that contains a bundle address, with its index (R294). -/
def Kernel.segAt (k : Kernel) (a : Nat) : Option (Nat × Segment) :=
  (k.segs.zipIdx.find? (fun p => decide (p.1.sb ≤ a) && decide (a < p.1.sb + p.1.len))).map (fun p => (p.2, p.1))

/-- An overlay half. -/
def Store.half (l : Store) (h : Nat) : Half := if h = 0 then l.half0 else l.half1
/-- Change an overlay half. -/
def Store.setHalf (l : Store) (h : Nat) (x : Half) : Store :=
  if h = 0 then { l with half0 := x } else { l with half1 := x }

/-- The half holds segment `k`, or is loading it. -/
def Half.has (h : Half) (k : Nat) : Bool :=
  match h with
  | .resident n => n == k
  | .loading n => n == k
  | _ => false

/-- The translations of a core's victim storage that its idle storage can hold (R217): 2048 for each cache way without a
line, 2 for each 32-byte line of an overlay half that holds no resident segment. -/
def Core.victimRoom (c : Core) : Nat :=
  let idle := (List.range (c.st.b3 - c.st.b2)).filter fun w => !c.loc.lines.any fun x => x.way == w
  let free (h : Half) : Nat := match h with | .resident _ => 0 | .loading _ => 0 | _ => 8192
  2048 * idle.length + free c.loc.half0 + free c.loc.half1

/-- Storage that is no longer idle gives up the translations in it (R217). -/
def Core.reclaim (c : Core) : Core := { c with loc := { c.loc with victims := c.loc.victims.take c.victimRoom } }

/-- A half begins to load a segment; the storage that its lines gave to translations is reclaimed at once (R217, R299). -/
def State.loadHalf (s : State) (h n : Nat) : State := s.onCore fun c => Core.reclaim { c with loc := c.loc.setHalf h (.loading n) }

/-- SEGB (R301): start the background copy of a segment; a copy under way in that half is cancelled. -/
def execSegb (g : BitVec 16) (s : State) : Host.Outcome State Fault Refusal :=
  settle 0 (match s.myKernel with
    | none => s.raise cIllegal
    | some k =>
        match k.segs[g.toNat]? with
        | none => s.raise cIllegal
        | some x =>
            if (match k.segAt s.core.seq.pc with | some y => y.2.half == x.half | none => false) then s.raise cIllegal
            else if (s.core.loc.half x.half).has g.toNat then s.ok
            else (s.loadHalf x.half g.toNat).ok)

/-! ### The end of a bundle -/

/-- The entry of a JTAB that has issued is still to come: its target, and with it what its loops and the next bundle address
become, is not known yet (R87). -/
def Seq.targetOpen (q : Seq) : Bool :=
  match q.table with | none => false | some .timed => false | some _ => true

/-- The bundle has issued: the loop rule, then the next bundle address (R79, R89). -/
def State.advance (s : State) : State :=
  if s.core.seq.moved then s.onSeq fun q => { q with moved := false }
  else if s.core.seq.targetOpen then s
  else
    let pc := s.core.seq.pc
    let r := s.loopEnd
    match s.core.seq.xfer with
    | none => r.2.onSeq fun q => { q with pc := r.1 }
    | some x =>
        if x.rem ≤ 1 then r.2.onCore fun c => c.arrive x
        else r.2.onSeq fun q => { q with pc := pc + 1, xfer := some { x with rem := x.rem - 1 } }

end Sys2Proof.Machine
end

