-- ==== Sys2Proof/Machine/Translate.lean ====
section
/-! DEFINITION. Page tables, translation caches and handles (R16, R210 to R219, R224 to R226, R381, R382). -/

namespace Sys2Proof.Machine

/-! ### Page table entries (R211 to R213) -/

def leafRegion (e : Nat) : Nat := bits e 52 12
def leafFrame (e : Nat) : Nat := bits e 16 36
def leafChk (e : Nat) : Bool := bit e 15
def leafGlobal (e : Nat) : Bool := bit e 14
def leafNt (e : Nat) : Bool := bit e 13
def leafLease (e : Nat) : Nat := bits e 7 5
def leafClass (e : Nat) : Nat := bits e 4 3
def leafX (e : Nat) : Bool := bit e 3
def leafW (e : Nat) : Bool := bit e 2
def leafR (e : Nat) : Bool := bit e 1

/-- log2 of the page size of a leaf at a level (R210). -/
def pageLog (level : Nat) : Nat := if level = 0 then 16 else if level = 1 then 21 else 31

/-- A leaf that R213 calls malformed. -/
def leafMalformed (level va e : Nat) : Bool :=
  decide (24 < leafLease e) || decide (4 < leafClass e) || level == 3 ||
    (level == 1 && bits e 16 5 != 0) || (level == 2 && bits e 16 15 != 0) ||
    (leafRegion e != 0 && leafClass e != 2 && leafClass e != 3) ||
    (if leafClass e = 4 then bits e 41 5 != 1 else bits e 41 5 != 0) ||
    (leafGlobal e && decide (bits va 41 11 < 1984))

/-- A table entry that R213 calls malformed; `align` is log2 of the next table's size. -/
def tableMalformed (level align e : Nat) : Bool :=
  bits e 13 3 != 0 || bits e 1 11 != 0 || level == 0 ||
    (fld (bits e 16 36) 16 + fld (bits e 52 12) 4) % 2 ^ align != 0

/-- How a walk ends. -/
inductive Walk where
  | absent
  | malformed
  | unreachable
  /-- An entry is still to come from another package. -/
  | pending (pa : Nat)
  /-- Four walks have been abandoned (R219). -/
  | late
  | leaf (e level : Nat)
  deriving DecidableEq, Repr

/-- The walk from a table down (R210): (level, lowest VA bit, bits of index, log2 of the next table's size). -/
def State.walkFrom (s : State) (va : Nat) : List (Nat × Nat × Nat × Nat) → Nat → Walk
  | [], _ => .malformed
  | (level, lo, n, nextLog) :: rest, table =>
      let a := table + 8 * bits va lo n
      if (s.paFault a).isSome ∨ paSpace a ≠ 0 then .unreachable
      else match s.find (some va) a 8 with
        | .pending => .pending a
        | .failed _ => .unreachable
        | .bytes bs =>
            let e := leNat bs
            if !bit e 0 then .absent
            else if bit e 12 then (if leafMalformed level va e then .malformed else .leaf e level)
            else if tableMalformed level nextLog e then .malformed
            else s.walkFrom va rest (fld (bits e 16 36) 16 + fld (bits e 52 12) 4)

/-- The root of a context's tables (R263). -/
def State.ctxOf (s : State) (k : Nat) : Context := Sparse.get {} s.crook.ctx k

/-- Change a context. -/
def State.onCtx (s : State) (k : Nat) (f : Context → Context) : State :=
  { s with crook := { s.crook with ctx := Sparse.set {} s.crook.ctx k (f (s.ctxOf k)) } }

/-- A walk in a context (R210). -/
def State.walk (s : State) (ctx va : Nat) : Walk :=
  s.walkFrom va [(3, 41, 11, 13), (2, 31, 10, 13), (1, 21, 10, 8), (0, 16, 5, 0)] (s.ctxOf ctx).root

/-- The largest LMAX of the LIVE contexts (R265). -/
def Crook.topLmax (k : Crook) : Nat :=
  (k.ctx.filter (fun p => p.2.state == .live)).foldl (fun n p => max n p.2.lmax) 0

/-- The lease under which die `d` may cache a leaf, as a code; 0 for not at all (R216, R224, R265). -/
def State.leaseCode (s : State) (d ctx e : Nat) : Nat :=
  if (s.die d).lease0 then 0
  else min (leafLease e) (if leafGlobal e then s.crook.topLmax else (s.ctxOf ctx).lmax)

/-- The translation a walk makes on die `d`: its expiry is the fill time plus the lease (R216). -/
def State.filled (s : State) (d ctx va e level : Nat) : Xlation where
  va := va / 2 ^ pageLog level * 2 ^ pageLog level
  level := level
  leaf := w64 e
  ctx := if leafGlobal e then none else some ctx
  exp := if s.leaseCode d ctx e = 0 then 0 else (s.die d).dtb + 2 ^ (s.leaseCode d ctx e - 1) * 1000

/-- The translation covers a virtual address of a context. -/
def Xlation.covers (x : Xlation) (ctx va : Nat) : Bool :=
  (x.ctx == none || x.ctx == some ctx) && va / 2 ^ pageLog x.level * 2 ^ pageLog x.level == x.va

/-- The physical address of a virtual one under a translation (R210). -/
def Xlation.pa (x : Xlation) (va : Nat) : Nat :=
  fld (leafFrame x.leaf.toNat) 16 + va % 2 ^ pageLog x.level

/-- A translation may be used on a die: its lease runs, and leases there are not treated as 0 (R216, R224). -/
def State.live (s : State) (x : Xlation) : Bool :=
  let d := s.die (dieOf s.core.id)
  decide (d.dtb < x.exp) && !d.lease0

/-- A cached translation: of the core TLB, else of victim storage, else of the die TLB; of several the first (R218,
log 11). -/
def State.lookup (s : State) (ctx va : Nat) : Option Xlation :=
  (s.core.loc.tlb ++ s.core.loc.victims ++ (s.die (dieOf s.core.id)).tlb).find? fun x => x.covers ctx va && s.live x

/-- A translation enters the core TLB, whose oldest one goes to victim storage (R217). -/
def Core.fillTlb (c : Core) (x : Xlation) : Core :=
  let l := x :: c.loc.tlb.filter fun z => z != x && !(z.va == x.va && z.level == x.level && z.ctx == x.ctx)
  let old := c.loc.victims.filter fun z => z != x && !(z.va == x.va && z.level == x.level && z.ctx == x.ctx)
  Core.reclaim { c with loc := { c.loc with tlb := l.take 64, victims := l.drop 64 ++ old } }

/-- Write a walk's result to the die TLB and, for a core's own access, the core TLB (R218), in the capacities of
R217; a lease of 0 caches nothing. -/
def State.cacheXlation (s : State) (x : Xlation) (own : Bool) : State :=
  let d := dieOf s.core.id
  if x.exp = 0 then s
  else
    let s := s.onDie d fun y =>
      let l := x :: y.tlb.filter (fun z => decide (y.dtb < z.exp) && !(z.va == x.va && z.level == x.level && z.ctx == x.ctx))
      { y with tlb := (l.filter (fun z => z.level != 2)).take 2880 ++ (l.filter (fun z => z.level == 2)).take 192 }
    if own then s.onCore fun c => c.fillTlb x else s

/-! ### Permissions and faults (R215, R219) -/

/-- The ways an access uses memory. -/
inductive Use where
  /-- A scalar or vector load. -/
  | read
  /-- An engine read or a gather, which is not watched. -/
  | gather
  /-- A scalar or vector store, or a write that is not of checked tiles. -/
  | write
  /-- A write of checked tiles by an engine, which a page with CHK = 1 admits. -/
  | tileWrite
  /-- AMO, CAS, VSCATA. -/
  | atomic
  /-- CWAIT, CINC, RGO: R and W, whatever CLASS. -/
  | counter
  /-- A segment load. -/
  | fetch
  deriving DecidableEq, Repr

/-- The leaf permits the access (R215). -/
def leafPermits (u : Use) (e : Nat) : Bool :=
  match u with
  | .read => leafR e
  | .gather => leafR e
  | .write => leafW e && !leafChk e
  | .tileWrite => leafW e
  | .atomic => leafR e && leafW e && !leafChk e && leafClass e != 2 && leafClass e != 3
  | .counter => leafR e && leafW e
  | .fetch => leafX e

/-- XLAT_FAULT with its reason and address (R231, R373). -/
def xlatTrap (reason va : Nat) : TrapInfo := { cause := cXlat, info := fld reason 28, addr := va }
/-- PROT with its reason. -/
def protTrap (reason va : Nat) : TrapInfo := { cause := cProt, info := fld reason 28, addr := va }

/-- The walk of the operation at hand (R210, R219): one that has run for too long starts again with the entry it read
first, and after the fourth none does. -/
def State.walkTimed (s : State) (ctx va : Nat) : Walk :=
  if 3 < s.triesOf s.me va then .late
  else match s.overdue s.me va with
    | some a => .pending a
    | none => s.walk ctx va

/-- A fresh walk for an access: the translation, or the fault (R210, R213, R219). -/
def State.walkFor (s : State) (ctx va : Nat) : Act Xlation :=
  match s.walkTimed ctx va with
    | .late => .trap (xlatTrap 1 va) s
    | .absent => .trap (xlatTrap 0 va) s
    | .malformed => .trap (protTrap 1 va) s
    | .unreachable => .trap (protTrap 2 va) s
    | .pending a => .hold (.remote (some va) a 8) s
    | .leaf e level => .ok (s.filled (dieOf s.core.id) ctx va e level) s

/-- The translation with which the bundle at hand was judged as its BARV arrived: its checks are not judged again (R330). -/
def State.judged (s : State) (ctx va : Nat) (u : Use) : Option Xlation :=
  match s.core.sy.judged with
  | some j =>
      if j.1 = s.core.level ∧ j.2.1 = s.core.seq.pc ∧ s.core.sy.barv.any (fun e => e.1 == j.1 && e.2.1 == j.2.1) then
        j.2.2.find? fun x => x.covers ctx va && leafPermits u x.leaf.toNat
      else none
  | none => none

/-- The translation of an access without a handle's own (R218): a denial is re-walked once before it faults. What a walk
finds is cached whether or not it permits the access. -/
def State.translate (s : State) (ctx va : Nat) (u : Use) (own : Bool) : Act Xlation :=
  if 2 ^ 52 ≤ va then .trap (protTrap 0 va) s
  else
    let fresh := (s.walkFor ctx va).bind fun x s =>
      let s := s.cacheXlation x own
      if leafPermits u x.leaf.toNat then .ok x s else .trap (protTrap 0 va) s
    match s.lookup ctx va with
    | some x => if leafPermits u x.leaf.toNat then .ok x (if own then s.onCore fun c => c.fillTlb x else s) else fresh
    | none => fresh

/-- The context of the task on the current core. -/
def Core.ctx (c : Core) : Nat := match c.task with | some t => t.ctx | none => 0

/-! ### Watchpoints (R381, R382) -/

/-- The three filter bits of a granule. -/
def watchBits (g : Nat) : List Nat :=
  let x := (g % 2 ^ 32) ^^^ (g / 2 ^ 14 % 2 ^ 32)
  [1, 2, 3].map fun j => x * hashPi j % 2 ^ 32 / 2 ^ 22

/-- The granule is in the filter. -/
def Debug.inFilter (d : Debug) (g : Nat) : Bool := (watchBits g).all (fun h => d.filter.getLsbD h)

/-- The access overlaps an entry of the exact list. -/
def Debug.listed (d : Debug) (va size : Nat) : Bool :=
  d.exact.any (fun p => decide (p.1 < va + size) && decide (va < p.1 + p.2))

/-- One granule of a watched access. -/
def State.watchGranule (s : State) (va size : Nat) (store : Bool) (g : Nat) : Res :=
  let d := s.core.dbg
  let hit (u : Bool) : Res :=
    .trap { cause := cWatch, addr := va } (s.onDbg fun d => { d with unscr := u, wrote := store })
  if !d.inFilter g then s.ok
  else if d.ovf then hit true
  else if d.listed va size then hit false
  else (s.onDbg fun d => { d with fpcnt := satAdd d.fpcnt 1 (2 ^ 32 - 1) }).ok

/-- The watch check of an access through a memory-kind handle; SKIP exempts the bundle (R382, R386). -/
def State.watch (s : State) (va size : Nat) (u : Use) : Res :=
  let d := s.core.dbg
  let on := match u with
    | .read => d.wld
    | .write => d.wst
    | .atomic => d.wld || d.wst
    | _ => false
  if !on || (d.skip && !s.core.tr.mlvl) then s.ok
  else
    let a := va / 64
    let b := (va + size - 1) / 64
    (s.watchGranule va size (u != .read) a).bind fun _ s => if a = b then s.ok else s.watchGranule va size (u != .read) b

/-! ### Handles (R225, R226) -/

def Handle.kind (h : Handle) : Nat := bits h.w0.toNat 62 2
def Handle.r (h : Handle) : Bool := bit h.w0.toNat 61
def Handle.w (h : Handle) : Bool := bit h.w0.toNat 60
def Handle.vbase (h : Handle) : Nat := bits h.w0.toNat 0 52
def Handle.limit (h : Handle) : Nat := bits h.w1.toNat 0 53

/-- Where an access goes: bytes of the core's pool, or a physical address with the leaf that translated it. -/
inductive Target where
  | pool (a : Nat)
  | mem (pa : Nat) (leaf : Nat) (va : Nat)
  deriving DecidableEq, Repr

/-- The physical address of a target in memory. -/
def Target.pa : Target → Nat
  | .pool _ => 0
  | .mem pa _ _ => pa

/-- The pool bytes lie in the scratchpad (R187). -/
def Core.inScratch (c : Core) (a n : Nat) : Bool :=
  decide (32768 * c.st.b1 ≤ a) && decide (a + n ≤ 32768 * c.st.b2)

/-- A fresh leaf changes a binding field of the snapshot, or removes a permission it set (R226). -/
def leafRevokes (old new : Nat) : Bool :=
  leafFrame old != leafFrame new || leafClass old != leafClass new || leafChk old != leafChk new ||
    leafRegion old != leafRegion new || (leafR old && !leafR new) || (leafW old && !leafW new)

/-- Whether an access reads, and whether it writes. -/
def Use.reads (u : Use) : Bool := u == .read || u == .gather || u == .atomic || u == .counter
def Use.writes (u : Use) : Bool := u == .write || u == .tileWrite || u == .atomic || u == .counter

/-- HANDLE_REVOKED names the handle (R373). -/
def revokedTrap (h : Nat) : TrapInfo := { cause := cRevoked, info := fld h 8 }

/-- A denied or expired handle translation is renewed: walked afresh and compared (R226). A lease of 0 leaves it valid and
expired, so that the next access is compared too. R226 assigns TSNAP and TEXP; where the fresh leaf has another page size, TPAGE
becomes the fresh page, which the model chooses (log 112). -/
def State.renew (s : State) (h va : Nat) (u : Use) (old : Xlation) : Act Xlation :=
  let ctx := s.core.ctx
  (s.walkFor ctx va).bind fun x s =>
    if leafRevokes old.leaf.toNat x.leaf.toNat then
      .trap (revokedTrap h) (s.onHandle h fun y => { y with rev := true, tr := none })
    else
      let s := (s.cacheXlation x true).onHandle h fun y => { y with tr := some x }
      if leafPermits u x.leaf.toNat then .ok x s else .trap (protTrap 0 va) s

/-- The translation an access through handle `h` uses (R226). -/
def State.handleXlate (s : State) (h va : Nat) (u : Use) : Act Xlation :=
  let ctx := s.core.ctx
  let other := (s.translate ctx va u true).bind fun x s =>
    .ok x (s.onHandle h fun y => { y with tr := if x.exp = 0 then none else some x })
  match s.judged ctx va u, (s.core.handle h).tr with
  | some x, _ => .ok x s
  | none, some t =>
      if t.covers ctx va then
        (if s.live t ∧ leafPermits u t.leaf.toNat then .ok t s else s.renew h va u t)
      else other
  | none, none => other

/-- Base of a handle's window plus an offset: the address that alignment is judged on (R113). -/
def State.handleAddr (s : State) (h : Nat) (off : Int) : Int := ((s.core.handle h).vbase : Int) + off

/-- An access of `size` bytes at offset `off` through handle `h`: the checks of R226 in order, the watch check, and
the translation. Alignment is checked before (R113). -/
def State.through (s : State) (h : Nat) (off : Int) (size : Nat) (u : Use) : Act Target :=
  let y := s.core.handle h
  let bad := if y.kind = 2 then 0 else wrapTo 64 (s.handleAddr h off)
  if y.kind = 0 ∨ y.kind = 3 then .trap (protTrap 0 bad) s
  else if off < 0 ∨ (y.limit : Int) < off + size then .trap (protTrap 0 bad) s
  else if (u.reads && !y.r) || (u.writes && !y.w) then .trap (protTrap 0 bad) s
  else
    let va := y.vbase + off.toNat
    if y.kind = 2 then
      (if s.core.inScratch va size then .ok (.pool va) s else .trap (protTrap 4 0) s)
    else if 2 ^ 52 ≤ va then .trap (protTrap 0 va) s
    else if y.rev then .trap (revokedTrap h) s
    else
      (s.watch va size u).bind fun _ s =>
        (s.handleXlate h va u).bind fun x s =>
          let pa := x.pa va
          match s.paFault pa with
          | some r => .trap (protTrap r va) s
          | none => .ok (.mem pa x.leaf.toNat va) s

end Sys2Proof.Machine
end

