-- ==== Sys2Proof/Machine/Tid.lean ====
section
/-! DEFINITION. Tensor identifiers: the fields of a TIT entry, its tiles and where they stand (R121 to R123, R146,
R161, R235). -/

namespace Sys2Proof.Machine

/-- The entry of a TID as a command reads it at issue, with the AG set it names (R119). -/
def Core.tid (c : Core) (t : Nat) : TidWords :=
  let w (k : Nat) : Word := Sparse.get 0 c.st.tit (5 * t + k)
  { tid := t, w0 := w 0, w1 := w 1, w2 := w 2, w3 := w 3, w4 := w 4,
    ag := Sparse.get 0 c.st.ag (bits (w 0).toNat 12 2) }

/-! ### Fields (R122, R123) -/

def TidWords.fmt (t : TidWords) : Nat := bits t.w0.toNat 0 5
def TidWords.ord (t : TidWords) : Bool := bit t.w0.toNat 5
def TidWords.chk (t : TidWords) : Bool := bit t.w0.toNat 6
def TidWords.tol (t : TidWords) : Nat := bits t.w0.toNat 8 4
def TidWords.swz (t : TidWords) : Bool := bits t.w0.toNat 14 2 == 1
def TidWords.rows (t : TidWords) : Nat := if bits t.w0.toNat 16 8 = 0 then 256 else bits t.w0.toNat 16 8
def TidWords.cols (t : TidWords) : Nat := if bits t.w0.toNat 24 8 = 0 then 256 else bits t.w0.toNat 24 8
def TidWords.pool (t : TidWords) : Bool := bit t.w0.toNat 32
def TidWords.base (t : TidWords) : Nat := t.w1.toNat
def TidWords.sbase (t : TidWords) : Nat := t.w4.toNat

/-- The address of stored tile (i, j) (R123). -/
def TidWords.tile (t : TidWords) (i j : Nat) : Nat := t.base + i * t.w2.toNat + j * t.w3.toNat
/-- The address of its scale bytes. -/
def TidWords.scales (t : TidWords) (i j : Nat) : Nat := t.sbase + 128 * (i * t.cols + j)
/-- Bytes of a stored tile. -/
def TidWords.size (t : TidWords) : Nat := tileSize t.fmt t.chk

/-- Tile rows and columns of the view (R161). -/
def TidWords.viewRows (t : TidWords) : Nat := if t.ord then t.cols else t.rows
def TidWords.viewCols (t : TidWords) : Nat := if t.ord then t.rows else t.cols
/-- The stored tile that view tile (a, b) is, or is the transpose of (R161). -/
def TidWords.stored (t : TidWords) (a b : Nat) : Nat × Nat := if t.ord then (b, a) else (a, b)

/-- Bytes of the pool lie in the scratchpad (R187). -/
def Core.inPool (c : Core) (a : Int) (n : Nat) : Bool :=
  decide (32768 * (c.st.b1 : Int) ≤ a) && decide (a + n ≤ 32768 * (c.st.b2 : Int))

/-- The footprint of a pool tile that starts at address `a` lies in the scratchpad (R148, R235): the banks of a
swizzled tile and its slots, or the bytes of a linear one. `size` is the number of bytes from its start. -/
def Core.tileFits (c : Core) (f : Nat) (swz : Bool) (a size : Nat) : Bool :=
  if swz then
    let b0 := a / 32768
    let slot0 := a % 32768 / 64
    let d := fmtData f
    let main := if fmtBits f = 4 then 2 else 4 * fmtLines f
    let used := if size ≤ d then main else main + ((size - d) / 64 + 15) / 16
    decide (c.st.b1 ≤ b0) && decide (b0 + 16 ≤ c.st.b2) && decide (slot0 + used ≤ 512)
  else c.inPool a size

/-- The pool address of byte `o` of a tile that starts at address `a` (R146, R235). -/
def poolByte (f : Nat) (swz : Bool) (a o : Nat) : Nat := if swz then a + swizzled f o else a + o

/-- The bytes of a pool tile from offset `o` on: whole 64-byte lines are contiguous. -/
def Core.poolTile (c : Core) (f : Nat) (swz : Bool) (a o n : Nat) : List Byte :=
  if swz then
    let lo := o / 64
    let hi := (o + n + 63) / 64
    (((List.range (hi - lo)).flatMap fun l => Sparse.read 0 c.loc.pool (poolByte f true a (64 * (lo + l))) 64).drop
      (o % 64)).take n
  else Sparse.read 0 c.loc.pool (a + o) n

end Sys2Proof.Machine
end

