-- ==== Sys2Proof/Machine/Tokens.lean ====
section
/-! DEFINITION. Tokens and commands: production, consumption, retirement (R54, R149 to R152). -/

namespace Sys2Proof.Machine

/-- TOKEN names the token (R373). -/
def tokenTrap (t : Nat) : TrapInfo := { cause := cToken, info := fld t 32 }

/-- A command produces token `t` at issue (R150). -/
def State.produce (s : State) (t : Nat) : Res :=
  if (s.core.token t).out then .trap (tokenTrap t) s
  else (s.onEng fun g => g.onToken t fun x => { gen := (x.gen + 1) % 4, out := true, flt := none }).ok

/-- A token that a command consumes has retired: the command waits for it no longer, and inherits its fault (R151, R152). -/
def Cmd.freed (c : Cmd) (t gen : Nat) (f : Option CmdFault) : Cmd :=
  if !c.started && c.uses.contains (t, gen) then
    { c with uses := c.uses.filter (· != (t, gen)), fault := match c.fault with | some x => some x | none => f }
  else c

/-- Token `t` retires, faulted or not (R54, R152). -/
def State.retire (s : State) (t : Nat) (f : Option CmdFault) : State :=
  let gen := (s.core.token t).gen
  s.onEng fun g => { g.onToken t (fun x => { x with out := false, flt := f }) with
    qm := g.qm.map fun c => c.freed t gen f
    q0 := g.q0.map fun c => c.freed t gen f
    q1 := g.q1.map fun c => c.freed t gen f }

/-- No TID. -/
def noTid : TidWords := { tid := 0, w0 := 0, w1 := 0, w2 := 0, w3 := 0, w4 := 0, ag := 0 }

/-- A command that reads nothing but its word. -/
def bareCmd (i : Instr) (pc tok : Nat) : Cmd :=
  { instr := i, pc := pc, tok := tok, x := [], a := noTid, b := noTid, y := noTid, uses := [] }

/-- The fields of TOKS: (valid, generation, token) (R151). -/
def toksOf (x : Nat) : List (Bool × Nat × Nat) :=
  [0, 16, 32].map fun o => (bit x (o + 15), bits x (o + 8) 2, bits x o 6)

/-- A reserved bit of TOKS is set. -/
def toksDirty (x : Nat) : Bool :=
  bits x 48 16 != 0 || [0, 16, 32].any fun o => bits x (o + 10) 5 != 0 || bits x (o + 6) 2 != 0

/-- The consumed tokens of a command with their generations, checked at issue against the generations before any production of the bundle
(R151). -/
def State.consumes (s : State) (x : Nat) : Act (List (Nat × Nat)) :=
  if toksDirty x then s.raise cIllegal
  else
    let used := (toksOf x).filter fun f => f.1
    match used.find? (fun f => (s.core.token f.2.2).gen != f.2.1) with
    | some f => .trap (tokenTrap f.2.2) s
    | none => .ok (used.map fun f => (f.2.2, f.2.1)) s

/-- A fault of a token: the original cause, with the token, its REASON and the address of the fault (R152, R373, R375). -/
def tokenFault (c : Core) (t : Nat) (f : CmdFault) : TrapInfo :=
  { cause := f.cause, info := fld 1 60 + fld (c.token t).gen 38 + fld t 32 + fld f.reason 28, slot := false, addr := f.va }

end Sys2Proof.Machine
end

