-- ==== Sys2Proof/Machine/Region.lean ====
section
/-! DEFINITION. Reduction regions: descriptors, arrivals and diverted writes (R348 to R351, R358). -/

namespace Sys2Proof.Machine

/-! ### Access by an agent in a context's address space (R210, R213) -/

/-- The mark of an operation that lacks `n` bytes at the home `pa` of another package: no cause of R365, whose codes lie
below 256 (log 103). `va` is the virtual address of a walk that lacks an entry. -/
def lacks (va : Option Nat) (pa n : Nat) : CmdFault := ⟨256 + pa, n, match va with | some v => v + 1 | none => 0⟩
/-- The virtual address of that walk. -/
def lackVa (va : Nat) : Option Nat := if va = 0 then none else some (va - 1)
/-- It is that mark. -/
def isLack (cause : Nat) : Bool := decide (256 ≤ cause)

/-- A fault as a trap of the bundle. -/
def CmdFault.trap (f : CmdFault) : TrapInfo := { cause := f.cause, info := fld f.reason 28, addr := f.va }

/-- A fault that an operation of the core met: a trap, or a wait for bytes that it lacks. -/
def State.fails {α : Type} (s : State) (f : CmdFault) : Act α :=
  if isLack f.cause then .hold (.remote (lackVa f.va) (f.cause - 256) f.reason) s else .trap f.trap s

/-- Bytes at their home, cut for the messages that ask another package for them (R341: at most 4096 bytes). -/
def State.findAll (s : State) (pa n : Nat) : Nat → Except CmdFault (List Byte)
  | 0 => .ok []
  | k + 1 =>
      if n = 0 then .ok []
      else
        let m := min n 4096
        match s.find none pa m with
        | .bytes bs => (s.findAll (pa + m) (n - m) k).map (bs ++ ·)
        | .pending => .error (lacks none pa m)
        | .failed st => .error ⟨cProt, if st = 2 then 2 else 0, 0⟩

/-- Bytes at their home: of this package or the host as they stand, of another package as it has sent them (R190). An access of
host memory that has failed faults PROT with reason host (R363). -/
def State.fetched (s : State) (pa n : Nat) : Except CmdFault (List Byte) :=
  if s.remote pa then s.findAll pa n (n / 4096 + 1)
  else if paSpace pa = 1 ∧ s.me ∈ s.host.failed then .error ⟨cProt, 3, 0⟩
  else .ok (s.homeBytes pa n)

/-- The physical address and the leaf of a virtual address, by a walk that caches nothing. -/
def State.peek (s : State) (ctx va : Nat) : Except CmdFault (Nat × Nat) :=
  if 2 ^ 52 ≤ va then .error ⟨cProt, 0, va⟩
  else match s.walkTimed ctx va with
    | .absent => .error ⟨cXlat, 0, va⟩
    | .late => .error ⟨cXlat, 1, va⟩
    | .malformed => .error ⟨cProt, 1, va⟩
    | .unreachable => .error ⟨cProt, 2, va⟩
    | .pending a => .error (lacks (some va) a 8)
    | .leaf e level =>
        let pa := fld (leafFrame e) 16 + va % 2 ^ pageLog level
        match s.paFault pa with
        | some r => .error ⟨cProt, r, va⟩
        | none => .ok (pa, e)

/-- A range of addresses cut at multiples of 64 KiB, the smallest page. -/
def pieces (va n : Nat) : Nat → List (Nat × Nat)
  | 0 => []
  | k + 1 =>
      if n = 0 then []
      else
        let m := min n (65536 - va % 65536)
        (va, m) :: pieces (va + m) (n - m) k

/-- The pieces of a range. -/
def pagePieces (va n : Nat) : List (Nat × Nat) := pieces va n (n / 65536 + 2)

/-- Bytes of a context's address space, every leaf of which must pass a test. -/
def State.peekBytes (s : State) (ctx va n : Nat) (ok : Nat → Nat → Bool) : Except CmdFault (List Byte) :=
  (pagePieces va n).foldlM (fun acc p => do
    let x ← s.peek ctx p.1
    if ok x.1 x.2 then (s.fetched x.1 p.2).map (acc ++ ·) else .error ⟨cProt, 0, p.1⟩) []

/-- Store bytes in a context's address space. -/
def State.pokeBytes (s : State) (ctx va : Nat) (bs : List Byte) (ok : Nat → Nat → Bool) : Except CmdFault State :=
  (pagePieces va bs.length).foldlM (fun s p => do
    let x ← s.peek ctx p.1
    if ok x.1 x.2 then .ok (s.storeMem (s.key x.1) ((bs.drop (p.1 - va)).take p.2)) else .error ⟨cProt, 0, p.1⟩) s

/-! ### Descriptors (R348) -/

/-- A region's descriptor. -/
structure Desc where
  ctx : Nat
  id : Nat
  nchunk : Nat
  /-- Tiles per chunk. -/
  tpc : Nat
  /-- Members. -/
  nm : Nat
  mypos : Nat
  mode : Nat
  tc : Nat
  persist : Bool
  sparse : Bool
  next : Nat
  tol : Nat
  trows : Nat
  dthr : Nat
  fmt : Nat
  inst : Nat
  rstate : Nat
  cause : Nat
  freason : Nat
  dupdrop : Nat
  stoff : Int
  resoff : Int
  cntoff : Int
  recoff : Int
  mskoff : Int
  members : List Nat
  hdest : List Nat
  hslot : List Nat
  deriving DecidableEq, Repr

/-- The descriptor's virtual address (R348). -/
def descVa (id : Nat) : Nat := 0xF700000000000 + 65536 * id

/-- The fields of 256 descriptor bytes. -/
def Desc.parse (ctx id : Nat) (b : List Byte) : Desc :=
  let w (k : Nat) : Nat := leNat ((b.drop (8 * k)).take 8)
  let off (k : Nat) : Int := signedOf 64 (w k)
  { ctx := ctx, id := id
    nchunk := bits (w 0) 28 12, tpc := bits (w 0) 22 6 + 1, nm := bits (w 0) 16 6 + 1, mypos := bits (w 0) 10 6
    mode := bits (w 0) 8 2, tc := bits (w 0) 6 2, persist := bit (w 0) 5, sparse := bit (w 0) 4
    next := bits (w 1) 52 12, tol := bits (w 1) 48 4, trows := bits (w 1) 40 7, dthr := bits (w 1) 8 8
    fmt := bits (w 1) 0 5
    inst := bits (w 2) 56 8, rstate := bits (w 2) 52 4, cause := bits (w 2) 44 8, freason := bits (w 2) 32 4
    dupdrop := bits (w 2) 0 32
    stoff := off 3, resoff := off 4, cntoff := off 5, recoff := off 6, mskoff := off 7
    members := ((b.drop 64).take (bits (w 0) 16 6 + 1)).map BitVec.toNat
    hdest := ((b.drop 128).take 64).map BitVec.toNat
    hslot := ((b.drop 192).take 64).map BitVec.toNat }

/-- What R348 calls malformed. -/
def State.descMalformed (s : State) (id : Nat) (b : List Byte) : Bool :=
  let w (k : Nat) : Nat := leNat ((b.drop (8 * k)).take 8)
  let d := Desc.parse 0 id b
  let used := if d.mode = 2 then d.nchunk else 0
  bits (w 0) 52 12 != id || bits (w 0) 40 12 != 0 || bits (w 0) 0 4 != 0 || d.nchunk == 0 ||
    (d.mode == 2 && decide (64 < d.nchunk)) || d.nm == 1 || decide (d.nm ≤ d.mypos) ||
    d.members.getD d.mypos 64 != s.fab.pkg || d.mode == 3 || (d.sparse && (d.mode == 2 || d.fmt == 7)) ||
    decide (tolOf d.tol < -4) || bit (w 1) 47 || bits (w 1) 16 24 != 0 || bits (w 1) 5 3 != 0 ||
    d.trows == 0 || decide (64 < d.trows) || !([2, 4, 5, 6, 7].contains d.fmt) || decide (6 ≤ d.rstate) ||
    [3, 4, 5, 6, 7].any (fun k => w k % 64 != 0) ||
    ((b.drop 64).take 64).zipIdx.any (fun p => decide (d.nm ≤ p.2) && p.1 != 0) ||
    !(decide d.members.Nodup) || d.members.any (fun m => !s.fab.domain.contains m) ||
    (d.hdest.take used).any (fun m => !d.members.contains m) ||
    (d.hdest.drop used).any (· != 0) || (d.hslot.drop used).any (· != 0)

/-- A leaf that a region's objects must lie on: CLASS 2 with the region's number, on this package (R348). -/
def State.regionLeaf (s : State) (id pa leaf : Nat) : Bool :=
  leafClass leaf == 2 && leafRegion leaf == id && paPkg pa == s.fab.pkg

/-- The record of a region that the ring sequencers hold. -/
def State.held (s : State) (ctx id : Nat) : Option Region := s.fab.regions.find? fun r => r.id == id && r.ctx == ctx
/-- The bytes of a region's descriptor: while the ring sequencers hold the region, word 2 as it stands in memory and the rest as
it was when the instance was armed, so that a store that software must not make leaves the sequencers as they are (R6, R348). -/
def State.descBytes (s : State) (ctx id : Nat) : Except CmdFault (List Byte) :=
  (s.peekBytes ctx (descVa id) 256 (s.regionLeaf id)).map fun b =>
    match s.held ctx id with
    | some r => if r.fixed.length = 256 then r.fixed.take 16 ++ (b.drop 16).take 8 ++ r.fixed.drop 24 else b
    | none => b

/-- A region's descriptor in a context: PROT where its page is not the region's, OPFMT where it is malformed. -/
def State.desc (s : State) (ctx id : Nat) : Except CmdFault Desc := do
  let b ← s.descBytes ctx id
  if s.descMalformed id b then .error ⟨cOpfmt, 0, descVa id⟩ else .ok (Desc.parse ctx id b)

/-- The virtual address at an offset from the descriptor. -/
def Desc.at (d : Desc) (off : Int) (k : Nat) : Nat := ((descVa d.id : Int) + off + k).toNat

/-- Bytes of a checked tile of the region (R349). -/
def Desc.size (d : Desc) : Nat := tileSize d.fmt true

/-- The fold logic reads and writes a region's objects. -/
def State.foldRead (s : State) (d : Desc) (va n : Nat) : Except CmdFault (List Byte) :=
  s.peekBytes d.ctx va n (s.regionLeaf d.id)
def State.foldStore (s : State) (d : Desc) (va : Nat) (bs : List Byte) : Except CmdFault State :=
  s.pokeBytes d.ctx va bs (s.regionLeaf d.id)

/-- The ring sequencers read and write them, as the leaves' R and W permit (R215). -/
def State.regionRead (s : State) (d : Desc) (va n : Nat) : Except CmdFault (List Byte) :=
  s.peekBytes d.ctx va n fun pa e => s.regionLeaf d.id pa e && leafR e
def State.regionStore (s : State) (d : Desc) (va : Nat) (bs : List Byte) : Except CmdFault State :=
  s.pokeBytes d.ctx va bs fun pa e => s.regionLeaf d.id pa e && leafW e

/-- Every leaf of a range is the region's and permits writes (R215, R348). -/
def State.mayWrite (s : State) (d : Desc) (va n : Nat) : Except CmdFault Unit :=
  (pagePieces va n).forM fun p => do
    let x ← s.peek d.ctx p.1
    if s.regionLeaf d.id x.1 x.2 && leafW x.2 then .ok () else .error ⟨cProt, 0, p.1⟩

/-- A failure that only says which bytes are still to come is passed on to the operation at hand. -/
def State.unless (s : State) (e : CmdFault) (f : State → State) : State :=
  if isLack e.cause then s.wants (lackVa e.va) (e.cause - 256) e.reason else f s

/-- An attempt that leaves the state as it is where it fails. -/
def tryState (s : State) (x : Except CmdFault State) : State :=
  match x with | .ok t => t | .error e => s.unless e id

/-- Write word 2 of a descriptor: INST, RSTATE, CAUSE, FREASON; DUPDROP stays (R348). -/
def State.setRegionState (s : State) (d : Desc) (inst rstate cause freason : Nat) : State :=
  let s := if rstate = 0 then { s with fab := { s.fab with tampered := s.fab.tampered.filter (· != (d.ctx, d.id)) } } else s
  tryState s (do
    let b ← s.foldRead d (descVa d.id + 16) 8
    let v := fld (inst % 256) 56 + fld rstate 52 + fld (cause % 256) 44 + fld (freason % 16) 32 + leNat b % 2 ^ 32
    s.foldStore d (descVa d.id + 16) (leBytes 8 v))

/-! ### Messages of a region -/

/-- A message for every other member. -/
def State.sendMembers (s : State) (d : Desc) (m : Instr) : State :=
  d.members.foldl (fun s p => if p = s.fab.pkg then s else s.send p m) s

/-- Change the record of a region that the ring sequencers hold. -/
def State.onHeld (s : State) (ctx id : Nat) (f : Region → Region) : State :=
  { s with fab := { s.fab with regions := mapIf (fun r => r.id == id && r.ctx == ctx) f s.fab.regions } }
/-- Drop it, and that of its last instance. -/
def State.unheld (s : State) (ctx id : Nat) : State :=
  { s with fab := { s.fab with
    regions := s.fab.regions.filter fun r => !(r.id == id && r.ctx == ctx)
    past := s.fab.past.filter fun r => !(r.id == id && r.ctx == ctx) } }
/-- The sequencers hold a region. -/
def State.reheld (s : State) (r : Region) : State := { s with fab := { s.fab with regions := s.fab.regions ++ [r] } }

/-- The region and instance of a ring message. -/
def ringOf : Instr → Option (Nat × Nat)
  | .ringPartial id inst .. => some (id, inst)
  | .ringResult id inst .. => some (id, inst)
  | .armed id inst _ => some (id, inst)
  | .done id inst _ => some (id, inst)
  | .fail id inst .. => some (id, inst)
  | .abortAck id inst _ => some (id, inst)
  | _ => none

/-- Messages parked for an instance are discarded. -/
def State.unpark (s : State) (id inst : Nat) : State :=
  { s with fab := { s.fab with parked := s.fab.parked.filter fun m => ringOf m != some (id, inst) } }

/-- An instance is IDLE or FAILED: the sequencers hold it no longer, and remember which kernel armed it (R359, R361). -/
def State.laidDown (s : State) (r : Region) : State :=
  let t := s.unheld r.ctx r.id
  { t with fab := { t.fab with past := t.fab.past ++ [r] } }

/-- The state of a region: word 2 where no ring sequencer holds it, a stored 1 to 3 or 5 counting as FAILED (R348). -/
def State.regionState (s : State) (d : Desc) : Nat :=
  match s.held d.ctx d.id with
  | some _ => d.rstate
  | none => if d.rstate = 0 then 0 else 4

/-- An instance that is ARMED, LOCALDONE or PENDING fails here (R358): FAILED with cause and reason, its partials discarded, FAIL to
every other member where the failure arose here. -/
def State.regionFail (s : State) (d : Desc) (cause reason : Nat) (tell : Bool) : State :=
  if isLack cause then s.wants none (cause - 256) reason
  else match s.held d.ctx d.id with
  | some r =>
      if d.rstate = 1 ∨ d.rstate = 2 ∨ d.rstate = 3 then
        let s := ((s.setRegionState d r.inst 4 cause reason).laidDown r).unpark d.id r.inst
        if tell then s.sendMembers d (.fail d.id r.inst s.fab.pkg cause reason) else s
      else s
  | none => s

/-! ### Arrivals (R350, R351) -/

/-- The results of a region are left open: software has stored to what its descriptor guards (R348, R349; log 8). No fault arises
from that (R6). -/
def State.leftOpen (s : State) (d : Desc) : Bool := s.fab.tampered.contains (d.ctx, d.id)

/-- Bytes of a region's vectors, and the record of a staging tile. -/
def Desc.vec (d : Desc) : Nat := fmtVec d.fmt
def Desc.record (d : Desc) (t : Nat) : Nat := d.at d.recoff (2 * d.vec * t)
/-- The virtual addresses of a staging tile, a result tile, a counter and a mask (R349). -/
def Desc.staging (d : Desc) (t : Nat) : Nat := d.at d.stoff (t * d.size)
def Desc.result (d : Desc) (t : Nat) : Nat := d.at d.resoff (t * d.size)
def Desc.counter (d : Desc) (t : Nat) : Nat := d.at d.cntoff (8 * t)
def Desc.mask (d : Desc) (c : Nat) : Nat := d.at d.mskoff (8 * c)

/-- The arrival mask of a chunk. -/
def State.maskOf (s : State) (d : Desc) (c : Nat) : Except CmdFault Nat := do
  let b ← s.foldRead d (d.mask c) 8
  .ok (leNat b)

/-- A table entry, of the walks that lead to a region's descriptor and masks, that is still to come. -/
def State.regionLacks (s : State) (ctx id : Nat) : Option CmdFault :=
  let lack (e : CmdFault) : Option CmdFault := if isLack e.cause then some e else none
  match s.desc ctx id with
  | .error e => lack e
  | .ok d => (List.range d.nchunk).findSome? fun c => match s.maskOf d c with | .error e => lack e | .ok _ => none

/-- Staging tile `t` arrives: its mask bit is set and its vectors are copied into its record (R350). -/
def State.arrived (s : State) (d : Desc) (t : Nat) : Except CmdFault State := do
  let m ← s.maskOf d (t / d.tpc)
  let v ← s.foldRead d (d.staging t + fmtData d.fmt) d.vec
  let s ← s.foldStore d (d.record t) v
  s.foldStore d (d.mask (t / d.tpc)) (leBytes 8 (m ||| 2 ^ (t % d.tpc)))

/-- A write to staging tile `t` from byte `o` on: performed, or diverted while the tile's bit is set (R350, R351).
The flag says that it was a divergent duplicate. -/
def State.stagingWrite (s : State) (d : Desc) (t o : Nat) (bs : List Byte) : Except CmdFault (State × Bool) := do
  let m ← s.maskOf d (t / d.tpc)
  let last := o + bs.length == d.size
  let vlo := fmtData d.fmt
  let vhi := vlo + d.vec
  if bit m (t % d.tpc) then
    let a := max o vlo
    let b := min (o + bs.length) vhi
    let s ← if a < b then s.foldStore d (d.record t + d.vec + (a - vlo)) ((bs.drop (a - o)).take (b - a)) else .ok s
    if last then
      let x ← s.foldRead d (d.record t) d.vec
      let y ← s.foldRead d (d.record t + d.vec) d.vec
      if s.leftOpen d || vectorsAgree d.fmt d.tol (vecOf d.fmt x) (vecOf d.fmt y) then
        let w ← s.foldRead d (descVa d.id + 16) 8
        let s ← s.foldStore d (descVa d.id + 16) (leBytes 4 (satAdd (leNat w % 2 ^ 32) 1 (2 ^ 32 - 1)))
        .ok (s, false)
      else .ok (s.regionFail d cDiverge 0 true, true)
    else .ok (s, false)
  else
    let s ← s.foldStore d (d.staging t + o) bs
    let st := s.regionState d
    if last && st != 4 && st != 5 then
      let s ← s.arrived d t
      .ok (s, false)
    else .ok (s, false)

/-- The address of a staging tile of the region at which a physical address stands. -/
def State.stagingVa (s : State) (d : Desc) (pa : Nat) : Option Nat :=
  (pagePieces (d.staging 0) (d.nchunk * d.tpc * d.size)).findSome? fun p => match s.peek d.ctx p.1 with
    | .ok x => if x.1 ≤ pa ∧ pa < x.1 + p.2 then some (p.1 + (pa - x.1)) else none
    | .error _ => none

/-- The region of which a physical address stands in a staging tile, in whichever context, and that address there. -/
def State.stagedAt (s : State) (pa : Nat) : Option (Desc × Nat) :=
  (s.crook.ctx.filter fun p => p.2.state != .free).findSome? fun p =>
    (List.range 4095).findSome? fun k => match s.desc p.1 (k + 1) with
      | .ok d => (s.stagingVa d pa).map fun va => (d, va)
      | .error _ => none

/-- A write within one 64-byte line of a staging tile, by the tile's address. -/
def State.stagingLine (s : State) (d : Desc) (va : Nat) (bs : List Byte) : State × Bool :=
  let off := va - d.staging 0
  match s.stagingWrite d (off / d.size) (off % d.size) bs with
  | .ok r => r
  | .error e => (s.regionFail d e.cause e.reason true, false)

/-- A write by a physical address, line by line: to a staging tile or to plain memory. -/
def State.landLines (s : State) (pa : Nat) (bs : List Byte) : Nat → State × Bool
  | 0 => (s, false)
  | k + 1 =>
      if bs.isEmpty then (s, false)
      else
        let n := min bs.length (64 - pa % 64)
        let r := match s.stagedAt pa with
          | some x => s.stagingLine x.1 x.2 (bs.take n)
          | none => (s.storeMem pa (bs.take n), false)
        let q := r.1.landLines (pa + n) (bs.drop n) k
        (q.1, r.2 || q.2)

/-- A write that reaches its home by another way than the region's own addresses: through a host window, or another mapping of a
page of CLASS 2. Every write of a staging tile at its home arrives or is diverted (R350, R351). -/
def State.landAt (s : State) (pa : Nat) (bs : List Byte) : State × Bool := s.landLines pa bs (bs.length / 64 + 2)

/-- A write to a page of CLASS 2, cut at the borders of staging tiles. -/
def State.regionPieces (s : State) (d : Desc) (va pa : Nat) (bs : List Byte) : Nat → Except CmdFault (State × Bool)
  | 0 => .ok (s, false)
  | k + 1 =>
      if bs.isEmpty then .ok (s, false)
      else
        let off : Int := (va : Int) - descVa d.id - d.stoff
        if 0 ≤ off ∧ off < ((d.nchunk * d.tpc * d.size : Nat) : Int) then do
          let t := off.toNat / d.size
          let o := off.toNat % d.size
          let n := min bs.length (d.size - o)
          let r ← s.stagingWrite d t o (bs.take n)
          let q ← r.1.regionPieces d (va + n) (pa + n) (bs.drop n) k
          .ok (q.1, r.2 || q.2)
        else
          let n := if off < 0 then min bs.length (-off).toNat else bs.length
          let r := s.landAt pa (bs.take n)
          (r.1.regionPieces d (va + n) (pa + n) (bs.drop n) k).map fun q => (q.1, r.2 || q.2)

/-- Bytes [va, va + n) hold some of the m bytes from a on. -/
def meets (va n a m : Nat) : Bool := decide (max va a < min (va + n) (a + m))
/-- They hold some of the descriptor's words that software must not store to while the region is not IDLE (R348). -/
def Desc.fixedWords (d : Desc) (va n : Nat) : Bool := meets va n (descVa d.id) 16 || meets va n (descVa d.id + 24) 232
/-- They hold some of an arrival mask or a record, which only the fold logic writes (R349). -/
def Desc.foldWords (d : Desc) (va n : Nat) : Bool :=
  meets va n (d.mask 0) (8 * d.nchunk) || meets va n (d.record 0) (2 * d.vec * (d.nchunk * d.tpc))

/-- The results of a region are left open from now on (R6). -/
def State.ringOpen (s : State) (ctx id : Nat) : State :=
  if (ctx, id) ∈ s.fab.tampered then s else { s with fab := { s.fab with tampered := (ctx, id) :: s.fab.tampered } }

/-- A store that leaves the results of a region open: to its descriptor while it is not IDLE, to a mask or a record in any state
(R348, R349). -/
def State.tampers (s : State) (d : Desc) (va n : Nat) : State :=
  if (s.regionState d ≠ 0 ∧ d.fixedWords va n) ∨ d.foldWords va n then s.ringOpen d.ctx d.id else s

/-- A write to a page of CLASS 2 (R350, R351): with no readable descriptor it is a write by its physical address. A fault of a
region object fails the instance. The flag says that it was a divergent duplicate. -/
def State.regionWrite (s : State) (ctx id va pa : Nat) (bs : List Byte) : State × Bool :=
  match s.desc ctx id with
  | .error e => if isLack e.cause then (s.unless e (fun t => t), false) else s.landAt pa bs
  | .ok d =>
      let s := s.tampers d va bs.length
      match s.regionPieces d va pa bs (bs.length / d.size + 3) with
      | .ok r => r
      | .error e => ((s.storeMem pa bs).regionFail d e.cause e.reason true, false)

end Sys2Proof.Machine
end

