-- ==== Sys2Proof/Machine/Access.lean ====
section
/-! DEFINITION. Accesses of a core to what a handle or an identifier names: the first-level cache (R188, R189), homes
on this package, on others and in the host (R190, R341, R363), non-temporal stores (R198), atomics (R116 to R118). -/

namespace Sys2Proof.Machine

/-! ### Homes (R16, R17, R190, R363) -/

/-- A write reaches its home (R190, R350): memory here or in the host, a reduction region, or another package, to
which a message goes in traffic class `cls` (R341, R346). The answer is the tag of that message, whether the write was a
divergent duplicate (R351), and the state. `id` is the region of a CLASS 2 leaf, 0 where there is none. -/
def State.perform (s : State) (cls ctx id va pa : Nat) (bs : List Byte) : List Nat × Bool × State :=
  if s.remote pa then
    let r := s.newTag (paPkg pa)
    ([r.1], false, r.2.sendIn cls (paPkg pa) (.write pa cls r.1 s.fab.pkg ctx id va bs))
  else if id ≠ 0 then
    let r := s.regionWrite ctx id va pa bs
    ([], r.2, r.1)
  else ([], false, s.storeMem (s.key pa) bs)

/-- The region of a leaf, 0 where it is not of CLASS 2. -/
def leafRing (leaf : Nat) : Nat := if leafClass leaf = 2 then leafRegion leaf else 0

/-- A hole whose answer is to fill a sector that meets some bytes fills it no longer. -/
def Hole.spoilt (h : Hole) (pa n : Nat) : Hole :=
  match h.fill with
  | some f => if f < pa + n ∧ pa < f + 64 then { h with fill := none } else h
  | none => h

/-- Bytes change at their home by what the core or one of its commands does: answers to reads that went out before bring what
stood there, so that they give the results that asked for them and fill no sector with those bytes (R192, R201, R203). -/
def State.spoil (s : State) (pa n : Nat) : State :=
  s.onCore fun c => { c with waiting := c.waiting.map fun w => { w with holes := w.holes.map fun h => h.spoilt pa n } }

/-- A store of the core is performed, in bulk class 0 (log 104); REL, or DRAINNT for a non-temporal store, awaits its acknowledgement from
another package (R195, R199). -/
def State.homeStore (s : State) (leaf va pa : Nat) (bs : List Byte) (nt : Bool) : State :=
  let r := (s.spoil pa bs.length).perform 0 s.core.ctx (leafRing leaf) va pa bs
  r.2.2.onLoc fun l => if nt then { l with remoteNt := l.remoteNt ++ r.1 } else { l with remote := l.remote ++ r.1 }

/-! ### The first-level cache (R188, R189) -/

/-- W, the number of ways. -/
def Core.ways (c : Core) : Nat := c.st.b3 - c.st.b2
/-- The address of the line that holds a byte, and its set. -/
def lineBase (pa : Nat) : Nat := pa / 256 * 256
def lineSet (pa : Nat) : Nat := bits pa 8 7

/-- The line that holds a byte, if it is present. -/
def Store.line (l : Store) (pa : Nat) : Option Line := l.lines.find? (fun x => x.pa == lineBase pa)
/-- Change it. -/
def Store.onLine (l : Store) (pa : Nat) (f : Line → Line) : Store :=
  { l with lines := mapIf (fun x => x.pa == lineBase pa) f l.lines }
/-- Drop it. -/
def Store.dropLine (l : Store) (pa : Nat) : Store := { l with lines := l.lines.filter fun x => x.pa != lineBase pa }

/-- Rising offsets as runs: first offset and length. -/
def runs (l : List Nat) : List (Nat × Nat) :=
  l.foldr (fun o acc => match acc with
    | (b, n) :: t => if o + 1 = b then (o, n + 1) :: t else (o, 1) :: acc
    | [] => [(o, 1)]) []

/-- Write a line's masked bytes back; it stays valid and clean (R189). -/
def State.writeBack (s : State) (x : Line) : State :=
  let s := (runs x.mask).foldl (fun s r => s.homeStore 0 0 (x.pa + r.1) (Sparse.read 0 x.bytes r.1 r.2) false) s
  s.onLoc fun l => l.onLine x.pa fun y => { y with mask := [] }

/-- Write every masked byte back. -/
def State.writeBackAll (s : State) : State := s.core.loc.lines.foldl State.writeBack s

/-- Write everything back and invalidate every line. -/
def State.cleanCache (s : State) : State := s.writeBackAll.onLoc fun l => { l with lines := [] }

/-- Write back and invalidate the line that holds a byte, before an atomic or a non-temporal store (R189). -/
def State.evictLine (s : State) (pa : Nat) : State :=
  match s.core.loc.line pa with
  | some x => (s.writeBack x).onLoc fun l => l.dropLine pa
  | none => s

/-- The oldest of some lines. -/
def oldest (ls : List Line) : Option Line :=
  ls.foldl (fun o x => match o with | some y => if x.age < y.age then some x else o | none => some x) none

/-- The lowest way that no line of a set occupies. -/
def freeWay (n : Nat) (same : List Line) : Option Nat := (List.range n).find? fun w => !same.any fun x => x.way == w

/-- The line of an address is present; a full set gives up its oldest line (log 11). -/
def State.allocate (s : State) (pa : Nat) : State :=
  match s.core.loc.line pa with
  | some _ => s
  | none =>
      let same := s.core.loc.lines.filter fun x => lineSet x.pa == lineSet pa
      let r : Nat × State := match freeWay s.core.ways same with
        | some w => (w, s)
        | none => match oldest same with | some v => (v.way, s.evictLine v.pa) | none => (0, s)
      r.2.onCore fun c =>
        Core.reclaim { c with loc := { c.loc with lines := c.loc.lines ++ [⟨lineBase pa, r.1, 0, [], [], s.core.seq.cyc⟩] } }

/-- The sector of an address is filled with the bytes of its home, keeping masked bytes (R189); a line that has gone
since they were asked for stays away. -/
def State.fillSector (s : State) (pa : Nat) (new : List Byte) : State :=
  let k := bits pa 6 2
  let o := 64 * k
  s.onLoc fun l => l.onLine pa fun x =>
    let keep := x.mask.filter fun m => decide (o ≤ m ∧ m < o + 64)
    let filled := Sparse.write 0 x.bytes o new
    { x with
      sectors := x.sectors ||| BitVec.twoPow 4 k
      bytes := keep.foldl (fun b m => Sparse.set 0 b m (Sparse.get 0 x.bytes m)) filled
      age := s.core.seq.cyc }

/-- The bytes of an access within one sector hit: the sector is filled, or every byte is masked. -/
def Line.hits (x : Line) (pa n : Nat) : Bool :=
  x.sectors.getLsbD (bits pa 6 2) || (List.range n).all fun i => x.mask.contains (pa % 256 + i)

/-- Whether an access uses the first-level cache. -/
def State.cached (s : State) (leaf : Nat) : Bool := leafClass leaf == 0 && decide (0 < s.core.ways)

/-- The base of the sector that holds a byte. -/
def sectorBase (pa : Nat) : Nat := pa / 64 * 64

/-- Bytes written into the cache with their mask bits, within one sector. -/
def State.cacheWrite (s : State) (pa : Nat) (bs : List Byte) : State :=
  (s.allocate pa).onLoc fun l => l.onLine pa fun x =>
    { x with
      bytes := Sparse.write 0 x.bytes (pa % 256) bs
      mask := (List.range bs.length).foldl (fun m i => insertNat (pa % 256 + i) m) x.mask
      age := s.core.seq.cyc }

/-- An engine command's write replaces what the issuing core's cache holds of those bytes (R201). -/
def State.cacheReplace (s : State) (pa : Nat) (bs : List Byte) : State :=
  (s.spoil pa bs.length).onLoc fun l => { l with lines := l.lines.map fun x =>
    let ix := (List.range 256).filter fun o => decide (pa ≤ x.pa + o ∧ x.pa + o < pa + bs.length)
    if ix.isEmpty then x
    else { x with
      bytes := ix.foldl (fun b o => Sparse.set 0 b o (bs.getD (x.pa + o - pa) 0)) x.bytes
      mask := x.mask.filter fun o => !ix.contains o } }

/-- Bytes that a fold unit updates for a command of the core leave its cache, masked ones too (R201). -/
def State.cacheForget (s : State) (pa n : Nat) : State :=
  (s.spoil pa n).onLoc fun l => { l with lines := l.lines.map fun x =>
    let ix := (List.range 256).filter fun o => decide (pa ≤ x.pa + o ∧ x.pa + o < pa + n)
    { x with
      sectors := ix.foldl (fun b o => b &&& ~~~(BitVec.twoPow 4 (o / 64))) x.sectors
      mask := x.mask.filter fun o => !ix.contains o } }

/-- What a command wrote prevails in the core's cache as its token retires (R201): those bytes leave it, masked ones too, so that
the next load takes them from their home, as the command or a write behind it left them (R203). -/
def State.cacheYields (s : State) (ws : List (Nat × Nat)) : State := ws.foldl (fun s w => s.cacheForget w.1 w.2) s

/-! ### Loads and stores (R114, R115, R142) -/

/-- What a load asks another package for (R190): address and length of the request, where in its answer the element starts,
the offsets of the element that the core's own masked stores give (R189), and whether the answer fills a sector. -/
structure Away where
  pa : Nat
  len : Nat
  skip : Nat
  keep : List Nat
  fill : Bool
  deriving DecidableEq, Repr

/-- Where a load finds its bytes: in the pool, in a line of the first-level cache, at a home of this package or of the host
(through a sector of the cache, or not), or in another package. A sector is named as the line of the pool that holds it: its way
is a bank (R187, R188). -/
inductive Path where
  | pool
  | hit (line : Nat)
  | far (line : Option Nat)
  /-- In host memory, whose completion may fail (R363). -/
  | host
  | away (a : Away)
  deriving DecidableEq, Repr

/-- The line of the pool that holds a sector of a cache line (R145, R188). -/
def Core.sectorLine (c : Core) (x : Line) (pa : Nat) : Nat := 512 * (c.st.b2 + x.way) + 4 * lineSet pa + bits pa 6 2

/-- The lines of the pool that a load has used in the first-level cache. -/
def Path.lines : Path → List Nat
  | .hit l => [l]
  | .far (some l) => [l]
  | _ => []

/-- Bytes of the core's pool. -/
def Core.poolBytes (c : Core) (a n : Nat) : List Byte := Sparse.read 0 c.loc.pool a n

/-- Write bytes of the current core's pool. -/
def State.poolWrite (s : State) (a : Nat) (bs : List Byte) : State :=
  s.onLoc fun l => { l with pool := Sparse.write 0 l.pool a bs }

/-- The bytes of a line as they stand. -/
def Store.lineBytes (l : Store) (pa n : Nat) : List Byte :=
  match l.line pa with | some x => Sparse.read 0 x.bytes (pa % 256) n | none => List.replicate n 0

/-- The bytes of an access that a line's write mask covers. -/
def Store.masked (l : Store) (pa n : Nat) : List Nat :=
  match l.line pa with | some x => (List.range n).filter fun i => x.mask.contains (pa % 256 + i) | none => []

/-- Read bytes within one sector through the first-level cache: a miss fills the sector (R189). -/
def State.cacheRead (s : State) (pa n : Nat) : List Byte × Path × State :=
  let hit := match s.core.loc.line pa with | some x => if x.hits pa n then some x else none | none => none
  match hit with
  | some x => (s.core.loc.lineBytes pa n, .hit (s.core.sectorLine x pa), s)
  | none =>
      let s := s.allocate pa
      if s.remote pa then
        (s.core.loc.lineBytes pa n, .away ⟨sectorBase pa, 64, pa % 64, s.core.loc.masked pa n, true⟩, s)
      else
        let s := s.fillSector pa (s.homeBytes (sectorBase pa) 64)
        (s.core.loc.lineBytes pa n, .far ((s.core.loc.line pa).map fun x => s.core.sectorLine x pa), s)

/-- Read the bytes of one element, or of one line of a tile: aligned, within one sector. Bytes that another package has
still to send read as they stand here. -/
def State.loadFrom (s : State) (t : Target) (n : Nat) : List Byte × Path × State :=
  match t with
  | .pool a => (s.core.poolBytes a n, .pool, s)
  | .mem pa leaf _ =>
      if s.cached leaf then s.cacheRead pa n
      else if s.remote pa then (List.replicate n 0, .away ⟨pa, n, 0, [], false⟩, s)
      else (s.homeBytes pa n, if paSpace pa = 1 then .host else .far none, s)

/-- Write the bytes of one element: through the cache, as a non-temporal store, to a reduction page, or at home
(R115, R189, R198, R350). -/
def State.storeTo (s : State) (t : Target) (bs : List Byte) (nt : Bool) : State :=
  match t with
  | .pool a => s.poolWrite a bs
  | .mem pa leaf va =>
      if nt || leafNt leaf then (s.evictLine pa).homeStore leaf va pa bs true
      else if s.cached leaf then s.cacheWrite pa bs
      else s.homeStore leaf va pa bs false

/-- The line of the scratchpad that a target names. -/
def Target.lines : Target → List Nat
  | .pool a => [a / 64]
  | .mem .. => []

/-- The line of the pool that an access has touched: of the scratchpad, or of the first-level cache's storage (R145). -/
def State.linesOf (s : State) : Target → List Nat
  | .pool a => [a / 64]
  | .mem pa leaf _ =>
      if s.cached leaf then (match s.core.loc.line pa with | some x => [s.core.sectorLine x pa] | none => []) else []

/-- A list of numbers without its repeats. -/
def distinct (l : List Nat) : List Nat := l.foldl (fun acc x => if acc.contains x then acc else acc ++ [x]) []

/-- The banks of lines of the pool. -/
def lineBanks (ls : List Nat) : List Nat := distinct (ls.map (· / 512))

/-- An agent uses banks of the pool for some cycles: results of other agents that wait on one of them land late (R145;
log 10). -/
def State.useBanks (s : State) (agent time : Nat) (banks : List Nat) : State :=
  let t := s.core.seq.cyc
  s.onCore fun c => { c with
    waiting := mapIf (fun w => w.eng != agent && w.banks.any banks.contains) (fun w => { w with latest := none }) c.waiting
    loc := { c.loc with uses := c.loc.uses.filter (fun u => decide (t < u.2.2)) ++ banks.map fun b => (agent, b, t + time) } }

/-- The scalar unit has used the bank of a cache line; its accesses of the scratchpad are not among the agents of R145. -/
def State.scalarUse (s : State) (banks : List Nat) : State := if banks.isEmpty then s else s.useBanks 2 8 banks

/-! ### Atomics (R116 to R118, R208) -/

/-- The operation of AMO by its function code, 0 to 8, and of CAS (9) with the value to store in `y` (R70). -/
def amoOp (op : Nat) (old x y : Word) : Word :=
  match op with
  | 0 => old + x
  | 1 => old &&& x
  | 2 => old ||| x
  | 3 => old ^^^ x
  | 4 => if x.slt old then x else old
  | 5 => if old.slt x then x else old
  | 6 => if x.ult old then x else old
  | 7 => if old.ult x then x else old
  | 8 => x
  | _ => if old = x then y else old

/-- An atomic on eight bytes of memory: the old value, and the memory after it (R208). -/
def State.atomicAt (s : State) (pa op : Nat) (x y : Word) : Word × State :=
  let old := w64 (leNat (s.homeBytes pa 8))
  (old, s.storeMem (s.key pa) (leBytes 8 (amoOp op old x y).toNat))

/-- An atomic of the core at a home of this package, of the host, or in the pool: the old value. ADD, SWAP and CAS alone go
to a host page (R118); an atomic whose home is another package is performed there (R208). -/
def State.atomicOn (s : State) (t : Target) (op : Nat) (x y : Word) : Act Word :=
  match t with
  | .pool a =>
      let old := w64 (leNat (s.core.poolBytes a 8))
      .ok old (s.poolWrite a (leBytes 8 (amoOp op old x y).toNat))
  | .mem pa leaf _ =>
      if leafClass leaf = 4 ∧ op ≠ 0 ∧ op ≠ 8 ∧ op ≠ 9 then s.raise cAtomicHost
      else
        let s := (s.evictLine pa).spoil pa 8
        if s.remote pa then .ok 0 s
        else
          let r := s.atomicAt pa op x y
          .ok r.1 r.2

/-! ### Results of loads (R61, R62, R341) -/

/-- The bytes of a load as a 64-bit value. -/
def loaded (signed : Bool) (bs : List Byte) : Word :=
  if signed then BitVec.ofInt 64 (signedOf (8 * bs.length) (leNat bs)) else w64 (leNat bs)

/-- Another agent uses one of some pool banks (R145). -/
def State.contended (s : State) (agent : Nat) (banks : List Nat) : Bool :=
  s.core.loc.uses.any fun u => u.1 != agent && banks.contains u.2.1 && decide (s.core.seq.cyc < u.2.2)

/-- A result that lands `n` cycles after the current one, or, where it is contended, at some time from then on (R61,
R145). -/
def State.nearly (s : State) (n : Nat) (free : Bool) (w : Waiting) : Waiting :=
  let t := s.core.seq.cyc + n
  { w with earliest := t, latest := if free then some t else none }

/-- A request goes to another package, and its answer fills `size` bytes of the result for G number `g`. -/
def State.deliverAway (s : State) (g size : Nat) (signed : Bool) (v : Word) (dest : Nat) (h : Hole) (req : Nat → Instr) :
    State :=
  let r := s.core.phys g
  let t := (s.emptyG g).newTag dest
  (t.2.send dest (req t.1)).awaits
    { dst := [.g r v true], holes := [{ h with tag := t.1 }], size := size, signed := signed }

/-- A scalar load's result (R61, R145). -/
def State.deliver (s : State) (g : Nat) (bs : List Byte) (p : Path) (signed : Bool) : State :=
  let d := Dest.g (s.core.phys g) (loaded signed bs) true
  match p with
  | .pool => (s.emptyG g).awaits (s.nearly 8 true { dst := [d] })
  | .hit l => ((s.emptyG g).scalarUse [l / 512]).awaits (s.nearly 8 (!s.contended 2 [l / 512]) { dst := [d], banks := [l / 512] })
  | .far l => ((s.emptyG g).scalarUse (lineBanks l.toList)).awaits { dst := [d] }
  | .host => (s.emptyG g).awaits { dst := [d], host := true }
  | .away a =>
      s.deliverAway g bs.length signed (loaded signed bs) (paPkg a.pa)
        { tag := 0, off := 0, len := bs.length, skip := a.skip, keep := a.keep, fill := if a.fill then some a.pa else none }
        fun tag => .readRequest a.pa a.len tag s.fab.pkg

/-- An atomic's result: `old`, or what the answer of the home brings. -/
def State.deliverAtomic (s : State) (g : Nat) (t : Target) (old : Word) (op : Nat) (x y : Word) : State :=
  if (match t with | .mem pa _ _ => s.remote pa | .pool _ => false) then
    s.deliverAway g 8 false 0 (paPkg t.pa) { tag := 0, off := 0, len := 8 }
      fun tag => .atomic t.pa op tag s.fab.pkg x y
  else (s.emptyG g).awaits { dst := [.g (s.core.phys g) old true], host := (match t with | .mem pa _ _ => paSpace pa == 1 | .pool _ => false) }

end Sys2Proof.Machine
end

