-- ==== Sys2Proof/Machine/Trace.lean ====
section
/-! DEFINITION. Free values (log 8) and the trace ring of a core (R376, R377). -/

namespace Sys2Proof.Machine

/-- Tracing is on (R376). -/
def Debug.tracing (d : Debug) : Bool := decide (7 ≤ d.tlog ∧ d.tlog ≤ 20)

/-- The physical address of trace record i (R376). -/
def Debug.recordAt (d : Debug) (i : Nat) : Nat :=
  let size := 32 * 2 ^ d.tlog
  fld d.trbase 12 / size * size + 32 * (i % 2 ^ d.tlog)

/-- Write a record into the trace ring of the current core (R377); one that cannot be written is dropped. One for another package
is awaited with the core's stores (R206). With a BASE whose
SPACE is not 0, which R376 forbids with no fate stated, HEAD and TRDROP take free values (R5, R6; log 8). -/
def State.record (s : State) (ws : List Nat) : State :=
  let d := s.core.dbg
  if !d.tracing then s
  else
    let a := d.recordAt d.head
    let s := s.onDbg fun d => { d with head := (d.head + 1) % 2 ^ 32 }
    if paSpace a ≠ 0 then
      let r := s.draws 2
      r.2.onDbg fun d => { d with head := r.1.getD 0 0 % 2 ^ 32, trdrop := r.1.getD 1 0 % 2 ^ 32 }
    else if s.paFault a = none then
      let r := s.perform 0 s.core.ctx 0 0 a (ws.flatMap (leBytes 8))
      r.2.2.onLoc fun l => { l with remote := l.remote ++ r.1 }
    else s.onDbg fun d => { d with trdrop := satAdd d.trdrop 1 (2 ^ 32 - 1) }

/-- Word 0 of a record: KIND, the core, the field of the kind, PC. -/
def recordHead (kind core mid pc : Nat) : Nat := fld kind 60 + fld core 52 + fld (mid % 2 ^ 20) 32 + pc % 2 ^ 32

/-- The loop id and the iteration of a record (R377). -/
def Loops.traceLoop (l : Loops) : Nat × Nat :=
  if l.pv then ((l.set l.ps).beg, l.litr.toNat)
  else if l.l0.act && l.l1.act then ((l.set l.inner).beg, (l.set l.inner).cnt)
  else if l.l0.act then (l.l0.beg, l.l0.cnt)
  else if l.l1.act then (l.l1.beg, l.l1.cnt)
  else (0xFFFFFFFF, 0)

/-- The task start record, KIND 1, where TASK asks for it. -/
def State.recordStart (s : State) (asked : Bool) (t : Task) (entry lrec : Nat) : State :=
  if asked then s.record [recordHead 1 s.core.id t.ctx entry, s.dtb, t.idx % 2 ^ 32, lrec] else s

/-- The task end record, KIND 2: how it ended, and the status or cause. The bundle that a cause ended at monitor entry stands in
MPC. -/
def State.recordEnd (s : State) (t : Task) (how code : Nat) : State :=
  let pc := if how = 2 ∧ s.core.tr.mlvl then s.core.tr.mpc.toNat else s.core.seq.pc
  if s.core.dbg.task then
    s.record [recordHead 2 s.core.id (fld how 16 + code % 2 ^ 16) pc, s.dtb, t.idx % 2 ^ 32,
      wrapTo 64 (s.core.seq.cyc - t.born)]
  else s

/-- HOLD of a sample (R378). -/
def Issue.holdCode : Issue → Nat
  | .held (.flag _ _) => 1
  | .held (.tokenAny _) => 1
  | .held (.tokenAll _) => 1
  | .held (.barrierArrive _) => 1
  | .held (.barrierWait _) => 1
  | .held (.counter _) => 1
  | .held (.region _) => 1
  | .held (.wadd _) => 1
  | .held .release => 1
  | .held .drainNt => 1
  | .held .acquire => 1
  | .held (.emptyG _) => 2
  | .held (.emptyV _) => 2
  | .held (.queue _) => 3
  | .held (.engine _) => 4
  | .held (.segment _) => 5
  | .held .table => 5
  | .held .exit => 6
  | .held .spill => 7
  | .held (.remote ..) => 5
  | _ => 0

/-- A sample record, KIND 3 (R378). -/
def State.recordSample (s : State) : State :=
  let l := s.core.lp
  let r := l.traceLoop
  s.record [recordHead 3 s.core.id (fld s.core.seq.last.holdCode 16) s.core.seq.pc, s.dtb, fld r.1 32 + r.2 % 2 ^ 32,
    fld l.sv.toNat 32 + s.core.seq.cyc % 2 ^ 32]

/-- A stop record, KIND 4 (R377, R384). -/
def State.recordStop (s : State) (reason : Nat) : State :=
  let l := s.core.lp
  let r := l.traceLoop
  let cnt := if l.pv then (l.set l.ps).cnt else if r.1 = 0xFFFFFFFF then 0 else r.2
  s.record [recordHead 4 s.core.id (fld reason 16) s.core.seq.pc, s.dtb, fld r.1 32 + l.litr.toNat % 2 ^ 32,
    fld l.lstg 60 + fld l.rrb 48 + flg l.pv 47 + fld l.sv.toNat 32 + cnt % 2 ^ 32]

/-- Request a stop with the REASON its record will carry (R380, R384). -/
def Core.askStop (c : Core) (reason : Nat) : Core :=
  if c.dbg.stop then c
  else { c with dbg := { c.dbg with stop := true, asked := c.seq.cyc, reason := reason } }

/-- The cycles of a product in which a started step waited for operands: those since its start that were neither FILL nor
COMPUTE (R379). -/
def Cmd.operandCycles (c : Cmd) : Nat := c.cycles.getD 2 0 - (c.cycles.getD 0 0 + c.cycles.getD 1 0)

/-- An array cycle record, KIND 5 (R379). -/
def State.recordArray (s : State) (c : Cmd) (op z : Nat) : State :=
  if s.core.dbg.acyc then
    s.record [recordHead 5 s.core.id (fld op 13 + fld z 9) c.pc, fld (c.cycles.getD 0 0) 32 + c.cycles.getD 1 0,
      fld (c.cycles.getD 3 0) 32 + c.operandCycles, c.cycles.getD 4 0]
  else s

end Sys2Proof.Machine
end

