-- ==== Sys2Proof/Machine/Engine.lean ====
section
/-! DEFINITION. What the engines share: memory as a command reaches it (R153, R201, R230), tiles as it reads and writes
them (R161, R174, R233 to R249), issue checks (R149, R151, R161, R174). -/

namespace Sys2Proof.Machine

/-- A step of a command on its core: the command and the state change, and a fault leaves both as they stand
(R152). -/
abbrev Eng := EStateM CmdFault (Cmd × State)

/-- The state. -/
def engS : Eng State := do return (← get).2
/-- The command. -/
def engC : Eng Cmd := do return (← get).1
/-- Change the state. -/
def engOn (f : State → State) : Eng Unit := modify fun x => (x.1, f x.2)
/-- Change the command. -/
def engCmd (f : Cmd → Cmd) : Eng Unit := modify fun x => (f x.1, x.2)
/-- A fault (R152). -/
def engFault {α : Type} (cause reason va : Nat) : Eng α := throw ⟨cause, reason, va⟩
/-- An operation of the core as a step of the command: its trap is a fault. -/
def engAct {α : Type} (f : State → Act α) : Eng α := fun x =>
  match f x.2 with
  | .ok a s => .ok a (x.1, s)
  | .trap t s => .error ⟨t.cause, bits t.info 28 4, t.addr⟩ (x.1, s)
  | .hold (.remote va pa n) s => .error (lacks va pa n) (x.1, s)
  | .hold _ s => .error ⟨cProt, 0, 0⟩ (x.1, s)

/-! ### Translation (R218, R230) -/

/-- The walker of the command holds a translation. -/
def engHold (x : Xlation) : Eng Unit := engCmd fun c => { c with pages := x :: c.pages.filter (· != x) }

/-- The translation of a page that the command holds no longer, or that denies the access: a re-walk, with the
comparison of R226 where it has expired. -/
def engRewalk (old : Xlation) (expired : Bool) (va : Nat) (u : Use) : Eng Xlation := do
  let x ← engAct fun s => s.walkFor s.core.ctx va
  if expired && leafRevokes old.leaf.toNat x.leaf.toNat then engFault cXlat 2 va
  else
    engCmd fun c => { c with pages := c.pages.filter (· != old), prev := c.prev.filter (· != old) }
    engOn fun s => s.cacheXlation x false
    engHold x
    if leafPermits u x.leaf.toNat then return x else engFault cProt 0 va

/-- The translation a command uses at an address. -/
def engXlate (va : Nat) (u : Use) : Eng Xlation := do
  let c ← engC
  let s ← engS
  match (c.pages ++ c.prev).find? (fun x => x.covers s.core.ctx va) with
  | some x =>
      if s.live x && leafPermits u x.leaf.toNat then
        engHold x
        return x
      else engRewalk x (!s.live x) va u
  | none =>
      let x ← engAct fun s => s.translate s.core.ctx va u false
      engHold x
      return x

/-- The physical address of a virtual one, with its leaf. -/
def engPa (va : Nat) (u : Use) : Eng (Nat × Nat) := do
  if 2 ^ 52 ≤ va then engFault cProt 0 va
  else
    let x ← engXlate va u
    let pa := x.pa va
    let s ← engS
    match s.paFault pa with
    | some r => engFault cProt r va
    | none => return (pa, x.leaf.toNat)

/-! ### Bytes -/

/-- A copy command with a source and a destination, whose bytes may overlap (R174). -/
def Cmd.copies (c : Cmd) : Bool :=
  match c.instr with
  | .cpy .. => true
  | .cpy2 .. => true
  | .ctile .. => true
  | .cxpose .. => true
  | .cconv .. => true
  | .csend .. => true
  | .cgath .. => true
  | .coptmSgdm .. => true
  | .coptmAdam .. => true
  | .csparsePack .. => true
  | .csparseUnpack .. => true
  | _ => false

/-- A copy command has read, or written, these bytes. -/
def engHasRead (x : Span) : Eng Unit := engCmd fun c => if c.copies then { c with src := c.src ++ [x] } else c
def engHasWritten (x : Span) : Eng Unit := engCmd fun c => if c.copies then { c with dst := c.dst ++ [x] } else c
/-- Bytes of the pool. -/
def poolSpan (a n : Nat) : Span := { pool := true, va := a, pa := a, leaf := 0, len := n }
/-- Reads of what a command updates: they make it no source. -/
def engAside {α : Type} (m : Eng α) : Eng α := do
  let c ← engC
  let r ← m
  engCmd fun d => { d with src := c.src }
  return r

/-- The bytes of `d` that lie in `x` too. -/
def Span.common (d x : Span) : Option Span :=
  let lo := max d.pa x.pa
  let hi := min (d.pa + d.len) (x.pa + x.len)
  if d.pool = x.pool ∧ lo < hi then some { d with va := d.va + (lo - d.pa), pa := lo, len := hi - lo } else none
/-- The destination bytes of a copy command that are source bytes too (R174). -/
def Cmd.overlap (c : Cmd) : List Span := c.dst.flatMap fun d => c.src.filterMap d.common

/-- Bytes of memory at a physical address (R190). -/
def engFetch (pa n : Nat) : Eng (List Byte) := do
  match (← engS).fetched pa n with
  | .ok bs => return bs
  | .error e => throw e

/-- The traffic class of a copy command, the TC field of its word (R74, R346); 0, bulk, for an M command (log 104). -/
def Cmd.tc (c : Cmd) : Nat :=
  match c.instr with
  | .cpy _ _ _ _ c _ => c.toNat
  | .cpy2 _ _ _ _ c _ => c.toNat
  | .ctile _ _ _ _ c _ _ => c.toNat
  | .cxpose _ _ _ _ c _ _ => c.toNat
  | .cconv _ _ _ _ c _ _ => c.toNat
  | .csend _ _ _ c _ => c.toNat
  | .cfill _ _ _ c _ _ => c.toNat
  | .cgath _ _ _ _ c _ _ => c.toNat
  | .cpref _ _ _ c => c.toNat
  | .cprefL1 _ _ _ c => c.toNat
  | .coptmSgdm _ _ _ _ c _ _ => c.toNat
  | .coptmAdam _ _ _ _ c _ _ => c.toNat
  | .csparsePack _ _ _ _ c _ => c.toNat
  | .csparseUnpack _ _ _ _ c _ => c.toNat
  | .hgfold _ _ c _ => c.toNat
  | .hgfoldAdd _ _ c _ => c.toNat
  | _ => 0

/-- Read bytes: of the pool, or of memory. -/
def engRead (pool : Bool) (a n : Nat) : Eng (List Byte) := do
  if pool then
    engHasRead (poolSpan a n)
    return (← engS).core.poolBytes a n
  else
    (pagePieces a n).foldlM (fun acc p => do
      let x ← engPa p.1 .gather
      engHasRead { pool := false, va := p.1, pa := x.1, leaf := x.2, len := p.2 }
      let bs ← engFetch x.1 p.2
      return acc ++ bs) []

/-- Write bytes of memory at a physical address: performed at home, replacing what the core's cache holds (R201); a
divergent duplicate faults the command (R351). -/
def engPerform (va pa leaf : Nat) (bs : List Byte) : Eng Unit := do
  engHasWritten { pool := false, va := va, pa := pa, leaf := leaf, len := bs.length }
  let c ← engC
  let s ← engS
  let r := s.perform c.tc s.core.ctx (leafRing leaf) va pa bs
  engOn fun _ => r.2.2.cacheReplace pa bs
  engCmd fun c => { c with tags := c.tags ++ r.1, wrote := c.wrote ++ [(pa, bs.length)] }
  if r.2.1 then engFault cDiverge 0 va else return ()

/-- Write bytes: of the pool, or of memory with the permission `u`. -/
def engWrite (pool : Bool) (a : Nat) (bs : List Byte) (u : Use) : Eng Unit := do
  if pool then
    engHasWritten (poolSpan a bs.length)
    engOn fun s => s.poolWrite a bs
  else
    (pagePieces a bs.length).foldlM (fun _ p => do
      let x ← engPa p.1 u
      engPerform p.1 x.1 x.2 ((bs.drop (p.1 - a)).take p.2)) ()

/-! ### Tiles (R146, R161, R233 to R235) -/

/-- Bytes of a tile cut at its 64-byte lines: offset and bytes. -/
def tileLines (o : Nat) (bs : List Byte) : Nat → List (Nat × List Byte)
  | 0 => []
  | k + 1 =>
      if bs.isEmpty then []
      else
        let m := min bs.length (64 - o % 64)
        (o, bs.take m) :: tileLines (o + m) (bs.drop m) k

/-- The pool bytes o to o + n − 1 of a stored pool tile. -/
def TidWords.poolSpans (t : TidWords) (i j o n : Nat) : List Span :=
  if t.swz then
    (tileLines o (List.replicate n 0) (n / 64 + 2)).map fun p => poolSpan (poolByte t.fmt true (t.tile i j) p.1) p.2.length
  else [poolSpan (t.tile i j + o) n]

/-- Bytes o to o + n − 1 of a stored tile. -/
def engTileRead (t : TidWords) (i j o n : Nat) : Eng (List Byte) := do
  if t.pool then
    (t.poolSpans i j o n).forM engHasRead
    return (← engS).core.poolTile t.fmt t.swz (t.tile i j) o n
  else engRead false (t.tile i j + o) n

/-- Write bytes of a stored tile from offset o on. -/
def engTileWrite (t : TidWords) (i j o : Nat) (bs : List Byte) : Eng Unit := do
  if t.pool && t.swz then
    (t.poolSpans i j o bs.length).forM engHasWritten
    engOn fun s => (tileLines o bs (bs.length / 64 + 2)).foldl (fun s p =>
      s.poolWrite (poolByte t.fmt true (t.tile i j) p.1) p.2) s
  else engWrite t.pool (t.tile i j + o) bs (if t.chk then .tileWrite else .write)

/-- A stored tile as a command reads it: codes and scale bytes as stored, vectors, and the header's bytes. -/
structure Raw where
  codes : List Nat
  scales : List Nat
  vec : List Nat
  head : List Byte

/-- Read a stored tile: its data, and its vectors and header where asked. -/
def engTile (t : TidWords) (i j : Nat) (checks : Bool) : Eng Raw := do
  let d ← engTileRead t i j 0 (fmtData t.fmt)
  let sc ← if fmtBlock t.fmt then engRead t.pool (t.scales i j) 128 else pure []
  let q ← if checks && t.chk then engTileRead t i j (fmtData t.fmt) (fmtVec t.fmt + 64) else pure []
  return { codes := unpackCodes t.fmt d, scales := sc.map BitVec.toNat, vec := vecOf t.fmt (q.take (fmtVec t.fmt)),
           head := q.drop (fmtVec t.fmt) }

/-- The values of a stored tile, in stored order. -/
def TidWords.nums (t : TidWords) (codes scales : List Nat) : List Num := tileNums t.fmt t.ag scales codes

/-- Stored order to view order, or back (R161). -/
def TidWords.view {α : Type} (t : TidWords) (l : List α) : List α := if t.ord then transposed l else l

/-- Write a stored tile: scale bytes, data, and the vectors and header last (R350). -/
def engTileStore (t : TidWords) (i j : Nat) (codes scales : List Nat) (tail : List Byte) : Eng Unit := do
  let u : Use := if t.chk then .tileWrite else .write
  if fmtBlock t.fmt then engWrite t.pool (t.scales i j) (scales.map (BitVec.ofNat 8)) u
  engTileWrite t i j 0 (packCodes t.fmt codes)
  if t.chk then engTileWrite t i j (fmtData t.fmt) tail

/-! ### The error record (R247, R248) -/

/-- An entry of the die's log. -/
structure LogEntry where
  kind : Nat
  cluster : Nat := 0
  core : Nat := 0
  obj : Nat := 0
  lock : Nat := 0
  locr : Nat := 0
  locc : Nat := 0
  i : Nat := 0
  j : Nat := 0
  rep : Bool := false
  deriving DecidableEq, Repr

/-- The word of an entry (R248). -/
def LogEntry.word (e : LogEntry) : Nat :=
  fld e.kind 60 + fld e.cluster 54 + fld e.core 46 + fld e.obj 40 + fld e.lock 38 + fld e.locr 29 + fld e.locc 20 +
    fld e.i 14 + fld e.j 8 + flg e.rep 7

/-- Count an outcome on die d: 1 corrected, 2 regenerated, 3 TILE_CHECK (R247). -/
def State.count (s : State) (d k : Nat) : State :=
  s.onDie d fun x =>
    if k = 1 then { x with corr := satAdd x.corr 1 (2 ^ 32 - 1) }
    else if k = 2 then { x with regen := satAdd x.regen 1 (2 ^ 32 - 1) }
    else { x with tchk := satAdd x.tchk 1 (2 ^ 32 - 1) }

/-- The locations of an array agree: an MRSA PE on its row or its column (R241). -/
def Loc.meets : Loc → Loc → Bool
  | .column a, .column b => a == b
  | .row a, .row b => a == b
  | .pe i j, .pe k l => i == k || j == l
  | .pe i _, .row k => i == k
  | .pe _ j, .column l => j == l
  | .row k, .pe i _ => i == k
  | .column l, .pe _ j => j == l
  | _, _ => false

/-- Log an event at an array location, or at none: one that meets the history is lasting and asks for a repair, any
other joins the history of the last 16, in which an entry stands for 2^36 ns (R241, R242). -/
def State.logAt (s : State) (e : LogEntry) (loc : Option Loc) : State :=
  let k := clusterOf s.core.id
  let d := dieOf s.core.id
  let e := { e with cluster := k, core := s.core.id }
  match loc with
  | none => s.logWord d e.word
  | some l =>
      let e := match l with
        | .column j => { e with lock := 1, locc := j }
        | .row i => { e with lock := 2, locr := i }
        | .pe i j => { e with lock := 3, locr := i, locc := j }
      if (s.cluster k).hist.any fun h => h.1.meets l && decide (s.dtb < h.2 + 2 ^ 36) then
        (s.logWord d { e with rep := true }.word).onCluster k fun c => { c with repair := some l }
      else (s.logWord d e.word).onCluster k fun c => { c with hist := ((l, s.dtb) :: c.hist).take 16 }

/-! ### Verification (R175, R237, R243) -/

/-- A tile after its stored comparison (R237, R238): as it is to be used, with CORR and NF. `reason` is the TINFO
reason of a TILE_CHECK. A foreign FMT faults OPFMT. -/
structure Checked where
  raw : Raw
  total : Nat
  corr : Bool
  nf : Bool

/-- Make the stored comparison of a tile that was read with its vectors. -/
def engVerify (t : TidWords) (r : Raw) (reason : Nat) : Eng Checked := do
  let h := Header.ofBytes r.head
  if h.fmt ≠ t.fmt then engFault cOpfmt 0 0
  else
    let v := verifyTile t.fmt t.ag t.tol r.scales r.codes r.vec h.total (headerDirty r.head)
    let e : LogEntry := { kind := 3 + v.kind, obj := t.tid, i := v.i, j := v.j }
    if v.kind = 0 then return { raw := r, total := h.total, corr := false, nf := v.nf }
    else
      let d := dieOf (← engS).core.id
      engOn fun s => (s.count d v.kind).logAt e none
      if v.kind = 3 then engFault cTile reason 0
      else return { raw := { r with codes := v.codes, vec := v.vec }, total := v.total, corr := true, nf := v.nf }

/-! ### Products (R44, R45) -/

/-- One element of a product: the terms of a row and a column added in ascending k, each rounded in the
accumulator. -/
def mac (g : Fmt) (z : Nat) (a b : List Num) : Nat :=
  (a.zip b).foldl (fun z p => (((g.decode z).add (p.1.mul p.2).1).1.rne g).1) z

/-- The same for INT8: modulo 2^32. -/
def macInt (z : Nat) (a b : List Num) : Nat := wrapTo 32 ((a.zip b).foldl (fun (z : Int) p => z + p.1.int * p.2.int) z)

/-! ### Views (R161) -/

/-- A view tile block from (i, j), ni down and nj across, lies in the bounds of the view. -/
def TidWords.holds (t : TidWords) (i j ni nj : Nat) : Bool :=
  decide (i + ni ≤ t.viewRows) && decide (j + nj ≤ t.viewCols)

/-- The bytes of a pool tile, with its scale bytes, lie in the scratchpad; `size` from its start. -/
def Core.holdsTile (c : Core) (t : TidWords) (i j size : Nat) : Bool :=
  !t.pool || (c.tileFits t.fmt t.swz (t.tile i j) size && (!fmtBlock t.fmt || c.inPool (t.scales i j) 128))

/-- Every tile of a view block lies in the scratchpad. Of linear tiles the corners decide, since pitches are not negative;
the slots of swizzled tiles follow no order (R235). -/
def Core.holdsBlock (c : Core) (t : TidWords) (i j ni nj size : Nat) : Bool :=
  let ok (p : Nat × Nat) : Bool :=
    let q := t.stored p.1 p.2
    c.holdsTile t q.1 q.2 size
  if t.swz then (List.range ni).all fun a => (List.range nj).all fun b => ok (i + a, j + b)
  else [(i, j), (i + ni - 1, j), (i, j + nj - 1), (i + ni - 1, j + nj - 1)].all ok

/-- The format checks of a view operand: ORD = 1 takes a pool tile with SWZ = 1 of 8 bits or more, and SWZ = 1 takes
the pool (R161). -/
def TidWords.viewable (t : TidWords) : Bool :=
  !(t.ord && (fmtBits t.fmt == 4 || !(t.pool && t.swz))) && !(t.swz && !t.pool)

/-- The PROT checks of a view block at issue (R161, R174): bounds, then the pool. -/
def State.blockCheck (s : State) (t : TidWords) (i j ni nj : Nat) : Res :=
  if !t.holds i j ni nj then s.raiseWhy cProt 0
  else if !s.core.holdsBlock t i j ni nj t.size then s.raiseWhy cProt 4
  else s.ok

/-! ### Queues (R149) -/

/-- The commands of a queue: 0 M, 1 C0, 2 C1. -/
def Engines.queue (g : Engines) (q : Nat) : List Cmd := if q = 0 then g.qm else if q = 1 then g.q0 else g.q1
/-- Change a queue. -/
def Engines.onQueue (g : Engines) (q : Nat) (f : List Cmd → List Cmd) : Engines :=
  if q = 0 then { g with qm := f g.qm } else if q = 1 then { g with q0 := f g.q0 } else { g with q1 := f g.q1 }

/-- Commands of a queue that have not started. -/
def Engines.waiting (g : Engines) (q : Nat) : Nat := ((g.queue q).filter fun c => !c.started).length

/-- The staging registers of engine `eng`: 0 XC, 1 XD, 2 XM. -/
def Core.staged (c : Core) (eng : Nat) : List Word := Sparse.read 0 c.st.x (8 * eng) 8

/-- A command enters its queue, as `add` puts it there: it produces its token, waits for those it consumes that are still
outstanding, and inherits the fault of one that has retired faulted (R150 to R152). It follows the core's own stores that other
packages have still to perform, whatever their class: a REL or ACQ between them asks for no less (R201; log 114). -/
def State.enqueueBy (s : State) (add : Engines → Cmd → Engines) (c : Cmd) : Res :=
  let known := c.uses.findSome? fun u => if (s.core.token u.1).out then none else (s.core.token u.1).flt
  let uses := c.uses.filter fun u => (s.core.token u.1).out
  (s.produce c.tok).bind fun _ s => (s.onEng fun g =>
    add g { c with uses := uses, fault := known, after := s.core.loc.remote ++ s.core.loc.remoteNt }).ok

/-- The same at the end of queue q. -/
def State.enqueue (s : State) (q : Nat) (c : Cmd) : Res :=
  s.enqueueBy (fun g c => g.onQueue q fun l => l ++ [c]) c

end Sys2Proof.Machine
end

