-- ==== Sys2Proof/Machine/Vector.lean ====
section
/-! DEFINITION. The V slots without memory (R124 to R140): modes, element-wise arithmetic, estimates, compares, scalar
operands, conversion, permutes, reductions, partition. -/

namespace Sys2Proof.Machine

/-! ### Elements, beats and landing (R124, R125) -/

/-- Elements of `w` bytes from a list of bytes. -/
def elemsOf (w : Nat) (bs : List Byte) : Nat → List Nat
  | 0 => []
  | n + 1 => leNat (bs.take w) :: elemsOf w (bs.drop w) n

/-- Elements 0 … n − 1 of a vector register as the program names it (R125). -/
def State.elems (s : State) (v w n : Nat) : List Nat := elemsOf w (s.core.vbytes (s.core.vphys v) 0 (w * n)) n

/-- Lanes of an element width in bytes; the last argument asks for those of VDIV and VSQRT (R124). -/
def lanes (w : Nat) (slow : Bool) : Nat := (if w = 1 then 1024 else if w = 2 then 512 else 256) / (if slow then 4 else 1)

/-- Beats of an instruction (R124). -/
def beats (vl w : Nat) (slow : Bool) : Nat := max 1 ((vl + lanes w slow - 1) / lanes w slow)

/-- The engine is occupied for `n` cycles from issue (R124). -/
def State.occupy (s : State) (e n : Nat) : State :=
  s.onVec fun v => v.onEngine e fun x => { x with busy := s.core.seq.cyc + n }

/-- Bytes of a vector register written at a latency; no bytes write nothing (R125). -/
def State.writeV (s : State) (lat e v off : Nat) (bs : List Byte) : State :=
  if bs.isEmpty then s else s.later lat (.v (s.core.vphys v) off bs false e)

/-- The engine's bits of a list of results. -/
def allFlags (rs : List (Nat × FFlags)) : FFlags := rs.foldl (fun f r => f ||| r.2) 0

/-- An element-wise result: occupancy, landing, exception bits (R124, R125, R126). -/
def State.finish (s : State) (e : BitVec 1) (n : Nat) (v w : Nat) (rs : List (Nat × FFlags)) : State :=
  ((s.occupy e.toNat n).writeV (3 + n) e.toNat v 0 (rs.flatMap fun r => leBytes w r.1)).raiseFlags (3 + n) e.toNat
    (allFlags rs)

/-- The engine's mode. -/
def State.mode (s : State) (e : BitVec 1) : VEngine := s.core.engine e.toNat

/-- An element operation on codes of type `t`: of va[k], vb[k] and vd[k]; none where the type has none. -/
abbrev ElemOp := Nat → Option (Nat → Nat → Nat → Nat × FFlags)

/-- An exact result rounded once in RNE, with the operation's own bits (R51, R129). -/
def roundIn (f : Fmt) (x : Num × FFlags) : Nat × FFlags :=
  let r := x.1.rne f
  (r.1, r.2 ||| x.2)

/-- A floating operation of two or three operands, or an integer one at the type's width. -/
def arith (fl : Num → Num → Num → Num × FFlags) (int : Option (Nat → Int → Int → Int → Int)) : ElemOp := fun t =>
  match typeFmt t with
  | some f => some fun a b d => roundIn f (fl (f.decode a) (f.decode b) (f.decode d))
  | none =>
      let n := 8 * typeBytes t
      int.map fun g a b d => (wrapTo n (g n (signedOf n a) (signedOf n b) (signedOf n d)), 0)

/-- A bit operation of any type. -/
def bitwise (g : Nat → Nat → Nat) : ElemOp := fun _ => some fun a b _ => (g a b, 0)

/-- A shift, of integer types only. -/
def shift (g : Nat → Nat → Nat → Nat) : ElemOp := fun t =>
  if t < 4 then
    let n := 8 * typeBytes t
    some fun a b _ => (g n a (b % n) % 2 ^ n, 0)
  else none

/-- A compare: all ones or all zeros (R131). -/
def compareOp (r : Rel) (int : Int → Int → Bool) : ElemOp := fun t =>
  let n := 8 * typeBytes t
  let ones (b : Bool) := if b then 2 ^ n - 1 else 0
  match typeFmt t with
  | some f => some fun a b _ =>
      let x := (f.decode a).rel r (f.decode b)
      (ones x.1, x.2)
  | none => some fun a b _ => (ones (int (signedOf n a) (signedOf n b)), 0)

/-- An estimate, of floating types only (R130). -/
def estimate (g : Num → Num × FFlags) : ElemOp := fun t => (typeFmt t).map fun f a _ _ => roundIn f (g (f.decode a))

/-- Three lists of operands in step. -/
def zip3 (f : Nat → Nat → Nat → Nat × FFlags) : List Nat → List Nat → List Nat → List (Nat × FFlags)
  | a :: as, b :: bs, d :: ds => f a b d :: zip3 f as bs ds
  | _, _, _ => []

/-- The element-wise form of R129 and R131: `src` are the registers read; a type without the operation traps
OPFMT. -/
def vform (slow : Bool) (op : ElemOp) (e : BitVec 1) (w : Bool) (d a b : BitVec 8) (src : List (BitVec 8)) (s : State) :
    Res :=
  s.vready e w [] (src.map BitVec.toNat) [d.toNat] fun s =>
    let m := s.mode e
    match op m.type with
    | none => s.raise cOpfmt
    | some f =>
        let k := typeBytes m.type
        (s.finish e (beats m.vl k slow) d.toNat k
          (zip3 f (s.elems a.toNat k m.vl) (s.elems b.toNat k m.vl) (s.elems d.toNat k m.vl))).ok

/-- Two operands. -/
def vbin (op : ElemOp) (e : BitVec 1) (w : Bool) (d a b : BitVec 8) (s : State) : Res := vform false op e w d a b [a, b] s
/-- Two operands and the destination. -/
def vtern (op : ElemOp) (e : BitVec 1) (w : Bool) (d a b : BitVec 8) (s : State) : Res :=
  vform false op e w d a b [a, b, d] s
/-- One operand. -/
def vun (op : ElemOp) (e : BitVec 1) (w : Bool) (d a : BitVec 8) (s : State) : Res := vform false op e w d a a [a] s

/-- Quotient at width n: toward zero; −1 for a divisor of 0 (R104, R105). -/
def divInt (_n : Nat) (a b _d : Int) : Int := if b = 0 then -1 else a.tdiv b

/-! ### Modes (R128) -/

/-- VSETM (R128): FL and K4T stay. -/
def execVsetm (e : BitVec 1) (w : Bool) (t : BitVec 4) (m : BitVec 3) (s : BitVec 1) (b : BitVec 5) (st : State) :
    Host.Outcome State Fault Refusal :=
  settle (2 + e.toNat) (st.vready e w [b] [] [] fun st =>
    let n := min (st.gn b) (maxVl t.toNat)
    ((st.occupy e.toNat 1).onVec fun v => v.onEngine e.toNat fun x =>
      { x with type := t.toNat, rm := m.toNat, sat := s == 1, vl := n }).ok)

/-! ### Element-wise arithmetic (R129, R130) -/

/-- VADD (R129). -/
def execVadd (e : BitVec 1) (w : Bool) (d a b : BitVec 8) (s : State) : Host.Outcome State Fault Refusal :=
  settle (2 + e.toNat) (vbin (arith (fun a b _ => a.add b) (some fun _ a b _ => a + b)) e w d a b s)

/-- VSUB (R129). -/
def execVsub (e : BitVec 1) (w : Bool) (d a b : BitVec 8) (s : State) : Host.Outcome State Fault Refusal :=
  settle (2 + e.toNat) (vbin (arith (fun a b _ => a.sub b) (some fun _ a b _ => a - b)) e w d a b s)

/-- VMUL (R129). -/
def execVmul (e : BitVec 1) (w : Bool) (d a b : BitVec 8) (s : State) : Host.Outcome State Fault Refusal :=
  settle (2 + e.toNat) (vbin (arith (fun a b _ => a.mul b) (some fun _ a b _ => a * b)) e w d a b s)

/-- VFMA (R129). -/
def execVfma (e : BitVec 1) (w : Bool) (d a b : BitVec 8) (s : State) : Host.Outcome State Fault Refusal :=
  settle (2 + e.toNat) (vtern (arith (fun a b d => a.fma b d) (some fun _ a b d => a * b + d)) e w d a b s)

/-- VFMS (R129). -/
def execVfms (e : BitVec 1) (w : Bool) (d a b : BitVec 8) (s : State) : Host.Outcome State Fault Refusal :=
  settle (2 + e.toNat) (vtern (arith (fun a b d => a.fma b d.negate) (some fun _ a b d => a * b - d)) e w d a b s)

/-- VNFMA (R129). -/
def execVnfma (e : BitVec 1) (w : Bool) (d a b : BitVec 8) (s : State) : Host.Outcome State Fault Refusal :=
  settle (2 + e.toNat) (vtern (arith (fun a b d => a.negate.fma b d) (some fun _ a b d => d - a * b)) e w d a b s)

/-- VDIV (R129): the lanes of the last column of R124. -/
def execVdiv (e : BitVec 1) (w : Bool) (d a b : BitVec 8) (s : State) : Host.Outcome State Fault Refusal :=
  settle (2 + e.toNat) (vform true (arith (fun a b _ => a.div b) (some divInt)) e w d a b [a, b] s)

/-- VSQRT (R129). -/
def execVsqrt (e : BitVec 1) (w : Bool) (d a : BitVec 8) (s : State) : Host.Outcome State Fault Refusal :=
  settle (2 + e.toNat) (vform true (arith (fun a _ _ => a.sqrt) none) e w d a a [a] s)

/-- VRCPE (R130). -/
def execVrcpe (e : BitVec 1) (w : Bool) (d a : BitVec 8) (s : State) : Host.Outcome State Fault Refusal :=
  settle (2 + e.toNat) (vun (estimate estRcp) e w d a s)

/-- VRSQE (R130). -/
def execVrsqe (e : BitVec 1) (w : Bool) (d a : BitVec 8) (s : State) : Host.Outcome State Fault Refusal :=
  settle (2 + e.toNat) (vun (estimate estRsq) e w d a s)

/-- VEXP2E (R130). -/
def execVexp2e (e : BitVec 1) (w : Bool) (d a : BitVec 8) (s : State) : Host.Outcome State Fault Refusal :=
  settle (2 + e.toNat) (vun (estimate estExp2) e w d a s)

/-- VLOG2E (R130). -/
def execVlog2e (e : BitVec 1) (w : Bool) (d a : BitVec 8) (s : State) : Host.Outcome State Fault Refusal :=
  settle (2 + e.toNat) (vun (estimate estLog2) e w d a s)

/-- VMIN (R129). -/
def execVmin (e : BitVec 1) (w : Bool) (d a b : BitVec 8) (s : State) : Host.Outcome State Fault Refusal :=
  settle (2 + e.toNat) (vbin (arith (fun a b _ => a.minMax false b) (some fun _ a b _ => min a b)) e w d a b s)

/-- VMAX (R129). -/
def execVmax (e : BitVec 1) (w : Bool) (d a b : BitVec 8) (s : State) : Host.Outcome State Fault Refusal :=
  settle (2 + e.toNat) (vbin (arith (fun a b _ => a.minMax true b) (some fun _ a b _ => max a b)) e w d a b s)

/-- VABS (R129). -/
def execVabs (e : BitVec 1) (w : Bool) (d a : BitVec 8) (s : State) : Host.Outcome State Fault Refusal :=
  settle (2 + e.toNat) (vun (arith (fun a _ _ => (a.abs, 0)) (some fun _ a _ _ => (a.natAbs : Int))) e w d a s)

/-- VNEG (R129). -/
def execVneg (e : BitVec 1) (w : Bool) (d a : BitVec 8) (s : State) : Host.Outcome State Fault Refusal :=
  settle (2 + e.toNat) (vun (arith (fun a _ _ => (a.negate, 0)) (some fun _ a _ _ => -a)) e w d a s)

/-- VAND (R129). -/
def execVand (e : BitVec 1) (w : Bool) (d a b : BitVec 8) (s : State) : Host.Outcome State Fault Refusal :=
  settle (2 + e.toNat) (vbin (bitwise (fun a b => a &&& b)) e w d a b s)

/-- VOR (R129). -/
def execVor (e : BitVec 1) (w : Bool) (d a b : BitVec 8) (s : State) : Host.Outcome State Fault Refusal :=
  settle (2 + e.toNat) (vbin (bitwise (fun a b => a ||| b)) e w d a b s)

/-- VXOR (R129). -/
def execVxor (e : BitVec 1) (w : Bool) (d a b : BitVec 8) (s : State) : Host.Outcome State Fault Refusal :=
  settle (2 + e.toNat) (vbin (bitwise (fun a b => a ^^^ b)) e w d a b s)

/-- VSHL (R129). -/
def execVshl (e : BitVec 1) (w : Bool) (d a b : BitVec 8) (s : State) : Host.Outcome State Fault Refusal :=
  settle (2 + e.toNat) (vbin (shift (fun _ a k => a * 2 ^ k)) e w d a b s)

/-- VSHR (R129). -/
def execVshr (e : BitVec 1) (w : Bool) (d a b : BitVec 8) (s : State) : Host.Outcome State Fault Refusal :=
  settle (2 + e.toNat) (vbin (shift (fun _ a k => a / 2 ^ k)) e w d a b s)

/-- VSAR (R129). -/
def execVsar (e : BitVec 1) (w : Bool) (d a b : BitVec 8) (s : State) : Host.Outcome State Fault Refusal :=
  settle (2 + e.toNat) (vbin (shift (fun n a k => wrapTo n (signedOf n a / 2 ^ k))) e w d a b s)

/-! ### Compares and selection (R131) -/

/-- VCMPEQ (R131). -/
def execVcmpeq (e : BitVec 1) (w : Bool) (d a b : BitVec 8) (s : State) : Host.Outcome State Fault Refusal :=
  settle (2 + e.toNat) (vbin (compareOp .eq (fun a b => decide (a = b))) e w d a b s)

/-- VCMPLT (R131). -/
def execVcmplt (e : BitVec 1) (w : Bool) (d a b : BitVec 8) (s : State) : Host.Outcome State Fault Refusal :=
  settle (2 + e.toNat) (vbin (compareOp .lt (fun a b => decide (a < b))) e w d a b s)

/-- VCMPLE (R131). -/
def execVcmple (e : BitVec 1) (w : Bool) (d a b : BitVec 8) (s : State) : Host.Outcome State Fault Refusal :=
  settle (2 + e.toNat) (vbin (compareOp .le (fun a b => decide (a ≤ b))) e w d a b s)

/-- VCMPNE (R131). -/
def execVcmpne (e : BitVec 1) (w : Bool) (d a b : BitVec 8) (s : State) : Host.Outcome State Fault Refusal :=
  settle (2 + e.toNat) (vbin (compareOp .ne (fun a b => decide (a ≠ b))) e w d a b s)

/-- VSEL (R131). -/
def execVsel (e : BitVec 1) (w : Bool) (d a b : BitVec 8) (s : State) : Host.Outcome State Fault Refusal :=
  settle (2 + e.toNat) (vtern (fun _ => some fun a b d => (if d ≠ 0 then a else b, 0)) e w d a b s)

/-! ### Conversion (R133, R134) -/

/-- The exact value of a code of an element type. -/
def typeNum (t code : Nat) : Num :=
  match typeFmt t with
  | some f => f.decode code
  | none => Num.ofInt (signedOf (8 * typeBytes t) code)

/-- One element converted from type `t` to type `dt` (R133). -/
def convertElem (t dt : Nat) (md : RMode) (sat : Bool) (word x : Nat) : Nat × FFlags :=
  let n := 8 * typeBytes dt
  match typeFmt dt with
  | some f => (typeNum t x).convert f md sat word
  | none =>
      if t < 4 then
        let i := signedOf (8 * typeBytes t) x
        (wrapTo n (if sat then clamp i (-(2 ^ (n - 1))) (2 ^ (n - 1) - 1) else i), 0)
      else
        let r := (typeNum t x).toIntN n md word
        (wrapTo n r.1, r.2)

/-- A block of K4: its codes, its scale byte and its bits (R42, R134). -/
def k4Block (k4t : Nat) (md : RMode) (ws : List Nat) (xs : List Num) : List Nat × Nat × FFlags :=
  let sc := k4Scale k4t xs
  if sc = 63 then (xs.map fun _ => 0, 64 * k4t + sc, flagIf (blockNan xs) flagNV)
  else if (blockMax xs).isZero then (xs.map fun _ => 0, 64 * k4t, 0)
  else
    let cs := (xs.zip ws).map fun p => k4Code md k4t sc p.2 p.1
    (cs.map Prod.fst, 64 * k4t + sc, cs.foldl (fun f c => f ||| c.2) 0)

/-- The blocks of a K4 conversion, 32 elements at a time. -/
def k4Blocks (k4t : Nat) (md : RMode) : Nat → List Nat → List Num → List (List Nat × Nat × FFlags)
  | 0, _, _ => []
  | n + 1, ws, xs => k4Block k4t md (ws.take 32) (xs.take 32) :: k4Blocks k4t md n (ws.drop 32) (xs.drop 32)

/-- Codes in pairs, the even one in the low half (R134). -/
def pairCodes : List Nat → List Byte
  | a :: b :: t => BitVec.ofNat 8 (a % 16 + 16 * (b % 16)) :: pairCodes t
  | [a] => [BitVec.ofNat 8 (a % 16)]
  | [] => []

/-- One word for each of `n` elements under RSTO, none otherwise (R36). -/
def State.words (s : State) (e : BitVec 1) (md : RMode) (n : Nat) : List Nat × State :=
  if md = .rsto then s.drawsV e.toNat n else (List.replicate n 0, s)

/-- VCVT (R133, R134). -/
def execVcvt (e : BitVec 1) (w : Bool) (d a : BitVec 8) (t : BitVec 4) (m : BitVec 3) (s : BitVec 1) (st : State) :
    Host.Outcome State Fault Refusal :=
  settle (2 + e.toNat) (st.vready e w [] [a.toNat] [d.toNat] fun st =>
    let x := st.mode e
    let k := typeBytes x.type
    let dt := t.toNat
    let md := RMode.ofCode m.toNat
    let xs := st.elems a.toNat k x.vl
    if dt = 10 then
      if x.vl % 32 ≠ 0 then st.raise cOpfmt
      else
        let r := st.words e md x.vl
        let bs := k4Blocks x.k4t md (x.vl / 32) r.1 (xs.map (typeNum x.type))
        let n := beats x.vl k false
        let st := (r.2.occupy e.toNat n).writeV (3 + n) e.toNat d.toNat 0 (pairCodes (bs.flatMap fun b => b.1))
        let st := st.writeV (3 + n) e.toNat d.toNat 2048 (bs.map fun b => BitVec.ofNat 8 b.2.1)
        (st.raiseFlags (3 + n) e.toNat (bs.foldl (fun f b => f ||| b.2.2) 0)).ok
    else if maxVl dt < x.vl then st.raise cOpfmt
    else
      let both := decide (x.type < 4) && decide (dt < 4)
      let r := if both then (List.replicate x.vl 0, st) else st.words e md x.vl
      let n := beats x.vl (max k (typeBytes dt)) false
      (r.2.finish e n d.toNat (typeBytes dt)
        ((xs.zip r.1).map fun p => convertElem x.type dt md (s == 1) p.2 p.1)).ok)

/-! ### Scalar operands (R132) -/

/-- S: G[gb] converted to the element type, with the draw and the bits that this takes (R132). -/
def State.scalarOperand (s : State) (e : BitVec 1) (b : BitVec 5) : (Nat × FFlags) × State :=
  let m := s.mode e
  let g := s.core.g b.toNat
  let n := 8 * typeBytes m.type
  match typeFmt m.type with
  | some f =>
      let md := RMode.ofCode m.rm
      let r := if md = .rsto then s.drawV e.toNat else (0, s)
      ((fp64.decode g.toNat).convert f md m.sat r.1, r.2)
  | none => ((wrapTo n (if m.sat then clamp g.toInt (-(2 ^ (n - 1))) (2 ^ (n - 1) - 1) else g.toInt), 0), s)

/-- A scalar-operand form: `op` of va[k], S and k. -/
def vscalar (op : Nat → Nat → Nat → Nat → Nat × FFlags) (e : BitVec 1) (w : Bool) (d : BitVec 8)
    (src : List (BitVec 8)) (b : BitVec 5) (s : State) : Res :=
  s.vready e w [b] (src.map BitVec.toNat) [d.toNat] fun s =>
    let m := s.mode e
    let k := typeBytes m.type
    let r := s.scalarOperand e b
    let xs := match src with
      | a :: _ => r.2.elems a.toNat k m.vl
      | [] => List.replicate m.vl 0
    let n := beats m.vl k false
    let rs := xs.zipIdx.map fun p => op m.type p.1 r.1.1 p.2
    ((r.2.finish e n d.toNat k rs).raiseFlags (3 + n) e.toNat r.1.2).ok

/-- A two-operand operation on codes of type `t`, for the types that have it. -/
def onType (o : ElemOp) (t a b : Nat) : Nat × FFlags := match o t with | some f => f a b 0 | none => (0, 0)

/-- VADDS (R132). -/
def execVadds (e : BitVec 1) (w : Bool) (d a : BitVec 8) (b : BitVec 5) (s : State) : Host.Outcome State Fault Refusal :=
  settle (2 + e.toNat) (vscalar (fun t x y _ => onType (arith (fun a b _ => a.add b) (some fun _ a b _ => a + b)) t x y)
    e w d [a] b s)

/-- VMULS (R132). -/
def execVmuls (e : BitVec 1) (w : Bool) (d a : BitVec 8) (b : BitVec 5) (s : State) : Host.Outcome State Fault Refusal :=
  settle (2 + e.toNat) (vscalar (fun t x y _ => onType (arith (fun a b _ => a.mul b) (some fun _ a b _ => a * b)) t x y)
    e w d [a] b s)

/-- VBCAST (R132). -/
def execVbcast (e : BitVec 1) (w : Bool) (d : BitVec 8) (b : BitVec 5) (s : State) : Host.Outcome State Fault Refusal :=
  settle (2 + e.toNat) (vscalar (fun _ _ y _ => (y, 0)) e w d [] b s)

/-- Round(S + k), or S + k wrapping (R132). -/
def iotaElem (t y k : Nat) : Nat × FFlags :=
  match typeFmt t with
  | some f => roundIn f ((f.decode y).add (.fin false k 0))
  | none => ((y + k) % 2 ^ (8 * typeBytes t), 0)

/-- VIOTA (R132). -/
def execViota (e : BitVec 1) (w : Bool) (d : BitVec 8) (b : BitVec 5) (s : State) : Host.Outcome State Fault Refusal :=
  settle (2 + e.toNat) (vscalar (fun t _ y k => iotaElem t y k) e w d [] b s)

/-! ### Index vectors, permutes and slides (R135 to R137) -/

/-- Registers of an index vector of length VL (R135). -/
def indexSpan (base vl : Nat) : List Nat := spanRegs base ((vl + 1023) / 1024)

/-- The index vector at `base` (R135): each register number mapped on its own. -/
def State.indices (s : State) (base vl : Nat) : List Nat :=
  ((indexSpan base vl).flatMap fun r => s.elems r 4 1024).take vl

/-- A result of the bits of elements. -/
def State.finishBits (s : State) (e : BitVec 1) (d k vl : Nat) (xs : List Nat) : State :=
  s.finish e (beats vl k false) d k (xs.map fun x => (x, 0))

/-- VPERM (R136). -/
def execVperm (e : BitVec 1) (w : Bool) (d a b : BitVec 8) (s : State) : Host.Outcome State Fault Refusal :=
  settle (2 + e.toNat) (
    let vl := (s.mode e).vl
    s.vready e w [] (a.toNat :: indexSpan b.toNat vl) [d.toNat] fun s =>
      let k := typeBytes (s.mode e).type
      let xs := s.elems a.toNat k vl
      (s.finishBits e d.toNat k vl ((s.indices b.toNat vl).map fun i => xs.getD i 0)).ok)

/-- A slide (R137): element k takes the element that `f k` names, or zero bits. -/
def vslide (f : Nat → Nat → Nat → Option Nat) (e : BitVec 1) (w : Bool) (d a : BitVec 8) (b : BitVec 5) (s : State) : Res :=
  s.vready e w [b] [a.toNat] [d.toNat] fun s =>
    let m := s.mode e
    let k := typeBytes m.type
    let xs := s.elems a.toNat k m.vl
    let ys := (List.range m.vl).map fun i => match f m.vl (s.gn b) i with | some j => xs.getD j 0 | none => 0
    (s.finishBits e d.toNat k m.vl ys).ok

/-- VSLIDE_UP (R137). -/
def execVslideUp (e : BitVec 1) (w : Bool) (d a : BitVec 8) (b : BitVec 5) (s : State) :
    Host.Outcome State Fault Refusal :=
  settle (2 + e.toNat) (vslide (fun _ n i => if n ≤ i then some (i - n) else none) e w d a b s)

/-- VSLIDE_DN (R137). -/
def execVslideDn (e : BitVec 1) (w : Bool) (d a : BitVec 8) (b : BitVec 5) (s : State) :
    Host.Outcome State Fault Refusal :=
  settle (2 + e.toNat) (vslide (fun vl n i => if i + n < vl then some (i + n) else none) e w d a b s)

/-! ### Reductions and extraction (R46, R138, R139) -/

/-- One level of the tree of R46. -/
def pairUp (f : Nat → Nat → Nat × FFlags) : List Nat → List Nat × FFlags
  | a :: b :: t =>
      let r := f a b
      let q := pairUp f t
      (r.1 :: q.1, r.2 ||| q.2)
  | l => (l, 0)

/-- The tree of R46, level by level. -/
def treeOf (f : Nat → Nat → Nat × FFlags) : Nat → List Nat → Nat × FFlags
  | 0, l => (l.headD 0, 0)
  | n + 1, l =>
      match l with
      | [] => (0, 0)
      | [a] => (a, 0)
      | _ =>
          let r := pairUp f l
          let q := treeOf f n r.1
          (q.1, r.2 ||| q.2)

/-- An element widened to 64 bits (R138): sign-extended, or exact in FP64. Widening a signalling NaN sets no exception bit
(log 108). -/
def widened (t x : Nat) : Word :=
  match typeFmt t with
  | some f => w64 ((f.decode x).rne fp64).1
  | none => sext (8 * typeBytes t) x

/-- The result for VL = 0 (R138), by operation: 0 sum, 1 maximum, 2 minimum. -/
def emptyReduction (op t : Nat) : Nat :=
  match typeFmt t with
  | some f => if op = 0 then 0 else f.inf (op == 1)
  | none => if op = 0 then 0 else if op = 1 then 2 ^ (8 * typeBytes t - 1) else 2 ^ (8 * typeBytes t - 1) - 1

/-- A reduction (R138): element 0 of vd, and VSO in the same cycle. -/
def vreduce (op : Nat) (o : ElemOp) (e : BitVec 1) (w : Bool) (d a : BitVec 8) (s : State) : Res :=
  s.vready e w [] [a.toNat] [d.toNat] fun s =>
    let m := s.mode e
    let k := typeBytes m.type
    let n := beats m.vl k false
    let r := if m.vl = 0 then (emptyReduction op m.type, 0)
      else treeOf (onType o m.type) 13 (s.elems a.toNat k m.vl)
    (((s.finish e n d.toNat k [r]).later (3 + n) (.vso e.toNat (widened m.type r.1)))).ok

/-- VRSUM (R138). -/
def execVrsum (e : BitVec 1) (w : Bool) (d a : BitVec 8) (s : State) : Host.Outcome State Fault Refusal :=
  settle (2 + e.toNat) (vreduce 0 (arith (fun a b _ => a.add b) (some fun _ a b _ => a + b)) e w d a s)

/-- VRMAX (R138). -/
def execVrmax (e : BitVec 1) (w : Bool) (d a : BitVec 8) (s : State) : Host.Outcome State Fault Refusal :=
  settle (2 + e.toNat) (vreduce 1 (arith (fun a b _ => a.minMax true b) (some fun _ a b _ => max a b)) e w d a s)

/-- VRMIN (R138). -/
def execVrmin (e : BitVec 1) (w : Bool) (d a : BitVec 8) (s : State) : Host.Outcome State Fault Refusal :=
  settle (2 + e.toNat) (vreduce 2 (arith (fun a b _ => a.minMax false b) (some fun _ a b _ => min a b)) e w d a s)

/-- VEXTR (R139): em, four cycles. -/
def execVextr (e : BitVec 1) (w : Bool) (d : BitVec 5) (a : BitVec 8) (b : BitVec 5) (s : State) :
    Host.Outcome State Fault Refusal :=
  settle (2 + e.toNat) (s.vready e w [b, d] [a.toNat] [] fun s =>
    let m := s.mode e
    let k := typeBytes m.type
    let x := if s.gn b < m.vl then widened m.type (leNat (s.core.vbytes (s.core.vphys a.toNat) (k * s.gn b) k)) else 0
    let r := s.core.phys d.toNat
    (((s.occupy e.toNat 1).emptyG d.toNat).later 4 (.g r x true)).ok)

/-! ### Partition (R140) -/

/-- The indices of the false outcomes, then those of the true ones, and how many are false. -/
def partitioned (xs : List Nat) : List Nat × Nat :=
  let ix := xs.zipIdx
  let no := (ix.filter fun p => p.1 == 0).map Prod.snd
  (no ++ (ix.filter fun p => p.1 != 0).map Prod.snd, no.length)

/-- An index vector written at `base` (R135). -/
def State.writeIndices (s : State) (lat e : Nat) : List Nat → List Nat → State
  | [], _ => s
  | r :: rs, xs =>
      (s.writeV lat e r 0 ((xs.take 1024).flatMap (leBytes 4))).writeIndices lat e rs (xs.drop 1024)

/-- VPART (R140). -/
def execVpart (e : BitVec 1) (w : Bool) (d a : BitVec 8) (s : State) : Host.Outcome State Fault Refusal :=
  settle (2 + e.toNat) (
    let vl := (s.mode e).vl
    s.vready e w [] [a.toNat] (indexSpan d.toNat vl) fun s =>
      let k := typeBytes (s.mode e).type
      let r := partitioned (s.elems a.toNat k vl)
      let n := beats vl k false
      (((s.occupy e.toNat n).writeIndices (3 + n) e.toNat (indexSpan d.toNat vl) r.1).later (3 + n) (.vlt e.toNat r.2)).ok)

end Sys2Proof.Machine
end

