-- ==== Sys2Proof/Machine/VectorMem.lean ====
section
/-! DEFINITION. Vector loads and stores (R141 to R148). -/

namespace Sys2Proof.Machine

/-! ### Elements (R141) -/

/-- A trap of element k (R141, R373). -/
def Act.atElem {α : Type} (k : Nat) : Act α → Act α
  | .trap t s => .trap { t with info := t.info + fld k 16 } s
  | x => x

/-- A target on a host-class page. -/
def Target.onHost : Target → Bool
  | .pool _ => false
  | .mem _ leaf _ => leafClass leaf == 4

/-- Alignment, handle, watch and translation of each element, in ascending k; the first that fails traps (R141). A host-class
page takes no add of VSCATA (R363). -/
def State.vtargets (s : State) (h w : Nat) (u : Use) : List (Int × Nat) → Act (List Target)
  | [] => .ok [] s
  | (off, k) :: rest =>
      let one : Act Target :=
        if s.handleAddr h off % w ≠ 0 then .trap { cause := cAlign, addr := wrapTo 64 (s.handleAddr h off) } s
        else (s.through h off w u).bind fun t s => if u == .atomic && t.onHost then s.raise cAtomicHost else .ok t s
      (one.atElem k).bind fun t s => (s.vtargets h w u rest).bind fun ts s => .ok (t :: ts) s

/-- Read the elements at some targets: each one's bytes and where they stand, and the state. -/
def State.vread (s : State) (w : Nat) : List Target → List (List Byte × Path) × State
  | [] => ([], s)
  | t :: ts =>
      let r := s.loadFrom t w
      let q := r.2.2.vread w ts
      ((r.1, r.2.1) :: q.1, q.2)

/-- Write elements at some targets, in ascending k. -/
def State.vwrite (s : State) (w : Nat) (nt : Bool) : List Target → List Nat → State
  | t :: ts, x :: xs => (s.storeTo t (leBytes w x) nt).vwrite w nt ts xs
  | _, _ => s

/-- Cycles of an access that touches these 64-byte lines of the pool: 8 + L − 1, L = max(⌈n/16⌉, n_max) (R145). An access
that touches none takes 7. -/
def linesTime (ls : List Nat) : Nat :=
  let d := distinct ls
  let banks := d.map (· / 512)
  let most := (distinct banks).foldl (fun m b => max m (banks.filter (· == b)).length) 0
  7 + max ((d.length + 15) / 16) most

/-- A copy command runs, which may use any bank of the scratchpad (log 10). -/
def Core.copying (c : Core) : Bool := (c.eng.q0 ++ c.eng.q1).any fun x => x.started && !x.finished

/-- Elements of a result that another package has still to send, each `w` bytes from `w` times its place on: the requests go
out, one for each range of bytes. -/
def State.requests (s : State) (w : Nat) (ps : List (Nat × Away)) : List Hole × State :=
  let r := ps.foldl (fun (q : List ((Nat × Nat) × Hole) × State) p =>
    let a := p.2
    let hole (tag : Nat) : Hole :=
      { tag := tag, off := p.1 * w, len := w, skip := a.skip, keep := a.keep, fill := if a.fill then some a.pa else none }
    match q.1.find? fun x => x.1 == (a.pa, a.len) with
    | some x => (q.1 ++ [((a.pa, a.len), hole x.2.tag)], q.2)
    | none =>
        let t := q.2.newTag (paPkg a.pa)
        (q.1 ++ [((a.pa, a.len), hole t.1)], t.2.send (paPkg a.pa) (.readRequest a.pa a.len t.1 s.fab.pkg))) ([], s)
  (r.1.map Prod.snd, r.2)

/-- A scalar access of the first-level cache that has still to land uses one of some banks (R145). -/
def Core.scalarOn (c : Core) (banks : List Nat) : Bool := c.waiting.any fun w => w.eng == 2 && w.banks.any banks.contains

/-- A vector load's result, from elements of `w` bytes and the lines of the pool it touches: em; in the time of R145 where all of
it came from the scratchpad or hit the first-level cache (R188) and no other agent uses its banks, else in a variable time. -/
def State.vdeliver (s : State) (e : BitVec 1) (v w : Nat) (ps : List (List Byte × Path)) (lines : List Nat) : State :=
  let r := s.core.vphys v
  let n := e.toNat
  let ls := lines ++ ps.flatMap fun p => p.2.lines
  let banks := lineBanks ls
  let away := ps.zipIdx.filterMap fun p => match p.1.2 with | .away a => some (p.2, a) | _ => none
  let own := ps.all fun p => match p.2 with | .pool => true | .hit _ => true | _ => false
  let free := own && !s.contended n banks && !s.core.scalarOn banks && !(s.core.copying && banks.any fun b => decide (b < s.core.st.b2))
  let s := (s.occupy n 1).emptyV r
  let s := s.useBanks n (linesTime ls) banks
  let q := s.requests w away
  let res : Waiting :=
    { dst := [.v r 0 (ps.flatMap Prod.fst) true n], holes := q.1, eng := n, banks := banks
      host := ps.any fun p => p.2 == .host }
  q.2.awaits (if own then s.nearly (linesTime ls) free res else res)

/-! ### Forms (R142, R143) -/

/-- A load of the elements at the given offsets. -/
def vloadForm (e : BitVec 1) (w : Bool) (d : BitVec 8) (h : BitVec 4) (gs : List (BitVec 5)) (src : List Nat)
    (offs : State → Nat → Nat → List Int) (s : State) : Res :=
  s.vready e w gs src [d.toNat] fun s =>
    let m := s.mode e
    let k := typeBytes m.type
    (s.vtargets h.toNat k .read (offs s k m.vl).zipIdx).bind fun ts s =>
      let r := s.vread k ts
      (r.2.vdeliver e d.toNat k r.1 (ts.flatMap Target.lines)).ok

/-- A store of an engine has used the banks of its targets, of the scratchpad or of the first-level cache. -/
def State.usedBy (s : State) (e : BitVec 1) (ts : List Target) : State :=
  let ls := ts.flatMap s.linesOf
  s.useBanks e.toNat (linesTime ls) (lineBanks ls)

/-- A store of the elements of `d` at the given offsets. -/
def vstoreForm (nt : Bool) (e : BitVec 1) (w : Bool) (d : BitVec 8) (h : BitVec 4) (gs : List (BitVec 5)) (src : List Nat)
    (offs : State → Nat → Nat → List Int) (s : State) : Res :=
  s.vready e w gs (d.toNat :: src) [] fun s =>
    let m := s.mode e
    let k := typeBytes m.type
    let xs := s.elems d.toNat k m.vl
    (s.vtargets h.toNat k .write (offs s k m.vl).zipIdx).bind fun ts s =>
      (((s.vwrite k nt ts xs).usedBy e ts).occupy e.toNat 1).ok

/-- Offsets of the contiguous forms. -/
def contiguous (a : BitVec 5) (s : State) (w vl : Nat) : List Int :=
  (List.range vl).map fun (k : Nat) => (s.core.g a.toNat).toInt + (k : Int) * w
/-- Offsets of the strided forms: the stride is G[ga + 1]. -/
def strided (a : BitVec 5) (s : State) (_w vl : Nat) : List Int :=
  (List.range vl).map fun (k : Nat) => (s.core.g a.toNat).toInt + (k : Int) * (s.core.g (a.toNat + 1)).toInt
/-- Offsets of the indexed forms. -/
def indexed (i : BitVec 8) (s : State) (w vl : Nat) : List Int :=
  (s.indices i.toNat vl).map fun x => ((x * w : Nat) : Int)

/-- VLD (R142). -/
def execVld (e : BitVec 1) (w : Bool) (d : BitVec 8) (h _c : BitVec 4) (a : BitVec 5) (s : State) :
    Host.Outcome State Fault Refusal := settle (2 + e.toNat) (vloadForm e w d h [a] [] (contiguous a) s)

/-- VST (R142). -/
def execVst (e : BitVec 1) (w : Bool) (d : BitVec 8) (h _c : BitVec 4) (a : BitVec 5) (s : State) :
    Host.Outcome State Fault Refusal := settle (2 + e.toNat) (vstoreForm false e w d h [a] [] (contiguous a) s)

/-- VSTNT (R142, R198). -/
def execVstnt (e : BitVec 1) (w : Bool) (d : BitVec 8) (h _c : BitVec 4) (a : BitVec 5) (s : State) :
    Host.Outcome State Fault Refusal := settle (2 + e.toNat) (vstoreForm true e w d h [a] [] (contiguous a) s)

/-- VLDS (R142). -/
def execVlds (e : BitVec 1) (w : Bool) (d : BitVec 8) (h _c : BitVec 4) (a : BitVec 5) (s : State) :
    Host.Outcome State Fault Refusal := settle (2 + e.toNat) (vloadForm e w d h [a, a + 1] [] (strided a) s)

/-- VSTS (R142). -/
def execVsts (e : BitVec 1) (w : Bool) (d : BitVec 8) (h _c : BitVec 4) (a : BitVec 5) (s : State) :
    Host.Outcome State Fault Refusal := settle (2 + e.toNat) (vstoreForm false e w d h [a, a + 1] [] (strided a) s)

/-- VGATH (R143). -/
def execVgath (e : BitVec 1) (w : Bool) (d i : BitVec 8) (h _c : BitVec 4) (s : State) :
    Host.Outcome State Fault Refusal :=
  settle (2 + e.toNat) (vloadForm e w d h [] (indexSpan i.toNat (s.mode e).vl) (indexed i) s)

/-- VSCAT (R143). -/
def execVscat (e : BitVec 1) (w : Bool) (d i : BitVec 8) (h _c : BitVec 4) (s : State) :
    Host.Outcome State Fault Refusal :=
  settle (2 + e.toNat) (vstoreForm false e w d h [] (indexSpan i.toNat (s.mode e).vl) (indexed i) s)

/-! ### Atomic scatter (R143, R208) -/

/-- The sum of two elements of a type: integers wrap, floating types round by RNE. -/
def typeAdd (t a b : Nat) : Nat := (onType (arith (fun a b _ => a.add b) (some fun _ a b _ => a + b)) t a b).1

/-- One add at a target: in the pool, at a home of this package, or by a message to the home in another (R143, R208,
R341). -/
def State.scatterAdd (s : State) (t w : Nat) (x : Nat) : Target → State
  | .pool a => s.poolWrite a (leBytes w (typeAdd t (leNat (s.core.poolBytes a w)) x))
  | .mem pa _ _ =>
      let s := (s.evictLine pa).spoil pa w
      if s.remote pa then
        let r := s.newTag (paPkg pa)
        (r.2.send (paPkg pa) (.atomic pa (16 + t) r.1 s.fab.pkg (w64 x) 0)).onLoc fun l => { l with remote := l.remote ++ [r.1] }
      else s.storeMem (s.key pa) (leBytes w (typeAdd t (leNat (s.homeBytes pa w)) x))

/-- The adds of a VSCATA, in ascending k. -/
def State.scatterAll (s : State) (t w : Nat) : List Target → List Nat → State
  | p :: ps, x :: xs => (s.scatterAdd t w x p).scatterAll t w ps xs
  | _, _ => s

/-- VSCATA (R143): no exception bits; a host-class page takes no such atomic (R363). -/
def execVscata (e : BitVec 1) (w : Bool) (d i : BitVec 8) (h _c : BitVec 4) (s : State) :
    Host.Outcome State Fault Refusal :=
  settle (2 + e.toNat) (s.vready e w [] (d.toNat :: indexSpan i.toNat (s.mode e).vl) [] fun s =>
    let m := s.mode e
    let k := typeBytes m.type
    let xs := s.elems d.toNat k m.vl
    if k = 1 then s.raise cOpfmt
    else (s.vtargets h.toNat k .atomic (indexed i s k m.vl).zipIdx).bind fun ts s =>
      (((s.scatterAll m.type k ts xs).usedBy e ts).occupy e.toNat 1).ok)

/-! ### The pool by address (R144) -/

/-- The pool addresses of elements, each aligned and in the scratchpad. -/
def State.ptargets (s : State) (w : Nat) : List (Int × Nat) → Act (List Target)
  | [] => .ok [] s
  | (p, k) :: rest =>
      let one : Act Target :=
        if p % w ≠ 0 then s.raise cAlign
        else if s.core.inPool p w then .ok (.pool p.toNat) s
        else s.raiseWhy cProt 4
      (one.atElem k).bind fun t s => (s.ptargets w rest).bind fun ts s => .ok (t :: ts) s

/-- VLDP (R144). -/
def execVldp (e : BitVec 1) (w : Bool) (d : BitVec 8) (a : BitVec 5) (s : State) : Host.Outcome State Fault Refusal :=
  settle (2 + e.toNat) (s.vready e w [a] [] [d.toNat] fun s =>
    let m := s.mode e
    let k := typeBytes m.type
    (s.ptargets k (contiguous a s k m.vl).zipIdx).bind fun ts s =>
      let r := s.vread k ts
      (r.2.vdeliver e d.toNat k r.1 (ts.flatMap Target.lines)).ok)

/-- VSTP (R144). -/
def execVstp (e : BitVec 1) (w : Bool) (d : BitVec 8) (a : BitVec 5) (s : State) : Host.Outcome State Fault Refusal :=
  settle (2 + e.toNat) (s.vready e w [a] [d.toNat] [] fun s =>
    let m := s.mode e
    let k := typeBytes m.type
    let xs := s.elems d.toNat k m.vl
    (s.ptargets k (contiguous a s k m.vl).zipIdx).bind fun ts s =>
      (((s.vwrite k false ts xs).usedBy e ts).occupy e.toNat 1).ok)

/-! ### Tiles (R147, R148) -/

/-- Rows or columns of one fetch. -/
def fetchLines (f : Nat) : Nat := if fmtBits f ≤ 8 then 64 else 512 / fmtBits f

/-- What R148 traps on before anything is read. -/
def vldtFault (c : Core) (t : TidWords) (col : Bool) (g : Nat) : Option TrapInfo :=
  let i := bits g 16 8
  let j := bits g 8 8
  let a := t.tile i j
  if col && fmtBits t.fmt == 4 then some { cause := cOpfmt }
  else if col && (!t.swz || !t.pool) then some { cause := cOpfmt }
  else if t.swz && !t.pool then some { cause := cOpfmt }
  else if bits g 0 6 % fetchLines t.fmt ≠ 0 ∨ bits g 24 40 ≠ 0 ∨ bits g 6 2 ≠ 0 then some { cause := cOpfmt }
  else if t.rows ≤ i ∨ t.cols ≤ j then some { cause := cProt }
  else if t.pool && !c.tileFits t.fmt t.swz a (fmtData t.fmt) then some { cause := cProt, info := fld 4 28 }
  else if t.pool && a % 64 != 0 then some { cause := cAlign }
  else none

/-- The lines of a tile in memory, each watched, translated and read (R147, R382). -/
def State.tileLines (s : State) (va elem : Nat) : Nat → Nat → Act (List (List Byte × Path))
  | 0, _ => .ok [] s
  | n + 1, k =>
      let one : Act Target :=
        if 2 ^ 52 ≤ va then .trap (protTrap 0 va) s
        else (s.watch va 64 .read).bind fun _ s =>
          (s.translate s.core.ctx va .read true).bind fun x s =>
            match s.paFault (x.pa va) with
            | some r => .trap (protTrap r va) s
            | none => .ok (.mem (x.pa va) x.leaf.toNat va) s
      (one.atElem k).bind fun t s =>
        let r := s.loadFrom t 64
        (r.2.2.tileLines (va + 64) elem n (k + elem)).bind fun q s => .ok ((r.1, r.2.1) :: q) s

/-- Columns c0 … c0 + R − 1 of a tile's bytes, column after column (R147). -/
def columnBytes (f c0 : Nat) (bs : List Byte) : List Byte :=
  let w := fmtBits f / 8
  (List.range (fetchLines f)).flatMap fun c => (List.range 64).flatMap fun r => (bs.drop (fmtRow f * r + w * (c0 + c))).take w

/-- The lines of the pool that a fetch of columns from c0 on touches: one in each row of the tile (R147). -/
def columnLines (f va c0 : Nat) : List Nat :=
  (List.range 64).map fun r => poolByte f true va (fmtRow f * r + fmtBits f / 8 * c0) / 64

/-- VLDT in both directions (R147). -/
def vldtForm (col : Bool) (e : BitVec 1) (w : Bool) (d : BitVec 8) (t : BitVec 6) (a : BitVec 5) (s : State) : Res :=
  s.vready e w [a] [] [d.toNat] fun s =>
    let x := s.core.tid t.toNat
    let g := s.gn a
    match vldtFault s.core x col g with
    | some t => .trap t s
    | none =>
        let f := x.fmt
        let va := x.tile (bits g 16 8) (bits g 8 8)
        let first := bits g 0 6
        let o := if col then 0 else fmtRow f * first
        let n := if col then fmtData f else fmtRow f * fetchLines f
        if x.pool then
          let bs := s.core.poolTile f x.swz va o n
          let ls := (List.range (n / 64)).map fun l => poolByte f x.swz va (o + 64 * l) / 64
          (s.vdeliver e d.toNat n [(if col then columnBytes f first bs else bs, .pool)]
            (if col then columnLines f va first else ls)).ok
        else
          (s.tileLines (va + o) (512 / fmtBits f) (n / 64) 0).bind fun ps s =>
            (s.vdeliver e d.toNat 64 ps []).ok

/-- VLDT_ROW (R147). -/
def execVldtRow (e : BitVec 1) (w : Bool) (d : BitVec 8) (t : BitVec 6) (a : BitVec 5) (s : State) :
    Host.Outcome State Fault Refusal := settle (2 + e.toNat) (vldtForm false e w d t a s)

/-- VLDT_COL (R147). -/
def execVldtCol (e : BitVec 1) (w : Bool) (d : BitVec 8) (t : BitVec 6) (a : BitVec 5) (s : State) :
    Host.Outcome State Fault Refusal := settle (2 + e.toNat) (vldtForm true e w d t a s)

end Sys2Proof.Machine
end

