-- ==== Sys2Proof/Machine/Grid.lean ====
section
/-! DEFINITION. Hashed-grid regions: descriptors, levels, corners and weights, HGLD, HGSCAT and the steps of HGFOLD
(R250 to R262, R417). -/

namespace Sys2Proof.Machine

/-! ### Descriptors (R251, R252) -/

def gridRegion (w0 : Nat) : Nat := bits w0 52 12
def gridT (w0 : Nat) : Nat := bits w0 27 5
def gridFmt (w0 : Nat) : Nat := bits w0 20 4
def gridF (w0 : Nat) : Nat := 2 ^ bits w0 16 2
def gridL (w0 : Nat) : Nat := bits w0 8 5
def gridD (w0 : Nat) : Nat := bits w0 0 4

/-- A word 0 that R251 calls malformed (R417). -/
def gridWordBad (w : Nat) : Bool :=
  bits w 32 20 != 0 || bits w 24 3 != 0 || bits w 18 2 != 0 || bits w 13 3 != 0 || bits w 4 4 != 0 ||
    decide (gridT w < 3 ∨ 24 < gridT w) || !([4, 5, 6].contains (gridFmt w)) ||
    decide (gridL w < 1 ∨ 16 < gridL w) || decide (gridD w < 1 ∨ 8 < gridD w)

/-- A grid as its descriptor gives it, with its descriptor's address and the command's copy of word 0. -/
structure Grid where
  ctx : Nat
  va : Nat
  w0 : Nat
  b : Nat
  nmin : Nat
  ptoff : Nat
  gtoff : Nat
  shoff : Nat
  /-- The stack that the descriptor lies on: bits [51:36] of its physical address. -/
  stack : Nat
  deriving DecidableEq, Repr

def Grid.t (g : Grid) : Nat := gridT g.w0
def Grid.fmt (g : Grid) : Fmt := (typeFmt (gridFmt g.w0)).getD fp32
def Grid.w (g : Grid) : Nat := typeBytes (gridFmt g.w0)
def Grid.f (g : Grid) : Nat := gridF g.w0
def Grid.l (g : Grid) : Nat := gridL g.w0
def Grid.d (g : Grid) : Nat := gridD g.w0

/-- ⌊x⌋ of a finite value that is not negative. -/
def Num.floor : Num → Nat
  | .fin _ m e => if 0 ≤ e then m * 2 ^ e.toNat else m / 2 ^ (-e).toNat
  | _ => 0

/-- q_l of R253. -/
def gridQ (b nmin : Num) : Nat → Num
  | 0 => nmin
  | l + 1 => in64 ((gridQ b nmin l).mul b).1

/-- N_l of R253. -/
def Grid.res (g : Grid) (l : Nat) : Nat := (gridQ (fp32.decode g.b) (fp32.decode g.nmin) l).floor

/-- A growth factor or a resolution that is not finite and at least 1. -/
def below1 (code : Nat) : Bool :=
  let x := fp32.decode code
  !x.isFin || (x.cmp (.fin false 1 0)).isLT

/-- What makes a descriptor malformed beyond its word 0 (R251, R253). -/
def Grid.malformed (g : Grid) : Bool :=
  g.va % 64 != 0 || g.ptoff % 64 != 0 || g.gtoff % 64 != 0 || g.shoff % 64 != 0 || below1 g.b || below1 g.nmin ||
    (List.range g.l).any fun l => decide (2 ^ 24 < g.res l)

/-- The bytes that the region takes from its descriptor on (R250). -/
def Grid.extent (g : Grid) : Nat :=
  let n := g.l * 2 ^ g.t * g.f
  max 128 (max (g.ptoff + g.w * n) (max (g.gtoff + g.w * n) (g.shoff + 8 * n)))

/-- A leaf that a grid's bytes must lie on: CLASS 3 with its region number, on its stack (R250, R256). -/
def Grid.leafOk (g : Grid) (pa leaf : Nat) : Bool :=
  leafClass leaf == 3 && leafRegion leaf == gridRegion g.w0 && pa / 2 ^ 36 == g.stack

/-- A grid from the 128 bytes of its descriptor, which lies at a virtual and a physical address, with the command's copy of
word 0. -/
def Grid.ofBytes (ctx va copy pa : Nat) (b : List Byte) : Grid :=
  let w (k : Nat) : Nat := leNat ((b.drop (8 * k)).take 8)
  { ctx := ctx, va := va, w0 := copy, b := bits (w 1) 32 32, nmin := bits (w 1) 0 32, ptoff := w 2
    gtoff := w 3, shoff := w 4, stack := pa / 2 ^ 36 }

/-- The descriptor at an address, with the command's copy of word 0, and word 0 as it stands there. -/
def State.gridDesc (s : State) (ctx va copy : Nat) : Except CmdFault (Grid × Nat) := do
  let x ← s.peek ctx va
  let b ← s.peekBytes ctx va 128 fun _ _ => true
  .ok (Grid.ofBytes ctx va copy x.1 b, leNat (b.take 8))

/-- The page of the region at `va` and those behind it, up to `top`: each is the region's own, on its stack. A page that no walk
finds is judged where the command reaches it (R256). `n` bounds the count of pages. -/
def State.gridPages (s : State) (g : Grid) (top : Nat) : Nat → Nat → Except CmdFault Unit
  | 0, _ => .ok ()
  | n + 1, va =>
      if top ≤ va then .ok ()
      else match s.walkTimed g.ctx va with
        | .pending a => .error (lacks (some va) a 8)
        | .leaf e level =>
            let pa := fld (leafFrame e) 16 + va % 2 ^ pageLog level
            if g.leafOk pa e then s.gridPages g top n (va / 2 ^ pageLog level * 2 ^ pageLog level + 2 ^ pageLog level)
            else .error ⟨cProt, 0, va⟩
        | _ => s.gridPages g top n (va / 65536 * 65536 + 65536)

/-- What the fold logic checks of a descriptor: OPFMT where it is malformed or its word 0 differs from the copy, PROT where a
page is not the region's or the region spans two stacks (R256, R417). -/
def State.gridCheck (s : State) (g : Grid) (w0 : Nat) : Except CmdFault Grid :=
  if w0 ≠ g.w0 ∨ gridWordBad w0 ∨ g.malformed then .error ⟨cOpfmt, 0, 0⟩
  else do
    s.gridPages g (min (g.va + g.extent) (2 ^ 52)) (g.extent / 65536 + 2) g.va
    .ok g

/-- The region of a command as the fold logic reads it (R256). -/
def State.grid (s : State) (ctx va copy : Nat) : Except CmdFault Grid := do
  let r ← s.gridDesc ctx va copy
  s.gridCheck r.1 r.2

/-- The physical address at an offset of a grid, which is read, and written with `upd` (R215, R256). -/
def State.gridPa (s : State) (g : Grid) (off : Nat) (upd : Bool) : Except CmdFault Nat := do
  let x ← s.peek g.ctx (g.va + off)
  if g.leafOk x.1 x.2 && leafR x.2 && (!upd || leafW x.2) then .ok x.1 else .error ⟨cProt, 0, g.va + off⟩

/-- Read `n` bytes of a grid at an offset. -/
def State.gridRead (s : State) (g : Grid) (off n : Nat) : Except CmdFault Nat := do
  let pa ← s.gridPa g off false
  let b ← s.fetched pa n
  .ok (leNat b)

/-- The number of feature f of entry e of level l (R252). -/
def Grid.at (g : Grid) (l e f : Nat) : Nat := (l * 2 ^ g.t + e) * g.f + f

/-! ### Corners and weights (R253, R254) -/

/-- The entry of a corner (R253). -/
def Grid.entry (g : Grid) (n : Nat) (c : List Nat) : Nat :=
  if (n + 1) ^ g.d ≤ 2 ^ g.t then (c.zipIdx.map fun p => p.1 * (n + 1) ^ p.2).foldl (· + ·) 0
  else (c.zipIdx.map fun p => p.1 * hashPi p.2 % 2 ^ 32).foldl (· ^^^ ·) 0 % 2 ^ g.t

/-- c0 and w of a coordinate at resolution n (R254). -/
def cellOf (n : Nat) (x : Num) : Nat × Num :=
  let y := match x with
    | .inf neg => if neg then Num.fin false 0 0 else .fin false 1 0
    | .fin true _ _ => .fin false 0 0
    | y => if (Num.cmp y (.fin false 1 0)).isGT then .fin false 1 0 else y
  let p := (y.mul (.fin false n 0)).1
  let c := min p.floor (n - 1)
  (c, (p.sub (.fin false c 0)).1)

/-- The corners of a query at level l in ascending k: entry and weight (R254). -/
def Grid.corners (g : Grid) (l : Nat) (x : List Num) : List (Nat × Num) :=
  let n := g.res l
  let cells := x.map (cellOf n)
  (List.range (2 ^ g.d)).map fun k =>
    let c := cells.zipIdx.map fun p => p.1.1 + k / 2 ^ p.2 % 2
    let w := cells.zipIdx.foldl (fun (w : Num) p =>
      in64 (w.mul (if k / 2 ^ p.2 % 2 = 1 then p.1.2 else ((Num.fin false 1 0).sub p.1.2).1)).1) (.fin false 1 0)
    (g.entry n c, w)

/-- A query with any NaN coordinate. -/
def nanQuery (x : List Num) : Bool := x.any Num.isNan

/-! ### Updates at the fold unit (R257 to R259) -/

/-- u · 2^40 rounded to an integer by RNE; none for NaN, and past every bound for an infinity. -/
def shadowUnits (u : Num) : Option Int :=
  match u with
  | .nan _ => none
  | .inf neg => some (if neg then -(2 ^ 80) else 2 ^ 80)
  | .fin neg m e => some (if (80 : Int) < (Nat.log2 m : Int) + (e + 40) then (if neg then -(2 ^ 80) else 2 ^ 80)
      else (Num.toInt .rne 0 neg m (e + 40)).1)

/-- Bytes at a home of this package as a number, and a number stored there. -/
def State.cell (s : State) (pa n : Nat) : Nat := leNat (s.homeBytes pa n)
def State.setCell (s : State) (pa n v : Nat) : State := s.storeMem (s.key pa) (leBytes n v)

/-- SAT and SATCNT, in descriptor word 5, after a saturating or NaN add. -/
def State.gridSaturate (s : State) (pa : Nat) : State :=
  s.setCell pa 8 (fld 1 32 + satAdd (bits (s.cell pa 8) 0 32) 1 (2 ^ 32 - 1))

/-- ShadowAdd on the shadow word at `pa`, with descriptor word 5 at `sat` (R257). -/
def State.shadowAdd (s : State) (pa sat : Nat) (u : Num) : State :=
  match shadowUnits u with
  | none => s.gridSaturate sat
  | some v =>
      let r := signedOf 64 (s.cell pa 8) + v
      if r < -(2 ^ 63) ∨ 2 ^ 63 - 1 < r then
        (s.setCell pa 8 (wrapTo 64 (clamp r (-(2 ^ 63)) (2 ^ 63 - 1)))).gridSaturate sat
      else s.setCell pa 8 (wrapTo 64 r)

/-- The add of a relaxed scatter to the table element at `pa` (R257). -/
def State.tableAdd (s : State) (pa fmt : Nat) (u : Num) : State :=
  let f := (typeFmt fmt).getD fp32
  s.setCell pa (typeBytes fmt) (((f.decode (s.cell pa (typeBytes fmt))).add u).1.rne f).1

/-- The fold of one feature: read the shadow word at `pa`, convert, write the table element at `cell`, clear (R259). -/
def State.foldFeature (s : State) (pa cell fmt : Nat) (add : Bool) : State :=
  let f := (typeFmt fmt).getD fp32
  let v := (Num.ofInt (signedOf 64 (s.cell pa 8))).scale (-40)
  let y := if add then ((f.decode (s.cell cell (typeBytes fmt))).add v).1 else v
  (s.setCell cell (typeBytes fmt) (y.convert f .rne true 0).1).setCell pa 8 0

/-- An update at the home of `pa`: here, or by a message to another package in a traffic class (R250, R341; log 1). `ws` are
the bytes it writes (R201). -/
def State.atHome (s : State) (cls pa op : Nat) (x y : Word) (ws : List (Nat × Nat)) (f : State → State) : State :=
  let s := (ws.foldl (fun s w => s.cacheForget w.1 w.2) s).onLoc fun l => { l with cells := l.cells ++ ws }
  if s.remote pa then
    let r := s.newTag (paPkg pa)
    r.2.sendIn cls (paPkg pa) (.atomic pa op r.1 s.fab.pkg x y)
  else f s

/-- The updates that other packages ask this one for, by the operation codes of log 1 that R70 does not give: 16 + t the add
of VSCATA in type t, 32 ShadowAdd, 32 + fmt the add of a relaxed scatter, 48 + fmt and 56 + fmt the fold of a feature. -/
def State.foldRequest (s : State) (pa op : Nat) (x y : Word) : State :=
  if op < 32 then
    let t := op - 16
    let r := onType (arith (fun a b _ => a.add b) (some fun _ a b _ => a + b)) t (s.cell pa (typeBytes t)) x.toNat
    s.setCell pa (typeBytes t) r.1
  else if op = 32 then s.shadowAdd pa y.toNat (fp64.decode x.toNat)
  else if op < 48 then s.tableAdd pa (op - 32) (fp64.decode x.toNat)
  else s.foldFeature pa x.toNat (op % 8) (decide (56 ≤ op))

/-! ### The handle's copy (R256, R417) -/

/-- Word 0 as the command will use it, as far as it can be had now: the handle's copy, or the word at its home. -/
def State.gridCopy (s : State) (h : Nat) : Option Nat :=
  let y := s.core.handle h
  if y.gv then some y.gcopy.toNat
  else match s.peek s.core.ctx y.vbase with
    | .ok x => (match s.fetched x.1 8 with | .ok bs => some (leNat bs) | .error _ => none)
    | .error _ => none

/-- The checks of R256 at the first byte of the descriptor: KIND memory, the checks of R226. -/
def State.gridHandle (s : State) (h : Nat) (u : Use) : Act Target :=
  let y := s.core.handle h
  if y.kind ≠ 1 then .trap (protTrap 0 (if y.kind = 2 then 0 else y.vbase)) s else s.through h 0 1 u

/-- The descriptor copy of R417: held with GV = 1; with GV = 0 the handle checks come first, then word 0 is read at its home;
OPFMT for a malformed word. The bundle waits for an occupied engine before (R57, R124). -/
def State.gridWord (s : State) (e : BitVec 1) (h : Nat) (u : Use) : Act Nat :=
  let y := s.core.handle h
  if y.gv then .ok y.gcopy.toNat s
  else if s.core.seq.cyc < (s.core.engine e.toNat).busy then .hold (.engine e.toNat) s
  else (s.gridHandle h u).bind fun t s =>
    match s.fetched t.pa 8 with
    | .error f => s.fails f
    | .ok bs =>
        if gridWordBad (leNat bs) then s.raise cOpfmt
        else .ok (leNat bs) (s.onHandle h fun y => { y with gv := true, gcopy := w64 (leNat bs) })

/-- Registers of a span of `n` FP32 elements from `base` (R255). -/
def gridSpan (base n : Nat) : List Nat := spanRegs base ((n + 1023) / 1024)

/-- The spans of a command with a copy of word 0: coordinates from `a`, results or gradients from `d` (R255, R257). -/
def gridSpansOf (w q : Nat) (a d : BitVec 8) : List Nat × List Nat :=
  (gridSpan a.toNat (q * gridD w), gridSpan d.toNat (q * gridL w * gridF w))

/-- The spans of a command as they stand before its issue: the first registers alone while no copy of the descriptor can be
had (R417). -/
def State.gridSpans (s : State) (e : BitVec 1) (d a : BitVec 8) (h : Nat) : List Nat × List Nat :=
  let q := (s.mode e).vl
  match s.gridCopy h with
  | some w => gridSpansOf w q a d
  | none => ([a.toNat], [d.toNat])

/-- The FP32 elements of a span. -/
def State.spanElems (s : State) (rs : List Nat) (n : Nat) : List Nat := (rs.flatMap fun r => s.elems r 4 1024).take n

/-- The queries of a command. -/
def queriesOf (d : Nat) (xs : List Nat) (q : Nat) : List (List Num) := chunks d q (xs.map fp32.decode)

/-- Type and handle: what HGLD and HGSCAT check at issue (R255, R256). -/
def State.gridIssue (s : State) (e : BitVec 1) (h : Nat) (u : Use) : Act Target :=
  if (s.mode e).type ≠ 6 then s.raise cOpfmt else s.gridHandle h u

/-- LIMIT covers the whole region, as its descriptor gives it (R256). The answer is the grid, or the fault that the fold
logic finds. -/
def State.gridLimit (s : State) (h w : Nat) : Act (Except CmdFault Grid) :=
  let y := s.core.handle h
  match s.gridDesc s.core.ctx y.vbase w with
  | .error f => if isLack f.cause then s.fails f else .ok (.error f) s
  | .ok r =>
      if y.limit < r.1.extent then .trap (protTrap 0 y.vbase) s
      else match s.gridCheck r.1 r.2 with
        | .error f => if isLack f.cause then s.fails f else .ok (.error f) s
        | .ok g => .ok (.ok g) s

/-! ### HGLD (R255, R256) -/

/-- The features of a query: level by level, feature by feature (R255). -/
def State.interpolate (s : State) (g : Grid) (x : List Num) : Except CmdFault (List Nat) :=
  if nanQuery x then .ok (List.replicate (g.l * g.f) fp32.nan)
  else (List.range g.l).foldlM (fun acc l => do
    let cs := g.corners l x
    let ys ← (List.range g.f).mapM fun f => do
      let sum ← cs.foldlM (fun (sum : Num) c => do
        let v ← s.gridRead g (g.ptoff + g.w * g.at l c.1 f) g.w
        .ok (in64 (sum.add (c.2.mul (g.fmt.decode v)).1).1)) (Num.fin false 0 0)
      .ok (sum.rne fp32).1
    .ok (acc ++ ys)) []

/-- The results of every query. -/
def State.gatherAll (s : State) (g : Grid) (qs : List (List Num)) : Except CmdFault (List Nat) :=
  qs.foldlM (fun acc x => do
    let ys ← s.interpolate g x
    .ok (acc ++ ys)) []

/-- Destination registers that fill together in a variable time (R255). -/
def State.gridDeliver (s : State) (e : BitVec 1) (rs : List Nat) (ds : List Dest) : State :=
  let s := rs.foldl (fun s r => s.emptyV (s.core.vphys r)) (s.occupy e.toNat 1)
  s.awaits { dst := ds }

/-- How HGLD goes on behind its checks: results, a fault of the fold logic that fills the span with NaN, marked faulted
(R256), or a translation fault, which aborts the task at its next boundary and leaves the span empty (R230, R261). -/
def State.gridEnd (s : State) (e : BitVec 1) (d : BitVec 8) (rs : List Nat) (r : Except CmdFault (List Nat)) : Res :=
  match r with
  | .ok ys =>
      let ds := rs.zipIdx.map fun p =>
        Dest.v (s.core.vphys p.1) 0 (((ys.drop (1024 * p.2)).take 1024).flatMap (leBytes 4)) true e.toNat
      (s.gridDeliver e rs ds).ok
  | .error f =>
      if isLack f.cause then s.fails f
      else if f.cause = cXlat then
        ((rs.foldl (fun s r => s.emptyV (s.core.vphys r)) (s.occupy e.toNat 1)).postpone f.trap).ok
      else
        let nan := (List.replicate 1024 fp32.nan).flatMap (leBytes 4)
        let ds := rs.flatMap fun p =>
          [Dest.v (s.core.vphys p) 0 nan true e.toNat, Dest.vfault (s.core.vphys p) f.cause d.toNat f.reason f.va]
        (s.gridDeliver e rs ds).ok

/-- HGLD (R255). With no query it reads nothing. -/
def execHgld (e : BitVec 1) (w : Bool) (d a : BitVec 8) (h : BitVec 4) (s : State) : Host.Outcome State Fault Refusal :=
  settle (2 + e.toNat) ((s.gridWord e h.toNat .gather).bind fun c s =>
    let q := (s.mode e).vl
    let sp := gridSpansOf c q a d
    s.vready e w [] sp.1 sp.2 fun s =>
      (s.gridIssue e h.toNat .gather).bind fun _ s =>
        if q = 0 then (s.occupy e.toNat 1).ok
        else (s.gridLimit h.toNat c).bind fun r s =>
          s.gridEnd e d sp.2 (r.bind fun g => s.gatherAll g (queriesOf g.d (s.spanElems sp.1 (q * g.d)) q)))

/-! ### HGSCAT (R257, R258) -/

/-- One contribution: W_k · gradient to feature f of an entry (R257). A region in another package gets it in bulk class 0
(R250; log 104). -/
def State.contribute (s : State) (g : Grid) (ordered : Bool) (l e f : Nat) (wk : Num) (grad : Num) :
    Except CmdFault State := do
  let u := in64 (wk.mul grad).1
  let code := w64 (u.rne fp64).1
  let fmt := gridFmt g.w0
  if ordered then
    let pa ← s.gridPa g (g.shoff + 8 * g.at l e f) true
    let sat ← s.gridPa g 40 true
    .ok (s.atHome 0 pa 32 code (w64 sat) [(pa, 8), (sat, 8)] fun s => s.shadowAdd pa sat u)
  else
    let pa ← s.gridPa g (g.gtoff + g.w * g.at l e f) true
    .ok (s.atHome 0 pa (32 + fmt) code 0 [(pa, g.w)] fun s => s.tableAdd pa fmt u)

/-- The contributions of a query in the order of R257, until one faults. -/
def State.scatterQuery (s : State) (g : Grid) (ordered : Bool) (x : List Num) (grads : List Nat) :
    State × Option CmdFault :=
  if nanQuery x then (s, none)
  else
    let jobs := (List.range g.l).flatMap fun l =>
      (g.corners l x).flatMap fun c => (List.range g.f).map fun f => (l, c.1, f, c.2)
    jobs.foldl (fun (acc : State × Option CmdFault) j =>
      match acc.2 with
      | some _ => acc
      | none =>
          match acc.1.contribute g ordered j.1 j.2.1 j.2.2.1 j.2.2.2 (fp32.decode (grads.getD (j.1 * g.f + j.2.2.1) 0)) with
          | .ok s => (s, none)
          | .error f => (acc.1, some f)) (s, none)

/-- The contributions of every query. -/
def State.scatterQueries (s : State) (g : Grid) (ordered : Bool) :
    List (List Num) → List (List Nat) → State × Option CmdFault
  | x :: xs, y :: ys =>
      let r := s.scatterQuery g ordered x y
      match r.2 with
      | some _ => r
      | none => r.1.scatterQueries g ordered xs ys
  | _, _ => (s, none)

/-- Tags of messages sent since an earlier state. -/
def State.tagsSince (s old : State) : List Nat := (s.fab.pending.drop old.fab.pending.length).map Prod.fst

/-- The scatter's command, whose token retires later: once other packages have acknowledged its contributions, faulted where
the fold logic met a fault (R152, R256, R258). A translation fault aborts the task at its next boundary (R261). -/
def State.scatterEnd (s : State) (c : Cmd) (tags : List Nat) (f : Option CmdFault) : State :=
  let ws := s.core.loc.cells
  let s := (s.onLoc fun l => { l with cells := [] }).onEng fun g =>
    { g with qv := g.qv ++ [{ c with started := true, finished := true, fault := f, tags := tags, wrote := ws }] }
  match f with
  | some x => if x.cause = cXlat then s.postpone (tokenFault s.core c.tok x |> fun t => { t with addr := x.va }) else s
  | none => s

/-- HGSCAT (R257): its contributions are applied, or sent, as it issues. -/
def execHgscat (e : BitVec 1) (w : Bool) (d a : BitVec 8) (h : BitVec 4) (o : BitVec 1) (t : BitVec 3) (s : State) :
    Host.Outcome State Fault Refusal :=
  let tok := 56 + t.toNat
  settle (2 + e.toNat) ((s.gridWord e h.toNat .counter).bind fun c s =>
    let q := (s.mode e).vl
    let sp := gridSpansOf c q a d
    s.vready e w [] (sp.1 ++ sp.2) [] fun s =>
      (s.gridIssue e h.toNat .counter).bind fun _ s =>
        if q = 0 then (s.produce tok).bind fun _ s => ((s.occupy e.toNat 1).retire tok none).ok
        else (s.gridLimit h.toNat c).bind fun r s0 =>
          (s0.produce tok).bind fun _ s =>
            let s := s.occupy e.toNat 1
            let cmd := bareCmd (.hgscat e w d a h o t) s.core.seq.pc tok
            match r with
            | .error f => (s.scatterEnd cmd [] (some f)).ok
            | .ok g =>
                let xs := queriesOf g.d (s.spanElems sp.1 (q * g.d)) q
                let ys := chunks (g.l * g.f) q (s.spanElems sp.2 (q * g.l * g.f))
                let z := s.scatterQueries g (o == 1) xs ys
                match z.2 with
                | some f => if isLack f.cause then s0.fails f else (z.1.scatterEnd cmd (z.1.tagsSince s) (some f)).ok
                | none => (z.1.scatterEnd cmd (z.1.tagsSince s) none).ok)

/-! ### The steps of HGFOLD (R259) -/

/-- The steps of an HGFOLD: (level, first entry) of every run of 512 entries of the levels its mask selects. -/
def Grid.foldSteps (g : Grid) (mask : Nat) : List (Nat × Nat) :=
  ((List.range g.l).filter fun l => bit mask l).flatMap fun l =>
    (List.range ((2 ^ g.t + 511) / 512)).map fun k => (l, 512 * k)

end Sys2Proof.Machine
end

