-- ==== Sys2Proof/Machine/Copy.lean ====
section
/-! DEFINITION. The C slots: copies, transposes, conversions, sends, fills, gathers, prefetches, the optimiser step,
sparse streams, HGFOLD (R174 to R185, R259). -/

namespace Sys2Proof.Machine

/-! ### Registers (R156) -/

/-- FLAG of XC1. -/
def flagPkg (x : Word) : Nat := bits x.toNat 32 6
def flagCore (x : Word) : Nat := bits x.toNat 24 8
def flagN (x : Word) : Nat := bits x.toNat 8 9
def flagNo (x : Word) : Nat := bits x.toNat 0 5
def flagDirty (x : Word) : Bool := bits x.toNat 38 26 != 0 || bits x.toNat 17 7 != 0 || bits x.toNat 5 3 != 0

/-- Origins and blocks. -/
def copyOrigin (x : Word) : Nat × Nat := (bits x.toNat 8 8, bits x.toNat 0 8)
def blockNI (x : Word) : Nat := bits x.toNat 0 8
def blockNJ (x : Word) : Nat := bits x.toNat 8 8
def blockDirty (x : Word) : Bool := bits x.toNat 16 48 != 0 || blockNI x == 0 || blockNJ x == 0
def originBad (x : Word) : Bool := bits x.toNat 16 48 != 0

/-- CVT. -/
def cvtMode (x : Word) : Nat := bits x.toNat 0 3
def cvtSat (x : Word) : Bool := bit x.toNat 3
def cvtK4 (x : Word) : Nat := bits x.toNat 4 2
def cvtBad (x : Word) : Bool := bits x.toNat 6 58 != 0 || decide (4 < cvtMode x)

/-- A staging register of a copy command. -/
def Cmd.xr (c : Cmd) (k : Nat) : Word := c.x.getD k 0

/-! ### Issue (R149, R174, R175) -/

/-- A C command at issue: a full queue holds; then register 0, FLAG under RF, the command's own checks, the swizzle
check of every TID it names, and its token. -/
def State.copyIssue (s : State) (e : BitVec 1) (i : Instr) (t : BitVec 6) (rf : Bool)
    (check : Cmd → State → Act (Cmd × List TidWords)) : Res :=
  let q := 1 + e.toNat
  if 8 ≤ s.core.eng.waiting q then .hold (.queue q) s
  else
    let x := s.core.staged e.toNat
    let f := x.getD 1 0
    (s.consumes (x.getD 0 0).toNat).bind fun uses s =>
      if rf && flagDirty f then s.raise cIllegal
      else if rf && !s.fab.domain.contains (flagPkg f) then s.raiseWhy cProt 0
      else (check { bareCmd i s.core.seq.pc t.toNat with x := x, uses := uses } s).bind fun r s =>
        if r.2.any fun w => w.swz && !w.pool then s.raise cOpfmt else s.enqueue q r.1

/-- The scratchpad check of n bytes of a pool TID (R174). -/
def State.poolCheck (s : State) (t : TidWords) (a : Int) (n : Nat) : Res :=
  if t.pool && decide (0 < n) && !s.core.inPool a n then s.raiseWhy cProt 4 else s.ok

/-- The address at a signed byte offset from a TID's BASE. -/
def TidWords.offset (t : TidWords) (x : Word) : Int := (t.base : Int) + x.toInt

/-- CPY (R176). -/
def execCpy (e : BitVec 1) (t a b : BitVec 6) (c : BitVec 2) (f : BitVec 1) (s : State) :
    Host.Outcome State Fault Refusal :=
  settle (5 + e.toNat) (s.copyIssue e (.cpy e t a b c f) t (f == 1) fun c s =>
    let x := s.core.tid a.toNat
    let y := s.core.tid b.toNat
    let n := (c.xr 4).toNat
    (s.poolCheck x (x.offset (c.xr 2)) n).bind fun _ s => (s.poolCheck y (y.offset (c.xr 3)) n).bind fun _ s =>
      .ok ({ c with a := x, b := y }, [x, y]) s)

/-- CPY2 (R176). -/
def execCpy2 (e : BitVec 1) (t a b : BitVec 6) (c : BitVec 2) (f : BitVec 1) (s : State) :
    Host.Outcome State Fault Refusal :=
  settle (5 + e.toNat) (s.copyIssue e (.cpy2 e t a b c f) t (f == 1) fun c s =>
    let x := s.core.tid a.toNat
    let y := s.core.tid b.toNat
    let n := if bits (c.xr 4).toNat 32 32 = 0 then 0 else bits (c.xr 4).toNat 0 32
    let last : Int := bits (c.xr 4).toNat 32 32 - 1
    (s.poolCheck x (x.offset (c.xr 2)) n).bind fun _ s =>
      (s.poolCheck x (x.offset (c.xr 2) + last * (c.xr 5).toInt) n).bind fun _ s =>
        (s.poolCheck y (y.offset (c.xr 3)) n).bind fun _ s =>
          (s.poolCheck y (y.offset (c.xr 3) + last * (c.xr 6).toInt) n).bind fun _ s =>
            .ok ({ c with a := x, b := y }, [x, y]) s)

/-- The CHK values that a command permits for source and destination (R175; log 20). -/
def ctileChk (a b : Bool) (k : Nat) : Bool :=
  match a, b with
  | true, true => true
  | true, false => k == 0 || k == 1
  | false, false => k == 0
  | false, true => k == 2
def cxposeChk (a b : Bool) (k : Nat) : Bool := if a then k == 0 || k == 1 else k == (if b then 2 else 0)
def cconvChk (a b : Bool) (k : Nat) : Bool :=
  match a, b with
  | true, true => k == 3
  | true, false => k == 0 || k == 1
  | false, false => k == 0
  | false, true => k == 2
def coptmChk (a b : Bool) (k : Nat) : Bool := (a || !bit k 0) && (b || !bit k 1)

/-- The checks that tile commands with a source and a destination block share: registers, CHK, the command's own format
rule, views, bounds and pool (R156, R161, R174). `dn` is the destination's block. -/
def State.tileIssue (s : State) (c : Cmd) (x y : TidWords) (bad : Bool) (formats : Bool) (si sj di dj : Nat) :
    Act (Cmd × List TidWords) :=
  let o := copyOrigin (c.xr 2)
  let p := copyOrigin (c.xr 3)
  if originBad (c.xr 2) || originBad (c.xr 3) || blockDirty (c.xr 4) || bad then s.raise cIllegal
  else if !formats || !x.viewable || !y.viewable then s.raise cOpfmt
  else (s.blockCheck x o.1 o.2 si sj).bind fun _ s => (s.blockCheck y p.1 p.2 di dj).bind fun _ s =>
    .ok ({ c with a := x, b := y }, [x, y]) s

/-- CTILE (R177). -/
def execCtile (e : BitVec 1) (t a b : BitVec 6) (c k : BitVec 2) (f : BitVec 1) (s : State) :
    Host.Outcome State Fault Refusal :=
  settle (5 + e.toNat) (s.copyIssue e (.ctile e t a b c k f) t (f == 1) fun c s =>
    let x := s.core.tid a.toNat
    let y := s.core.tid b.toNat
    let ni := blockNI (c.xr 4)
    let nj := blockNJ (c.xr 4)
    s.tileIssue c x y (!ctileChk x.chk y.chk k.toNat) (x.fmt == y.fmt) ni nj ni nj)

/-- CXPOSE (R177). -/
def execCxpose (e : BitVec 1) (t a b : BitVec 6) (c k : BitVec 2) (f : BitVec 1) (s : State) :
    Host.Outcome State Fault Refusal :=
  settle (5 + e.toNat) (s.copyIssue e (.cxpose e t a b c k f) t (f == 1) fun c s =>
    let x := s.core.tid a.toNat
    let y := s.core.tid b.toNat
    let ni := blockNI (c.xr 4)
    let nj := blockNJ (c.xr 4)
    s.tileIssue c x y (!cxposeChk x.chk y.chk k.toNat) (x.fmt == y.fmt && fmtBits x.fmt != 4) ni nj nj ni)

/-- CCONV (R178). -/
def execCconv (e : BitVec 1) (t a b : BitVec 6) (c k : BitVec 2) (f : BitVec 1) (s : State) :
    Host.Outcome State Fault Refusal :=
  settle (5 + e.toNat) (s.copyIssue e (.cconv e t a b c k f) t (f == 1) fun c s =>
    let x := s.core.tid a.toNat
    let y := s.core.tid b.toNat
    let ni := blockNI (c.xr 4)
    let nj := blockNJ (c.xr 4)
    s.tileIssue c x y (!cconvChk x.chk y.chk k.toNat || cvtBad (c.xr 5)) true ni nj ni nj)

/-- CSEND (R179). -/
def execCsend (e : BitVec 1) (t a : BitVec 6) (c : BitVec 2) (f : BitVec 1) (s : State) :
    Host.Outcome State Fault Refusal :=
  settle (5 + e.toNat) (s.copyIssue e (.csend e t a c f) t (f == 1) fun c s =>
    let x := s.core.tid a.toNat
    let o := copyOrigin (c.xr 2)
    if originBad (c.xr 2) || blockDirty (c.xr 4) || bits (c.xr 3).toNat 14 50 != 0 then s.raise cIllegal
    else if !x.viewable then s.raise cOpfmt
    else (s.blockCheck x o.1 o.2 (blockNI (c.xr 4)) (blockNJ (c.xr 4))).bind fun _ s => .ok ({ c with a := x }, [x]) s)

/-- CFILL (R180). -/
def execCfill (e : BitVec 1) (t b : BitVec 6) (c k : BitVec 2) (f : BitVec 1) (s : State) :
    Host.Outcome State Fault Refusal :=
  settle (5 + e.toNat) (s.copyIssue e (.cfill e t b c k f) t (f == 1) fun c s =>
    let y := s.core.tid b.toNat
    let p := copyOrigin (c.xr 3)
    if originBad (c.xr 3) || blockDirty (c.xr 4) || k.toNat != (if y.chk then 2 else 0) then s.raise cIllegal
    else if !y.viewable then s.raise cOpfmt
    else (s.blockCheck y p.1 p.2 (blockNI (c.xr 4)) (blockNJ (c.xr 4))).bind fun _ s => .ok ({ c with b := y }, [y]) s)

/-- CGATH (R181). The rows that it gathers are not known at issue: the pool check covers the whole source view, which R174 leaves
open (log 115). -/
def execCgath (e : BitVec 1) (t a b : BitVec 6) (c k : BitVec 2) (f : BitVec 1) (s : State) :
    Host.Outcome State Fault Refusal :=
  settle (5 + e.toNat) (s.copyIssue e (.cgath e t a b c k f) t (f == 1) fun c s =>
    let x := s.core.tid a.toNat
    let y := s.core.tid b.toNat
    let n := (c.xr 4).toNat
    let row := (c.xr 3).toNat
    let tiles := (row + n - 1) / 64 + 1 - row / 64
    let ok : Act (Cmd × List TidWords) := .ok ({ c with a := x, b := y }, [x, y]) s
    if decide (2 ^ 32 ≤ n) || k.toNat != (if y.chk then 2 else 0) then s.raise cIllegal
    else if x.fmt != y.fmt || fmtBits x.fmt == 4 || x.viewCols != y.viewCols || !x.viewable || !y.viewable then
      s.raise cOpfmt
    else if (c.xr 5).toNat % 4 ≠ 0 then s.raise cAlign
    else if n = 0 then ok
    else if !s.core.inPool (c.xr 5).toNat (4 * n) then s.raiseWhy cProt 4
    else (s.blockCheck x 0 0 x.viewRows x.viewCols).bind fun _ s =>
      (s.blockCheck y (row / 64) 0 tiles y.viewCols).bind fun _ s => .ok ({ c with a := x, b := y }, [x, y]) s)

/-- CPREF's issue (R174, R182): no check of bounds or of the pool. -/
def State.prefetchIssue (s : State) (e : BitVec 1) (i : Instr) (t a : BitVec 6) : Res :=
  s.copyIssue e i t false fun c s =>
    let x := s.core.tid a.toNat
    if originBad (c.xr 2) || blockDirty (c.xr 4) then s.raise cIllegal
    else if !x.viewable then s.raise cOpfmt else .ok ({ c with a := x }, [x]) s

/-- CPREF into the die cache (R182). -/
def execCpref (e : BitVec 1) (t a : BitVec 6) (c : BitVec 2) (s : State) : Host.Outcome State Fault Refusal :=
  settle (5 + e.toNat) (s.prefetchIssue e (.cpref e t a c) t a)

/-- CPREF into the first-level cache (R182). -/
def execCprefL1 (e : BitVec 1) (t a : BitVec 6) (c : BitVec 2) (s : State) : Host.Outcome State Fault Refusal :=
  settle (5 + e.toNat) (s.prefetchIssue e (.cprefL1 e t a c) t a)

/-- COPTM's issue (R183). -/
def State.optimIssue (s : State) (e : BitVec 1) (i : Instr) (t a b : BitVec 6) (k : BitVec 2) (f : BitVec 1) : Res :=
  s.copyIssue e i t (f == 1) fun c s =>
    let x := s.core.tid a.toNat
    let y := s.core.tid b.toNat
    let ni := blockNI (c.xr 4)
    let nj := blockNJ (c.xr 4)
    let at5 := (c.xr 5).toNat
    let real (w : TidWords) : Bool := w.fmt == 5 || w.fmt == 6
    (s.tileIssue c x y (!coptmChk x.chk y.chk k.toNat) (real x && real y) ni nj ni nj).bind fun r s =>
      if at5 % 32 ≠ 0 then s.raise cAlign
      else if !s.core.inPool at5 32 then s.raiseWhy cProt 4 else .ok r s

/-- COPTM, SGDM (R183). -/
def execCoptmSgdm (e : BitVec 1) (t a b : BitVec 6) (c k : BitVec 2) (f : BitVec 1) (s : State) :
    Host.Outcome State Fault Refusal := settle (5 + e.toNat) (s.optimIssue e (.coptmSgdm e t a b c k f) t a b k f)

/-- COPTM, ADAM (R183). -/
def execCoptmAdam (e : BitVec 1) (t a b : BitVec 6) (c k : BitVec 2) (f : BitVec 1) (s : State) :
    Host.Outcome State Fault Refusal := settle (5 + e.toNat) (s.optimIssue e (.coptmAdam e t a b c k f) t a b k f)

/-- CSPARSE's issue: `w` is the TID of the tiles with its origin, `v` that of the stream with its offset (R184). The number of
pairs is not known at issue: the pool check covers the 16 bytes of the header, and the pairs are checked as they are moved, which
R174 leaves open (log 115). -/
def State.sparseIssue (s : State) (c : Cmd) (x y w v : TidWords) (org off : Word) : Act (Cmd × List TidWords) :=
  let o := copyOrigin org
  if originBad org || blockDirty (c.xr 4) then s.raise cIllegal
  else if x.fmt != y.fmt || fmtBits x.fmt == 4 || !w.viewable || !v.viewable then s.raise cOpfmt
  else (s.blockCheck w o.1 o.2 (blockNI (c.xr 4)) (blockNJ (c.xr 4))).bind fun _ s =>
    (s.poolCheck v (v.offset off) 16).bind fun _ s => .ok ({ c with a := x, b := y }, [x, y]) s

/-- CSPARSE, pack (R184). -/
def execCsparsePack (e : BitVec 1) (t a b : BitVec 6) (c : BitVec 2) (f : BitVec 1) (s : State) :
    Host.Outcome State Fault Refusal :=
  settle (5 + e.toNat) (s.copyIssue e (.csparsePack e t a b c f) t (f == 1) fun c s =>
    let x := s.core.tid a.toNat
    let y := s.core.tid b.toNat
    s.sparseIssue c x y x y (c.xr 2) (c.xr 3))

/-- CSPARSE, unpack (R184). -/
def execCsparseUnpack (e : BitVec 1) (t a b : BitVec 6) (c : BitVec 2) (f : BitVec 1) (s : State) :
    Host.Outcome State Fault Refusal :=
  settle (5 + e.toNat) (s.copyIssue e (.csparseUnpack e t a b c f) t (f == 1) fun c s =>
    let x := s.core.tid a.toNat
    let y := s.core.tid b.toNat
    s.sparseIssue c x y y x (c.xr 3) (c.xr 2))

/-- HGFOLD's issue (R259): the handle is checked against the region as R256 does; what the fold logic finds waits for
the token. -/
def State.foldIssue (s : State) (e : BitVec 1) (i : Instr) (t : BitVec 6) (f : BitVec 1) : Res :=
  s.copyIssue e i t (f == 1) fun c s =>
    if bits (c.xr 2).toNat 4 60 != 0 || bits (c.xr 3).toNat 16 48 != 0 then s.raise cIllegal
    else
      let h := (c.xr 2).toNat
      let y := s.core.handle h
      let done (s : State) : Act (Cmd × List TidWords) := .ok ({ c with hyper := [y.vbase] }, []) s
      let later (f : CmdFault) (s : State) : Act (Cmd × List TidWords) := if isLack f.cause then s.fails f else done s
      (s.gridHandle h .counter).bind fun g s =>
        match s.fetched g.pa 8 with
        | .error f => later f s
        | .ok bs => match s.gridDesc s.core.ctx y.vbase (leNat bs) with
          | .error f => later f s
          | .ok r => if !gridWordBad (leNat bs) && decide (y.limit < r.1.extent) then .trap (protTrap 0 y.vbase) s else done s

/-- HGFOLD (R259). -/
def execHgfold (e : BitVec 1) (t : BitVec 6) (c : BitVec 2) (f : BitVec 1) (s : State) :
    Host.Outcome State Fault Refusal := settle (5 + e.toNat) (s.foldIssue e (.hgfold e t c f) t f)

/-- HGFOLD.ADD (R259). -/
def execHgfoldAdd (e : BitVec 1) (t : BitVec 6) (c : BitVec 2) (f : BitVec 1) (s : State) :
    Host.Outcome State Fault Refusal := settle (5 + e.toNat) (s.foldIssue e (.hgfoldAdd e t c f) t f)

/-! ### Bytes (R176) -/

/-- An address of a byte command. -/
def vaOf (a : Int) : Nat := wrapTo 64 a

/-- Bytes [p, p + n) of the progress of a copy of rows of `rb` bytes. -/
def engCopyRows (x y : TidWords) (s0 t0 ps pt : Int) (rb : Nat) : Nat → Nat → Nat → Eng Unit
  | 0, _, _ => pure ()
  | k + 1, p, n =>
      if n = 0 then pure ()
      else do
        let q := p / rb
        let o := p % rb
        let m := min n (rb - o)
        let b ← engRead x.pool (vaOf (s0 + q * ps + o)) m
        engWrite y.pool (vaOf (t0 + q * pt + o)) b .write
        engCmd fun c => { c with bytes := c.bytes + m }
        engCopyRows x y s0 t0 ps pt rb k (p + m) (n - m)

/-- Rows, bytes of a row, and the two pitches of CPY and CPY2. -/
def Cmd.rowsOf (c : Cmd) : Nat × Nat × Int × Int :=
  match c.instr with
  | .cpy2 .. => (bits (c.xr 4).toNat 32 32, bits (c.xr 4).toNat 0 32, (c.xr 5).toInt, (c.xr 6).toInt)
  | _ => (1, (c.xr 4).toNat, 0, 0)

/-- A step of CPY or CPY2: 4 KiB of progress (R186). -/
def engCopyStep : Eng Unit := do
  let c ← engC
  let r := c.rowsOf
  let p := 4096 * c.step
  engCopyRows c.a c.b (c.a.offset (c.xr 2)) (c.b.offset (c.xr 3)) r.2.2.1 r.2.2.2 r.2.1 4097 p (min 4096 (r.1 * r.2.1 - p))

/-! ### Tile copies (R177, R178, R180) -/

/-- The tile of step k: block row and column. -/
def Cmd.at (c : Cmd) : Nat × Nat := (c.step / blockNJ (c.xr 4), c.step % blockNJ (c.xr 4))
/-- The CHK field. -/
def Cmd.chkField (c : Cmd) : Nat :=
  match c.instr with
  | .ctile _ _ _ _ _ k _ => k.toNat
  | .cxpose _ _ _ _ _ k _ => k.toNat
  | .cconv _ _ _ _ _ k _ => k.toNat
  | .cfill _ _ _ _ k _ => k.toNat
  | .cgath _ _ _ _ _ k _ => k.toNat
  | .coptmSgdm _ _ _ _ _ k _ => k.toNat
  | .coptmAdam _ _ _ _ _ k _ => k.toNat
  | _ => 0

/-- A source tile as read and, where `v` asks, verified (R175). -/
def engSource (t : TidWords) (i j : Nat) (v : Bool) : Eng Checked := do
  let r ← engTile t i j true
  if v && t.chk then engVerify t r 1
  else return { raw := r, total := (Header.ofBytes r.head).total, corr := false, nf := false }

/-- Column and row vectors exchanged. -/
def swapVec (v : List Nat) : List Nat :=
  (v.drop 64).take 64 ++ v.take 64 ++ (v.drop 192).take 64 ++ (v.drop 128).take 64

/-- The header of the destination: position, and what it takes from the source's header (R234). -/
def destHeader (f : Nat) (src : Checked) (has : Bool) (row col : Nat) (keep : Bool) : Header :=
  let h := Header.ofBytes src.raw.head
  { total := src.total, row := row, col := col, fmt := f
    corr := src.corr || (keep && has && h.corr)
    nf := src.nf || (keep && has && h.nf)
    nadd := if has then h.nadd else 1
    gen := if has then h.gen else 0 }

/-- A step of CTILE (R177, R243): codes and scale bytes as stored, vectors copied or regenerated. -/
def engTileStep : Eng Unit := do
  let c ← engC
  let x := c.a
  let y := c.b
  let k := c.chkField
  let p := c.at
  let o := copyOrigin (c.xr 2)
  let d := copyOrigin (c.xr 3)
  let q := x.stored (o.1 + p.1) (o.2 + p.2)
  let z := y.stored (d.1 + p.1) (d.2 + p.2)
  let r ← engSource x q.1 q.2 (bit k 0)
  let codes := y.view (x.view r.raw.codes)
  let copied := x.chk && y.chk && !bit k 1
  let h := destHeader y.fmt r x.chk (d.1 + p.1) (d.2 + p.2) copied
  let vec := if x.ord == y.ord then r.raw.vec else swapVec r.raw.vec
  let tail := if !y.chk then []
    else if copied then vecBytes y.fmt vec ++ h.bytes
    else regenerated y.fmt (y.nums codes r.raw.scales) h
  engTileStore y z.1 z.2 codes r.raw.scales tail
  engCmd fun c => { c with bytes := c.bytes + y.size }

/-- The transposed element index. -/
def flipIndex (x : Nat) : Nat := 64 * (x % 64) + x / 64

/-- LH of a TID's blocks as they appear in its view (R161). CXPOSE compares these, where R177 names the LH fields of the AG sets
and does not speak of a TID with ORD = 1: the model's choice (log 115). -/
def TidWords.viewLh (t : TidWords) : Nat := if t.ord then 5 - agLh t.ag else agLh t.ag

/-- A step of CXPOSE (R177, R243). -/
def engTransposeStep : Eng Unit := do
  let c ← engC
  let x := c.a
  let y := c.b
  let k := c.chkField
  let p := c.at
  let o := copyOrigin (c.xr 2)
  let d := copyOrigin (c.xr 3)
  let q := x.stored (o.1 + p.1) (o.2 + p.2)
  let z := y.stored (d.1 + p.2) (d.2 + p.1)
  let r ← engSource x q.1 q.2 (bit k 0)
  let moved := !fmtBlock x.fmt || y.viewLh == 5 - x.viewLh
  let same := x.ord != y.ord
  let turn {α : Type} (l : List α) : List α := if same then l else transposed l
  if moved then
    let codes := turn r.raw.codes
    let scales := if !fmtBlock x.fmt then []
      else (List.range 128).map fun b =>
        let e := (blockElems y.ag b).headD 0
        scaleOf x.ag r.raw.scales (if same then e else flipIndex e)
    let h := destHeader y.fmt r x.chk (d.1 + p.2) (d.2 + p.1) x.chk
    let tail := if !y.chk then []
      else if x.chk then vecBytes y.fmt (if same then r.raw.vec else swapVec r.raw.vec) ++ h.bytes
      else regenerated y.fmt (y.nums codes scales) h
    engTileStore y z.1 z.2 codes scales tail
  else
    let e := encodeTile y.fmt y.ag 0 .rne true [] (turn (x.nums r.raw.codes r.raw.scales))
    let h : Header := { total := 0, row := d.1 + p.2, col := d.2 + p.1, fmt := y.fmt, corr := r.corr, nf := r.nf, nadd := 1, gen := 0 }
    engTileStore y z.1 z.2 e.1 e.2 (if y.chk then regenerated y.fmt (y.nums e.1 e.2) h else [])
  engCmd fun c => { c with bytes := c.bytes + y.size }

/-- Draw n words of a copy engine's stochastic state (R35, R36). -/
def State.drawsC (s : State) (e n : Nat) : List Nat × State :=
  if e = 0 then
    let r := drawWords n s.core.vec.crs0
    (r.1, s.onVec fun v => { v with crs0 := r.2 })
  else
    let r := drawWords n s.core.vec.crs1
    (r.1, s.onVec fun v => { v with crs1 := r.2 })

/-- A step of CCONV on engine e (R178, R243). -/
def engConvertStep (e : Nat) : Eng Unit := do
  let c ← engC
  let x := c.a
  let y := c.b
  let p := c.at
  let o := copyOrigin (c.xr 2)
  let d := copyOrigin (c.xr 3)
  let cvt := c.xr 5
  let q := x.stored (o.1 + p.1) (o.2 + p.2)
  let z := y.stored (d.1 + p.1) (d.2 + p.2)
  let r ← engSource x q.1 q.2 (bit c.chkField 0)
  let ws ← if cvtMode cvt = 4 then (do
      let w := (← engS).drawsC e 4096
      engOn fun _ => w.2
      return w.1)
    else pure []
  let xs := y.view (x.view (x.nums r.raw.codes r.raw.scales))
  let t := encodeTile y.fmt y.ag (cvtK4 cvt) (RMode.ofCode (cvtMode cvt)) (cvtSat cvt) (if ws.isEmpty then [] else y.view ws) xs
  let h := destHeader y.fmt r x.chk (d.1 + p.1) (d.2 + p.2) false
  engTileStore y z.1 z.2 t.1 t.2 (if y.chk then regenerated y.fmt (y.nums t.1 t.2) h else [])
  engCmd fun c => { c with bytes := c.bytes + y.size }

/-- A step of CFILL (R180). -/
def engFillStep : Eng Unit := do
  let c ← engC
  let y := c.b
  let p := c.at
  let d := copyOrigin (c.xr 3)
  let z := y.stored (d.1 + p.1) (d.2 + p.2)
  let v := (c.xr 5).toNat
  let code := if fmtBlock y.fmt then bits v 0 4 else bits v 0 (fmtBits y.fmt)
  let codes := List.replicate 4096 code
  let scales := if fmtBlock y.fmt then List.replicate 128 (bits v 8 8) else []
  let h : Header := { total := 0, row := d.1 + p.1, col := d.2 + p.2, fmt := y.fmt, corr := false, nf := false, nadd := 1, gen := 0 }
  engTileStore y z.1 z.2 codes scales (if y.chk then regenerated y.fmt (y.nums codes scales) h else [])
  engCmd fun c => { c with bytes := c.bytes + y.size }

/-! ### CGATH (R181) -/

/-- Element row ρ of a view tile: its codes, and its two scale bytes where the blocks lie in rows. -/
def engViewRow (t : TidWords) (a b row : Nat) : Eng (List Nat × List Nat) := do
  let q := t.stored a b
  if t.ord then
    let r ← engTile t q.1 q.2 false
    return (((colsOf r.codes).getD row []), [])
  else
    let d ← engTileRead t q.1 q.2 (fmtRow t.fmt * row) (fmtRow t.fmt)
    let sc ← if fmtBlock t.fmt && agLh t.ag == 0 then engRead t.pool (t.scales q.1 q.2) 128 else pure []
    let sc := sc.map BitVec.toNat
    return (unpackCodes t.fmt d, if sc.isEmpty then [] else [scaleOf t.ag sc (64 * row), scaleOf t.ag sc (64 * row + 32)])

/-- Write element row ρ of a view tile; scale bytes follow where both sides' blocks lie in rows (log 22). -/
def engViewRowStore (t : TidWords) (a b row : Nat) (codes scales : List Nat) : Eng Unit := do
  let q := t.stored a b
  let u : Use := if t.chk then .tileWrite else .write
  if t.ord then
    let r ← engAside (engTile t q.1 q.2 false)
    let cols := setAt (colsOf r.codes) row codes
    engTileWrite t q.1 q.2 0 (packCodes t.fmt (transposed cols.flatten))
  else
    engTileWrite t q.1 q.2 (fmtRow t.fmt * row) (packCodes t.fmt codes)
    if fmtBlock t.fmt && agLh t.ag == 0 then
      (scales.zipIdx).forM fun p =>
        engWrite t.pool (t.scales q.1 q.2 + scaleIndex t.ag row (32 * p.2)) [BitVec.ofNat 8 p.1] u

/-- The vectors of a checked destination tile are formed again over the whole tile (R181, R243). -/
def engReform (t : TidWords) (a b : Nat) (corr nf : Bool) : Eng Unit := do
  let q := t.stored a b
  let r ← engAside (engTile t q.1 q.2 false)
  let h : Header := { total := 0, row := a, col := b, fmt := t.fmt, corr := corr, nf := nf, nadd := 1, gen := 0 }
  engTileWrite t q.1 q.2 (fmtData t.fmt) (regenerated t.fmt (t.nums r.codes r.scales) h)

/-- A step of CGATH: one row. -/
def engGatherStep : Eng Unit := do
  let c ← engC
  let x := c.a
  let y := c.b
  let k := c.step
  let ib ← engRead true ((c.xr 5).toNat + 4 * k) 4
  let ix := leNat ib
  let row := (c.xr 3).toNat + k
  let none : Bool := ix == 0xFFFFFFFF
  if !none && decide (64 * x.viewRows ≤ ix) then engFault cProt 0 0
  (List.range x.viewCols).forM fun j => do
    let r ← if none then pure (List.replicate 64 0, []) else engViewRow x (ix / 64) j (ix % 64)
    engViewRowStore y (row / 64) j (row % 64) r.1 r.2
  if y.chk && (row % 64 == 63 || k + 1 == (c.xr 4).toNat) then
    (List.range y.viewCols).forM fun j => engReform y (row / 64) j false false
  engCmd fun c => { c with bytes := c.bytes + y.viewCols * fmtRow y.fmt }

/-! ### COPTM (R183) -/

/-- F(x) of a value: FP32, RNE. -/
def f32 (x : Num × FFlags) : Num := fp32.decode (x.1.rne fp32).1

/-- One element: the new parameter, first and second moment. -/
def optimStep (adam : Bool) (h : List Num) (p g m v : Num) : Num × Num × Num :=
  let k (i : Nat) : Num := h.getD i (.fin false 0 0)
  let one : Num := .fin false 1 0
  let wdp := f32 ((k 1).mul p)
  let apply (x : Num) : Num := f32 (p.sub (f32 ((k 0).mul x)))
  if adam then
    let m' := f32 (((f32 (one.sub (k 2))).mul g).1.add (f32 ((k 2).mul m)))
    let v' := f32 (((f32 (one.sub (k 3))).mul (f32 (g.mul g))).1.add (f32 ((k 3).mul v)))
    let d := f32 ((f32 ((f32 (v'.mul (k 6))).sqrt)).add (k 4))
    (apply (f32 ((f32 ((f32 (m'.mul (k 5))).div d)).add wdp)), m', v')
  else
    let m' := f32 (((k 2).mul m).1.add g)
    (apply (f32 (m'.add wdp)), m', v)

/-- The codes of a tile row. -/
def engRowCodes (t : TidWords) (i j r : Nat) : Eng (List Nat) := do
  let d ← engTileRead t i j (fmtRow t.fmt * r) (fmtRow t.fmt)
  return unpackCodes t.fmt d

/-- The gradient tile of a COPTM step, verified. An outcome is counted and logged once for each tile: at its first row, or at
the row that finds it first; `pairs` holds the outcome found so far. -/
def engGradient (t : TidWords) (i j r : Nat) : Eng (List Num × Bool × Bool) := do
  let q ← engTile t i j true
  if !t.chk then return (t.view (t.nums q.codes q.scales), false, false)
  else
    let v := verifyTile t.fmt t.ag t.tol q.scales q.codes q.vec (Header.ofBytes q.head).total (headerDirty q.head)
    let seen := (← engC).pairs
    let before := if r = 0 then 0 else seen
    if v.kind = 0 ∨ v.kind = before then
      if r = 0 then engCmd fun c => { c with pairs := 0 }
      if (Header.ofBytes q.head).fmt ≠ t.fmt then engFault cOpfmt 0 0
      return (t.view (t.nums v.codes q.scales), v.kind != 0, v.nf)
    else
      engCmd fun c => { c with pairs := v.kind }
      let c ← engVerify t q 1
      return (t.view (t.nums c.raw.codes c.raw.scales), c.corr, c.nf)

/-- A step of COPTM: one tile row of the parameters, with its moments on the same stack. Under SGDM, which has no second moment,
register 7 is not read and v words are not checked, where R183 does not limit its words to ADAM; and the moments may lie on a page
with CHK = 1 although the parameters' TID has CHK = 0, where the two rows of R215 disagree: the model's choices (log 115). -/
def engOptimStep (adam : Bool) : Eng Unit := do
  let c ← engC
  let x := c.a
  let y := c.b
  let r := c.step % 64
  let n := c.step / 64
  let p := (n / blockNJ (c.xr 4), n % blockNJ (c.xr 4))
  let o := copyOrigin (c.xr 2)
  let d := copyOrigin (c.xr 3)
  let q := x.stored (o.1 + p.1) (o.2 + p.2)
  let i := d.1 + p.1
  let j := d.2 + p.2
  if y.pool then engFault cProt 0 0
  let off := 4 * (4096 * (i * y.cols + j) + 64 * r)
  let ma := vaOf ((c.xr 6).toNat + off)
  let va := vaOf ((c.xr 7).toNat + off)
  let u : Use := if y.chk then .tileWrite else .write
  let pp ← engPa (y.tile i j + fmtRow y.fmt * r) u
  let home (a n : Nat) (u : Use) : Eng Unit := (pagePieces a n).forM fun p => do
    let x ← engPa p.1 u
    if x.1 / 2 ^ 36 ≠ pp.1 / 2 ^ 36 then engFault cProt 0 p.1
  home (y.tile i j + fmtRow y.fmt * r) (fmtRow y.fmt) u
  home ma 256 .tileWrite
  if adam then home va 256 .tileWrite
  let g ← engGradient x q.1 q.2 r
  let ps ← engAside (engRowCodes y i j r)
  let ms ← engAside (engVector ma 64)
  let vs ← if adam then engAside (engVector va 64) else pure (List.replicate 64 0)
  let fmt := (typeFmt y.fmt).getD fp32
  let hs := c.hyper.map fp32.decode
  let new := (List.range 64).map fun k =>
    optimStep adam hs (fmt.decode (ps.getD k 0)) (g.1.getD (64 * r + k) (.fin false 0 0)) (fp32.decode (ms.getD k 0))
      (fp32.decode (vs.getD k 0))
  engTileWrite y i j (fmtRow y.fmt * r) (packCodes y.fmt (new.map fun t => (t.1.rne fmt).1))
  engWrite false ma (new.flatMap fun t => leBytes 4 (t.2.1.rne fp32).1) .tileWrite
  if adam then engWrite false va (new.flatMap fun t => leBytes 4 (t.2.2.rne fp32).1) .tileWrite
  if r = 63 && y.chk then engReform y i j g.2.1 g.2.2
  engCmd fun c => { c with bytes := c.bytes + fmtRow y.fmt }
where
  engVector (a n : Nat) : Eng (List Nat) := do
    let b ← engRead false a (4 * n)
    return (chunks 4 n b).map leNat

/-! ### CSPARSE (R184) -/

/-- Bytes of a pair. -/
def pairSize (f : Nat) : Nat := if fmtBits f = 64 then 16 else 8
/-- The bytes of a pair. -/
def pairBytes (f ix code : Nat) : List Byte :=
  if fmtBits f = 64 then leBytes 8 ix ++ leBytes 8 code else leBytes 4 ix ++ leBytes 4 code
/-- An element that is ±0, or an integer 0. -/
def zeroCode (f code : Nat) : Bool := if fmtInt f then code == 0 else code % 2 ^ (fmtBits f - 1) == 0

/-- The nonzero elements of block tile n as (index, code). Of MXFP8 CSPARSE moves codes alone: a zero code counts as zero whatever
its scale, and no scale byte is packed or written, which R184 does not say: the model's choice (log 115). -/
def engNonzero (t : TidWords) (org : Word) (n nj : Nat) : Eng (List (Nat × Nat)) := do
  let o := copyOrigin org
  let q := t.stored (o.1 + n / nj) (o.2 + n % nj)
  let r ← engTile t q.1 q.2 false
  return ((t.view r.codes).zipIdx.filter fun p => !zeroCode t.fmt p.1).map fun p => (4096 * n + p.2, p.1)

/-- A byte range of a stream in the pool lies in the scratchpad. -/
def engStream (t : TidWords) (a : Int) (n : Nat) : Eng Unit := do
  if t.pool && !(← engS).core.inPool a n then engFault cProt 4 0

/-- A step of pack: first each tile is counted, then the header is written, then each tile's pairs. -/
def engPackStep : Eng Unit := do
  let c ← engC
  let x := c.a
  let y := c.b
  let nj := blockNJ (c.xr 4)
  let tiles := blockNI (c.xr 4) * nj
  let base := y.offset (c.xr 3)
  if c.step < tiles then
    let e ← engNonzero x (c.xr 2) c.step nj
    engCmd fun c => { c with pairs := c.pairs + e.length }
  else if c.step = tiles then
    let dense := decide ((c.xr 5).toNat < c.pairs)
    engStream y base 16
    engWrite y.pool (vaOf base) (leBytes 8 c.pairs ++ leBytes 8 (if dense then 1 else 0)) .write
    engCmd fun c => { c with bytes := 16 }
  else
    let e ← engNonzero x (c.xr 2) (c.step - tiles - 1) nj
    let bs := e.flatMap fun p => pairBytes x.fmt p.1 p.2
    let a := base + 16 + pairSize x.fmt * c.moved
    engStream y a bs.length
    engWrite y.pool (vaOf a) bs .write
    engCmd fun c => { c with moved := c.moved + e.length, bytes := c.bytes + bs.length }

/-- Store one element of the block. -/
def engElement (t : TidWords) (org : Word) (nj ix code : Nat) : Eng Unit := do
  let o := copyOrigin org
  let n := ix / 4096
  let q := t.stored (o.1 + n / nj) (o.2 + n % nj)
  let e := if t.ord then flipIndex (ix % 4096) else ix % 4096
  engTileWrite t q.1 q.2 (fmtBits t.fmt / 8 * e) (leBytes (fmtBits t.fmt / 8) code)

/-- A TID taken as a plain one, for a command that writes bytes only. -/
def TidWords.plain (t : TidWords) : TidWords := { t with w0 := t.w0 &&& ~~~64#64 }

/-- A step of unpack: first each tile is cleared, then runs of 256 pairs are written. -/
def engUnpackStep : Eng Unit := do
  let c ← engC
  let x := c.a
  let y := c.b.plain
  let nj := blockNJ (c.xr 4)
  let tiles := blockNI (c.xr 4) * nj
  let base := x.offset (c.xr 2)
  if c.step = 0 then
    engStream x base 16
    let h ← engRead x.pool (vaOf base) 16
    if leNat ((h.drop 8).take 1) ≠ 0 then engFault cOpfmt 0 0
    engCmd fun c => { c with pairs := leNat (h.take 8) }
  else if c.step ≤ tiles then
    let n := c.step - 1
    let d := copyOrigin (c.xr 3)
    let q := y.stored (d.1 + n / nj) (d.2 + n % nj)
    engTileWrite y q.1 q.2 0 (List.replicate (fmtData y.fmt) 0)
    engCmd fun c => { c with bytes := c.bytes + fmtData y.fmt }
  else
    let n := min 256 (c.pairs - c.moved)
    let a := base + 16 + pairSize x.fmt * c.moved
    engStream x a (n * pairSize x.fmt)
    let bs ← engRead x.pool (vaOf a) (n * pairSize x.fmt)
    (chunks (pairSize x.fmt) n bs).forM fun b => do
      let ix := leNat (b.take 4)
      if 4096 * tiles ≤ ix then engFault cProt 0 0
      let code := if fmtBits x.fmt = 64 then leNat (b.drop 8) else leNat (b.drop 4) % 2 ^ fmtBits x.fmt
      engElement y (c.xr 3) nj ix code
    engCmd fun c => { c with moved := c.moved + n }

/-! ### CSEND, CPREF, HGFOLD (R179, R182, R259) -/

/-- Where a message for the pool of a core goes, in the model's numbering of message addresses (log 23). -/
def poolAddress (core a : Nat) : Nat := 2 ^ 60 + 2 ^ 40 * core + a

/-- Bytes that arrive in the pool of the current core use its banks, one line a cycle for each (R145). -/
def State.poolLands (s : State) (a : Nat) (bs : List Byte) : State :=
  if bs.isEmpty then s
  else
    let ls := (List.range ((a + bs.length - 1) / 64 + 1 - a / 64)).map (a / 64 + ·)
    (s.poolWrite a bs).useBanks 3 ls.length (lineBanks ls)

/-- Bytes for the pool of a core of this package: written where a task of the context occupies it and they fit its
scratchpad (R179). -/
def State.poolArrives (s : State) (core ctx a : Nat) (bs : List Byte) : Bool × State :=
  let c := s.coreAt core
  match c.task with
  | some t => if t.ctx = ctx ∧ c.inPool a bs.length then (true, s.asCore core fun s => s.poolLands a bs) else (false, s)
  | none => (false, s)

/-- The bytes of a view tile as CSEND packs it: the stored tile's, or for ORD = 1 those of its transpose, whose column and row
vectors change places (R161, R179). -/
def engPacked (t : TidWords) (i j : Nat) : Eng (List Byte) := do
  let q := t.stored i j
  if !t.ord then engTileRead t q.1 q.2 0 t.size
  else
    let r ← engTile t q.1 q.2 true
    return packCodes t.fmt (t.view r.codes) ++ (if t.chk then vecBytes t.fmt (swapVec r.vec) ++ r.head else [])

/-- CSEND's effect (R179). -/
def engSend : Eng Unit := do
  let c ← engC
  let x := c.a
  let nj := blockNJ (c.xr 4)
  let o := copyOrigin (c.xr 2)
  let bs ← (List.range (blockNI (c.xr 4) * nj)).mapM fun n => do
    engPacked x (o.1 + n / nj) (o.2 + n % nj)
  let bs := bs.flatten
  let core := bits (c.xr 3).toNat 0 8
  let pkg := bits (c.xr 3).toNat 8 6
  let a := (c.xr 5).toNat
  let s ← engS
  if !s.fab.domain.contains pkg then engFault cProt 0 0
  else if 2 ^ 40 ≤ a then engFault cProt 0 0
  else if pkg = s.fab.pkg then
    let r := s.poolArrives core s.core.ctx a bs
    if r.1 then
      engOn fun _ => r.2
      if core = s.core.id then engHasWritten (poolSpan a bs.length)
    else engFault cProt 0 0
  else
    let t := s.newTag pkg
    engOn fun _ => t.2.sendIn c.tc pkg (.write (poolAddress core a) c.tc t.1 s.fab.pkg s.core.ctx 0 0 bs)
    engCmd fun c => { c with tags := c.tags ++ [t.1] }

/-- Bring one line into the first-level cache; a fault skips it (R182). -/
def engPrefetchLine (va : Nat) : Eng Unit := do
  if 2 ^ 52 ≤ va then return ()
  else match (← engS).translate (← engS).core.ctx va .read true with
    | .hold (.remote v pa n) _ => throw (lacks v pa n)
    | .ok x s =>
        let pa := x.pa va
        if s.cached x.leaf.toNat && (s.paFault pa).isNone then
          let r := s.cacheRead pa 1
          match r.2.1 with
          | .away a => (match s.fetched a.pa a.len with
            | .ok bs => engOn fun _ => r.2.2.fillSector a.pa bs
            | .error e => if isLack e.cause then throw e else return ())
          | _ => engOn fun _ => r.2.2
        else return ()
    | _ => return ()

/-- CPREF's effect on the first-level cache. -/
def engPrefetch : Eng Unit := do
  let c ← engC
  let x := c.a
  let o := copyOrigin (c.xr 2)
  let tiles := (List.range (blockNI (c.xr 4))).flatMap fun a => (List.range (blockNJ (c.xr 4))).map fun b =>
    (o.1 + a, o.2 + b)
  let tiles := tiles.filter fun p => decide (p.1 < x.viewRows ∧ p.2 < x.viewCols)
  if x.pool then return ()
  else tiles.forM fun p => do
    let q := x.stored p.1 p.2
    (List.range (x.size / 64)).forM fun l => engPrefetchLine (x.tile q.1 q.2 + 64 * l)

/-- The region of an HGFOLD as the fold logic reads it, by the walker of the command (R217, R230, R259). As the command begins,
`whole`, each page of the region is checked (R256). -/
def engGrid (whole : Bool) : Eng Grid := do
  let c ← engC
  let va := c.hyper.headD 0
  let x ← engPa va .counter
  let b ← engRead false va 128
  let ctx := (← engS).core.ctx
  let g := Grid.ofBytes ctx va (leNat (b.take 8)) x.1 b
  if gridWordBad g.w0 || g.malformed then engFault cOpfmt 0 0
  if whole then
    match (← engS).gridPages g (min (va + g.extent) (2 ^ 52)) (g.extent / 65536 + 2) va with
    | .ok _ => return g
    | .error e => throw e
  else return g

/-- The steps of an HGFOLD's region and mask. -/
def engFoldSteps : Eng (List (Nat × Nat)) := do
  let c ← engC
  let g ← engGrid false
  return g.foldSteps (c.xr 3).toNat

/-- The physical address at an offset of the region, which the fold updates (R215, R256). -/
def engGridPa (g : Grid) (off : Nat) : Eng Nat := do
  let x ← engPa (g.va + off) .counter
  if g.leafOk x.1 x.2 then return x.1 else engFault cProt 0 (g.va + off)

/-- Fold one feature, in a traffic class where the region is in another package (R259). Its destination bytes are those of GTAB
(R230). -/
def engFoldOne (g : Grid) (add : Bool) (l e f : Nat) : Eng Unit := do
  let pa ← engGridPa g (g.shoff + 8 * g.at l e f)
  let cell ← engGridPa g (g.gtoff + g.w * g.at l e f)
  let c ← engC
  let s ← engS
  let fmt := gridFmt g.w0
  let t := s.atHome c.tc pa ((if add then 56 else 48) + fmt) (w64 cell) 0 [(pa, 8), (cell, g.w)] fun s =>
    s.foldFeature pa cell fmt add
  let ws := t.core.loc.cells
  engOn fun _ => t.onLoc fun l => { l with cells := [] }
  engCmd fun c => { c with tags := c.tags ++ t.tagsSince s, wrote := c.wrote ++ ws, bytes := c.bytes + g.w }

/-- A step of HGFOLD: 512 entries of a level (R259). -/
def engFoldStep (add : Bool) : Eng Unit := do
  let c ← engC
  let g ← engGrid (c.step == 0)
  match (g.foldSteps (c.xr 3).toNat)[c.step]? with
  | none => pure ()
  | some p =>
      ((List.range (min 512 (2 ^ g.t - p.2))).flatMap fun e => (List.range g.f).map fun f => (p.2 + e, f)).forM fun q =>
        engFoldOne g add p.1 q.1 q.2

/-! ### Starts and steps (R149, R186) -/

/-- The number of steps of a copy command, once it has started. -/
def engCopySteps : Eng Nat := do
  let c ← engC
  let tiles := blockNI (c.xr 4) * blockNJ (c.xr 4)
  match c.instr with
  | .cpy .. => return ((c.xr 4).toNat + 4095) / 4096
  | .cpy2 .. => return (c.rowsOf.1 * c.rowsOf.2.1 + 4095) / 4096
  | .cgath .. => return (c.xr 4).toNat
  | .coptmSgdm .. => return 64 * tiles
  | .coptmAdam .. => return 64 * tiles
  | .csparsePack .. => return if c.pairs ≤ (c.xr 5).toNat then 2 * tiles + 1 else tiles + 1
  | .csparseUnpack .. => return 1 + tiles + (if tiles < c.step then (c.pairs - c.moved + 255) / 256 + (c.step - tiles - 1)
      else (c.pairs + 255) / 256)
  | .csend .. => return 0
  | .cpref .. => return 0
  | .cprefL1 .. => return 0
  | .hgfold .. => do let l ← engFoldSteps; return l.length
  | .hgfoldAdd .. => do let l ← engFoldSteps; return l.length
  | _ => return tiles

/-- What a copy command does as it starts: COPTM reads its hyperparameters, CSEND and CPREF act whole (R183, R186). -/
def engCopyStart : Eng Unit := do
  let c ← engC
  match c.instr with
  | .coptmSgdm .. => hyper c
  | .coptmAdam .. => hyper c
  | .csend .. => engSend
  | .cprefL1 .. => engPrefetch
  | _ => pure ()
where
  hyper (c : Cmd) : Eng Unit := do
    let b ← engRead true (c.xr 5).toNat 32
    engCmd fun c => { c with hyper := (chunks 4 8 b).map leNat }

/-- One step of a copy command of engine e. -/
def engCopyStepOf (e : Nat) : Eng Unit := do
  let c ← engC
  match c.instr with
  | .cpy .. => engCopyStep
  | .cpy2 .. => engCopyStep
  | .ctile .. => engTileStep
  | .cxpose .. => engTransposeStep
  | .cconv .. => engConvertStep e
  | .cfill .. => engFillStep
  | .cgath .. => engGatherStep
  | .coptmSgdm .. => engOptimStep false
  | .coptmAdam .. => engOptimStep true
  | .csparsePack .. => engPackStep
  | .csparseUnpack .. => engUnpackStep
  | .hgfold .. => engFoldStep false
  | .hgfoldAdd .. => engFoldStep true
  | _ => pure ()

/-- The command converts under RSTO, so that it draws (R36, R178). -/
def Cmd.draws (c : Cmd) : Bool :=
  match c.instr with
  | .cconv .. => cvtMode (c.xr 5) == 4
  | _ => false

end Sys2Proof.Machine
end

