-- ==== Sys2Proof/Machine/Sync.lean ====
section
/-! DEFINITION. The Y slot: flags, token waits, barriers, fences, release and acquire, arrival counters, RGO, the
watchpoint instructions (R192 to R200, R323 to R338, R360, R383). -/

namespace Sys2Proof.Machine

/-! ### Interrupts and flags (R323 to R328) -/

/-- An arrival interrupt is set pending; while AIP = 1 nothing more is set, and SRC names the first event since AIP was
last cleared (R327; log 101). -/
def Traps.interrupt (t : Traps) (src : Nat) : Traps :=
  if t.aip then t else { t with aip := true, apend := BitVec.ofNat 8 src }

/-- A flag's value. -/
def Sync.flagOf (y : Sync) (f : Nat) : Nat := Sparse.get 0 y.flag f
/-- Set a flag. -/
def Sync.setFlag (y : Sync) (f v : Nat) : Sync := { y with flag := Sparse.set 0 y.flag f v }
/-- A post of n (R323). -/
def Sync.post (y : Sync) (f n : Nat) : Sync := y.setFlag f (satAdd (y.flagOf f) n 65535)

/-- A remote or landing post at a core: the flag, and the interrupt of F16 to F31 (R325, R327). -/
def Core.posted (c : Core) (f n : Nat) : Core :=
  { c with sy := c.sy.post f n, tr := if 16 ≤ f then c.tr.interrupt f else c.tr }

/-- A post arrives at a core of this package: at the task there, at the saved task it holds a catch for, or nowhere
(R325). -/
def State.postFlag (s : State) (core f n ctx : Nat) : State :=
  if n = 0 then s
  else
    let c := s.coreAt core
    let caught := match c.sy.caught with
      | some k => s.fe.saved.any fun v => v.key == k && v.core.ctx == ctx
      | none => false
    if (match c.task with | some t => t.ctx == ctx | none => false) then s.putCore (c.posted f n)
    else if caught then
      let mine (v : Saved) : Bool := some v.key == c.sy.caught
      let saved := mapIf mine (fun v => { v with core := v.core.posted f n }) s.fe.saved
      { s with fe := { s.fe with saved := saved } }
    else s.onDie (dieOf core) fun d => { d with postdrop := satAdd d.postdrop 1 (2 ^ 32 - 1) }

/-- Send a post to a core, of this package or of another (R185, R324, R325). -/
def State.sendPost (s : State) (pkg core f n ctx : Nat) : State :=
  if n = 0 then s
  else if pkg = s.fab.pkg then s.postFlag core f n ctx
  else s.send pkg (.flagPost core f n ctx)

/-! ### Release and acquire (R194 to R199) -/

/-- REL at a scope (R195): masked bytes are written back, and accesses that went to another package are awaited, at core scope
too: until its home has performed it, a command of the core, which is an agent of that scope, could pass it (R55, R201). -/
def State.release (s : State) (_scope : Nat) : Res :=
  let s := s.writeBackAll
  if s.core.loc.remote.isEmpty && s.core.waiting.all (fun w => w.holes.isEmpty) then s.ok
  else .hold .release s

/-- A result of a load or an atomic, or of a gather: a MOVRS result is none. -/
def Waiting.isLoad (w : Waiting) : Bool := !w.moved

/-- Every earlier load and atomic has returned (R196). -/
def Core.returned (c : Core) : Bool := !c.waiting.any Waiting.isLoad

/-- ACQ at a scope (R196). At core scope masked bytes are written back and stay valid: a command that follows finds them at their
homes (R201; log 114). -/
def State.acquire (s : State) (scope : Nat) : Res :=
  if !s.core.returned then .hold .acquire s
  else if scope = 0 then s.writeBackAll.ok else s.cleanCache.ok

/-- REL (R195). -/
def execRel (c : BitVec 3) (s : State) : Host.Outcome State Fault Refusal := settle 7 (s.release c.toNat)

/-- ACQ (R196). -/
def execAcq (c : BitVec 3) (s : State) : Host.Outcome State Fault Refusal := settle 7 (s.acquire c.toNat)

/-- FENCE (R193): accesses are performed in program order, so that it orders nothing more (log 9). -/
def execFence (_m : BitVec 16) (s : State) : Host.Outcome State Fault Refusal := settle 7 s.ok

/-- DRAINNT (R199). -/
def execDrainnt (s : State) : Host.Outcome State Fault Refusal :=
  settle 7 (if s.core.loc.remoteNt.isEmpty then s.ok else .hold .drainNt s)

/-! ### Flags (R324) -/

/-- FWAIT (R324): the flag, then ACQ at domain scope; a wait for either leaves the flag as it is. -/
def execFwait (f : BitVec 5) (n : BitVec 9) (s : State) : Host.Outcome State Fault Refusal :=
  settle 7 (if s.core.sy.flagOf f.toNat < n.toNat then .hold (.flag f.toNat n.toNat) s
    else (s.acquire 4).bind fun _ s => (s.onSy fun y => y.setFlag f.toNat (y.flagOf f.toNat - n.toNat)).ok)

/-- FPOST (R324). -/
def execFpost (f : BitVec 5) (n : BitVec 9) (s : State) : Host.Outcome State Fault Refusal :=
  settle 7 (if n = 0 then s.ok else (s.onSy fun y => y.post f.toNat n.toNat).ok)

/-- FPOSTR (R324). -/
def execFpostr (f g : BitVec 5) (n : BitVec 9) (s : State) : Host.Outcome State Fault Refusal :=
  settle 7 (s.ready true [g] fun s =>
    let t := s.gn g
    if t / 2 ^ 14 ≠ 0 then s.raise cIllegal
    else if !s.fab.domain.contains (bits t 8 6) then s.raiseWhy cProt 0
    else (s.release (if bits t 8 6 = s.fab.pkg then 3 else 4)).bind fun _ s =>
      (s.sendPost (bits t 8 6) (bits t 0 8) f.toNat n.toNat s.core.ctx).ok)

/-! ### Token waits (R200) -/

/-- The tokens of a mask. -/
def maskTokens (m : Word) : List Nat := (List.range 64).filter fun t => m.getLsbD t

/-- TWAIT and TWAITA: the first faulted token of the mask traps. -/
def State.tokenWait (s : State) (g : BitVec 5) (all : Bool) : Res :=
  s.ready true [g] fun s =>
    let m := s.core.g g.toNat
    let ts := maskTokens m
    let done (t : Nat) : Bool := !(s.core.token t).out
    match ts.findSome? (fun t => if done t then ((s.core.token t).flt).map fun f => (t, f) else none) with
    | some p => .trap (tokenFault s.core p.1 p.2) s
    | none =>
        if all then (if ts.all done then s.ok else .hold (.tokenAll m) s)
        else if ts.isEmpty || ts.any done then s.ok else .hold (.tokenAny m) s

/-- TWAIT (R200). -/
def execTwait (g : BitVec 5) (s : State) : Host.Outcome State Fault Refusal := settle 7 (s.tokenWait g false)

/-- TWAITA (R200). -/
def execTwaita (g : BitVec 5) (s : State) : Host.Outcome State Fault Refusal := settle 7 (s.tokenWait g true)

/-! ### Barriers (R329 to R334) -/

/-- The product of the counts of the levels below level l: the tasks of a group of level l. -/
def Kernel.groupSize (k : Kernel) (l : Nat) : Nat := (k.levels.drop (l + 1)).foldl (fun n x => n * x.count) 1
/-- The GANG level. -/
def Kernel.gangLevel (k : Kernel) : Option Nat := k.levels.findIdx? fun x => x.gang

/-- A barrier number that the kernel's hierarchy makes legal (R329). -/
def Kernel.legalBarrier (k : Kernel) (b : Nat) : Bool :=
  let l := b / 16
  decide (l < k.levels.length) &&
    (k.groupSize l == 1 ||
      (match k.gangLevel with
       | some g => decide (g ≤ l) || (l == 0 && g == 1 && (match k.levels[0]? with | some x => x.dom == 4 | none => false))
       | none => false))

/-- A domain barrier: level 0 over several packages (R329). -/
def Kernel.domainBarrier (k : Kernel) (b : Nat) : Bool :=
  b / 16 == 0 && k.gangLevel == some 1 && (match k.levels[0]? with | some x => x.dom == 4 | none => false) &&
    k.groupSize 0 != 1

/-- SCOPE of a barrier's level (R293). -/
def Kernel.barrierScope (k : Kernel) (b : Nat) : Nat :=
  match k.levels[b / 16]? with | some x => x.scope | none => 0

/-- Arrive at a barrier (R330): the previous phase complete, REL, then ARR. -/
def State.arrive (s : State) (k : Kernel) (b : Nat) (bars : Bool) : Res :=
  if s.core.sy.arr.contains b then .hold (.barrierArrive b) s
  else (s.release (k.barrierScope b)).bind fun _ s =>
    (s.onSy fun y => { y with arr := insertNat b y.arr, bars := if bars then insertNat b y.bars else dropNat b y.bars }).ok

/-- The current bundle waits at barrier b: its BARV has arrived, or its BARW has found the phase incomplete. -/
def Core.waitsAt (c : Core) (b : Nat) : Bool := c.sy.barv.contains (c.level, c.seq.pc, b)
/-- Note that it does, and that it does no longer. -/
def State.waitAt (s : State) (b : Nat) : State :=
  let e := (s.core.level, s.core.seq.pc, b)
  s.onSy fun y => { y with barv := e :: y.barv.filter (· != e) }
def State.waitOver (s : State) (b : Nat) : State :=
  let e := (s.core.level, s.core.seq.pc, b)
  s.onSy fun y => { y with barv := y.barv.filter (· != e) }
/-- A bundle issues: a wait of its level at another address is over, since the core has left that bundle for good (R330). -/
def State.waitsLeft (s : State) : State :=
  let l := s.core.level
  let p := s.core.seq.pc
  s.onSy fun y => { y with barv := y.barv.filter fun e => e.1 != l || e.2.1 == p }

/-- Wait at a barrier (R330). -/
def State.barrierWait (s : State) (k : Kernel) (b : Nat) : Res :=
  if s.core.sy.arr.contains b then .hold (.barrierWait b) s
  else (s.acquire (k.barrierScope b)).bind fun _ s => (s.waitOver b).ok

/-- The kernel of the task, where the barrier number is legal in it. -/
def State.atBarrier (s : State) (b : BitVec 7) (f : Kernel → Res) : Res :=
  match s.myKernel with
  | some k => if k.legalBarrier b.toNat then f k else s.raise cIllegal
  | none => s.raise cIllegal

/-- BARV (R330): arrive, then wait; the arrival stands while it waits. -/
def execBarv (b : BitVec 7) (s : State) : Host.Outcome State Fault Refusal :=
  settle 7 (s.atBarrier b fun k =>
    if s.core.waitsAt b.toNat then s.barrierWait k b.toNat
    else (s.arrive k b.toNat false).bind fun _ s => .hold (.barrierWait b.toNat) (s.waitAt b.toNat))

/-- BARW (R330): no effect where the task has not arrived. -/
def execBarw (b : BitVec 7) (s : State) : Host.Outcome State Fault Refusal :=
  settle 7 (s.atBarrier b fun k =>
    if s.core.sy.arr.contains b.toNat then .hold (.barrierWait b.toNat) (s.waitAt b.toNat)
    else if s.core.waitsAt b.toNat then s.barrierWait k b.toNat else s.ok)

/-- BARS (R330). -/
def execBars (b : BitVec 7) (s : State) : Host.Outcome State Fault Refusal :=
  settle 7 (s.atBarrier b fun k => s.arrive k b.toNat true)

/-! ### Arrival counters (R335 to R338) -/

/-- The counter that a CWAIT or CINC names: aligned, through the handle, CLASS 1, or CLASS 2 for a wait (R335). -/
def State.counterTarget (s : State) (h : BitVec 4) (g : BitVec 5) (wait : Bool) : Act Target :=
  let off := (s.core.g g.toNat).toInt
  if s.handleAddr h.toNat off % 8 ≠ 0 then .trap { cause := cAlign, addr := wrapTo 64 (s.handleAddr h.toNat off) } s
  else (s.through h.toNat off 8 .counter).bind fun t s =>
    match t with
    | .pool _ => .trap (protTrap 0 0) s
    | .mem _ leaf va =>
        if leafClass leaf = 1 ∨ (wait ∧ leafClass leaf = 2) then .ok t s else .trap (protTrap 0 va) s

/-- The increment at the fold unit (R336). -/
def State.countUp (s : State) (pa n : Nat) : State :=
  let v := leNat (s.homeBytes pa 8)
  s.storeMem (s.key pa) (leBytes 8 (satAdd v n (2 ^ 64 - 1)))

/-- CINC (R336): REL, then the add at the home, here or in another package. -/
def execCinc (h : BitVec 4) (g : BitVec 5) (n : BitVec 9) (s : State) : Host.Outcome State Fault Refusal :=
  settle 7 (s.ready true [g] fun s => (s.counterTarget h g false).bind fun t s =>
    let pa := t.pa
    (s.release (if s.remote pa then 4 else 3)).bind fun _ s =>
      if s.remote pa then
        let r := s.newTag (paPkg pa)
        ((r.2.send (paPkg pa) (.atomic pa 10 r.1 s.fab.pkg (w64 n.toNat) 0)).onLoc
          fun l => { l with remote := l.remote ++ [r.1] }).ok
      else (s.countUp pa n.toNat).ok)

/-- The oldest request at a counter (R336). -/
def Fabric.oldest (f : Fabric) (pa : Nat) : Option (Nat × Nat × Nat) := f.cwaits.find? fun w => w.1 == pa

/-- Drop a core's request. -/
def Fabric.dropWait (f : Fabric) (core : Nat) : Fabric :=
  { f with cwaits := f.cwaits.filter fun w => w.2.2 != core, cregions := f.cregions.filter fun w => w.1 != core }

/-- What a cancelled CWAIT leaves at its fold unit: a grant that crossed the cancel is undone there (R337). A fold unit of
another package is sent the cancel, which names the request, and its reply is awaited with the core's stores. -/
def State.undoWait (s : State) (w : Nat × Nat × Nat) : State :=
  if s.remote w.1 then
    let fab := { s.fab with pending := s.fab.pending.filter fun p => p.1 != w.2.2 }
    let r := State.newTag { s with fab := fab } (paPkg w.1)
    (r.2.send (paPkg w.1) (.atomic w.1 12 r.1 s.fab.pkg (w64 w.2.1) (w64 w.2.2))).onLoc
      fun l => { l with remote := l.remote ++ [r.1] }
  else
    let s := if s.core.sy.granted then s.countUp w.1 w.2.1 else s
    { s with fab := s.fab.dropWait s.core.id }

/-- A trap with a FAILED region's cause (R358, R360, R373). -/
def regionTrap (d : Desc) : TrapInfo :=
  { cause := d.cause, info := fld 4 60 + fld d.id 32 + fld d.freason 28, slot := false }

/-- REGION_OVERRUN of an RGO names the region (R360, R373). -/
def overrunTrap (d : Desc) : TrapInfo := { cause := cOverrun, info := fld 4 60 + fld d.id 32, slot := false }

/-- The reduction region of a counter on a page, 0 for none (R358). -/
def counterRegion (leaf : Nat) : Nat := if leafClass leaf = 2 then leafRegion leaf else 0

/-- The region of a counter, where it is FAILED; an error where entries of a page table are still to come. -/
def State.failedIn (s : State) (ctx id : Nat) : Except CmdFault (Option Desc) :=
  if id = 0 then .ok none
  else match s.desc ctx id with
    | .ok d => .ok (if s.regionState d = 4 then some d else none)
    | .error f => if isLack f.cause then .error f else .ok none
/-- The same in the context of the current core. -/
def State.failedRegion (s : State) (id : Nat) : Except CmdFault (Option Desc) := s.failedIn s.core.ctx id

/-- CWAIT (R336, R337): the request joins the counter's queue as the bundle is otherwise ready, and the bundle holds
until the grant; then ACQ. Once the request is made the counter's address is not judged again; a region that fails meanwhile ends
the wait (R358). The home of a counter in another package is told the region and its context with the request, and tells the core
where it fails (log 24). -/
def execCwait (h : BitVec 4) (g : BitVec 5) (n : BitVec 9) (s : State) : Host.Outcome State Fault Refusal :=
  settle 7 (s.ready true [g] fun s =>
    let finish (s : State) (pa : Nat) : Res :=
      (s.acquire (if s.remote pa then 4 else 3)).bind fun _ s =>
        (s.onSy fun y => { y with cwait := none, granted := false }).ok
    match s.core.sy.cwait with
    | some w =>
        if s.core.sy.granted then finish s w.1
        else match s.failedRegion s.core.sy.cregion with
          | .error f => s.fails f
          | .ok (some d) => .trap (regionTrap d) ((s.undoWait w).onSy fun y => { y with cwait := none })
          | .ok none => .hold (.counter w.1) s
    | none => (s.counterTarget h g true).bind fun t s =>
        match t with
        | .pool _ => s.raise cProt
        | .mem pa leaf _ =>
            let region := counterRegion leaf
            let own := if s.remote pa then 0 else region
            match s.failedRegion own with
            | .error f => s.fails f
            | .ok (some d) => .trap (regionTrap d) s
            | .ok none =>
                if n = 0 then finish s pa
                else
                  let asked (t : Nat) (s : State) : State :=
                    s.onSy fun y => { y with cwait := some (pa, n.toNat, t), granted := false, cregion := own }
                  if s.remote pa then
                    let r := s.newTag (paPkg pa)
                    .hold (.counter pa)
                      (asked r.1 (r.2.send (paPkg pa)
                        (.atomic pa 11 r.1 s.fab.pkg (w64 n.toNat) (w64 (region + fld s.core.ctx 12)))))
                  else .hold (.counter pa) (asked 0
                    { s with fab := { s.fab with cwaits := s.fab.cwaits ++ [(pa, n.toNat, s.core.id)] } }))

/-- A held CWAIT is cancelled; a grant that crosses it is undone (R337). -/
def State.cancelWait (s : State) : State :=
  match s.core.sy.cwait with
  | none => s
  | some w => (s.undoWait w).onSy fun y => { y with cwait := none, granted := false }

/-! ### RGO (R360) -/

/-- Clear a region's masks and records. -/
def State.clearRegion (s : State) (d : Desc) : State :=
  let s := (List.range d.nchunk).foldl (fun s c => tryState s (s.foldStore d (d.mask c) (leBytes 8 0))) s
  (List.range (d.nchunk * d.tpc)).foldl (fun s t =>
    tryState s (s.foldStore d (d.record t) (List.replicate (2 * d.vec) 0))) s

/-- Arm a new instance (R360, R361): INST + 1, ARMED, told to every other member. -/
def State.armRegion (s : State) (d : Desc) (kern : Nat) : State :=
  let inst := (d.inst + 1) % 256
  let fixed : List Byte := match s.descBytes d.ctx d.id with | .ok b => b | .error _ => []
  let heard := (s.fab.early.filter fun e => e.1 == d.id && e.2.1 == inst).map fun e => e.2.2
  let r : Region := { id := d.id, ctx := d.ctx, inst := inst, kern := kern, done := heard.foldl (fun l p => insertNat p l) [], acks := [],
                      chunks := [], results := [], fixed := fixed }
  let s := ((s.unheld d.ctx d.id).setRegionState d inst 1 0 0).reheld r
  let fab := { s.fab with
    early := s.fab.early.filter fun e => e.1 != d.id
    lost := s.fab.lost.filter fun p => p.1 != d.id
    known := insertNat d.id s.fab.known }
  ({ s with fab := fab }).sendMembers d (.armed d.id inst s.fab.pkg)

/-- What RGO does to a readable, well-formed region (R360, R361). -/
def State.rgo (s : State) (d : Desc) (clear : Bool) : Res :=
  let st := s.regionState d
  let held := match s.held d.ctx d.id with | some r => some r.inst | none => none
  let kern := match s.core.task with | some t => t.kern | none => 0
  if clear then
    (if st = 4 then ((s.clearRegion d).setRegionState d d.inst 0 0 0).ok else s.ok)
  else if d.rstate = 5 ∧ held.isSome then .hold (.region d.id) s
  else if st = 4 then .trap (regionTrap d) s
  else if st = 0 then (s.armRegion d kern).ok
  else if st = 2 ∧ d.persist then
    ((s.setRegionState d (held.getD d.inst) 3 0 0).onHeld d.ctx d.id fun r => { r with next := some kern }).ok
  else .trap (overrunTrap d) s

/-- RGO (R360). -/
def execRgo (g : BitVec 5) (s : State) : Host.Outcome State Fault Refusal :=
  settle 7 (s.ready true [g] fun s =>
    let v := s.gn g
    let id := v % 2 ^ 12
    if bits v 12 51 ≠ 0 ∨ id = 0 then s.raise cIllegal
    else (s.translate s.core.ctx (descVa id) .counter true).bind fun x s =>
      match s.desc s.core.ctx id with
      | .error e => s.fails e
      | .ok d =>
          if leafClass x.leaf.toNat ≠ 2 ∨ leafRegion x.leaf.toNat ≠ id then .trap (protTrap 0 (descVa id)) s
          else s.rgo d (bit v 63))

/-! ### Watchpoints (R383) -/

/-- The granules of a byte range. -/
def granules (va len : Nat) : List Nat := (List.range ((va + len - 1) / 64 - va / 64 + 1)).map (va / 64 + ·)

/-- Add a range to the filter and to the exact list. -/
def Debug.watchAdd (d : Debug) (va len : Nat) : Debug :=
  let f := (granules va len).foldl (fun f g => (watchBits g).foldl (fun f b => f ||| BitVec.twoPow 1024 b) f) d.filter
  if d.exact.length < 16 then { d with filter := f, exact := d.exact ++ [(va, len)] } else { d with filter := f, ovf := true }

/-- WADD (R383): the bundle issues as many cycles after it first reaches issue as there are granules. -/
def execWadd (a b : BitVec 5) (s : State) : Host.Outcome State Fault Refusal :=
  settle 7 (s.ready true [a, b] fun s =>
    let va := s.gn a
    let len := s.gn b
    if len = 0 ∨ 2 ^ 24 < len ∨ 2 ^ 52 < va + len then s.raise cIllegal
    else
      let until_ := match s.core.seq.wadd with
        | some (pc, u) => if pc = s.core.seq.pc then u else s.core.seq.cyc + (granules va len).length
        | none => s.core.seq.cyc + (granules va len).length
      if s.core.seq.cyc < until_ then .hold (.wadd until_) (s.onSeq fun q => { q with wadd := some (q.pc, until_) })
      else ((s.onDbg fun d => d.watchAdd va len).onSeq fun q => { q with wadd := none }).ok)

/-- WCLR (R383). -/
def execWclr (s : State) : Host.Outcome State Fault Refusal :=
  settle 7 (s.onDbg fun d => { d with filter := 0, exact := [], ovf := false, skip := false, unscr := false }).ok

/-- WRESUME (R383). -/
def execWresume (s : State) : Host.Outcome State Fault Refusal := settle 7 (s.onDbg fun d => { d with skip := true }).ok

end Sys2Proof.Machine
end

