-- ==== Sys2Proof/Machine/Task.lean ====
section
/-! DEFINITION. The life of tasks: placement, dispatch state, end, abort, requeue, failure of the kernel (R287, R296,
R298, R304 to R310, R316 to R322). -/

namespace Sys2Proof.Machine

/-! ### Kernels and their groups (R293, R305) -/

/-- Change a kernel. -/
def State.onKernel (s : State) (k : Nat) (f : Kernel → Kernel) : State :=
  { s with fe := { s.fe with kernels := mapIf (fun x => x.id == k) f s.fe.kernels } }

/-- The task count (R293). -/
def Kernel.tasks (k : Kernel) : Nat := k.levels.foldl (fun n x => n * x.count) 1

/-- The number of the group of level l that holds task i. -/
def Kernel.group (k : Kernel) (l i : Nat) : Nat := i / k.groupSize l

/-- GID_l of task i (R293). -/
def Kernel.gid (k : Kernel) (l i : Nat) : Nat :=
  match k.levels[l]? with
  | some x => k.group l i % x.count
  | none => 0

/-- The gang of task i, and its members (R309). -/
def Kernel.gangOf (k : Kernel) (i : Nat) : Option Nat := k.gangLevel.map fun g => k.group g i
def Kernel.members (k : Kernel) (i : Nat) : List Nat :=
  match k.gangLevel with
  | some g => (List.range (k.groupSize g)).map (k.group g i * k.groupSize g + ·)
  | none => [i]

/-- The instance of a domain that holds a core of package pkg (R23). -/
def instanceOf (pkg dom core : Nat) : Nat :=
  if dom = 0 then core else if dom = 1 then clusterOf core else if dom = 2 then dieOf core else if dom = 3 then pkg else 0

/-- The cores of one instance, and the number of instances. -/
def domCores (dom : Nat) : Nat := if dom = 0 then 1 else if dom = 1 then 4 else if dom = 2 then 32 else 256

/-- A task has ended: its groups end their bindings with their last task (R305). -/
def Kernel.taskEnded (k : Kernel) (i : Nat) : Kernel :=
  let e := insertNat i k.ended
  { k with
    ended := e
    bound := k.bound.filter fun b => decide ((e.filter fun j => k.group b.1 j == b.2.1).length < k.groupSize b.1) }

/-! ### Triggers of pre-emption (R311, R315) -/

/-- A save slot is free: SAVEBASE is set, and fewer than 512 are taken (R311, R315, R399). -/
def State.saveFree (s : State) : Bool := s.host.saveSet && decide (s.fe.saved.length < 512)

/-- The task on core c is to be pre-empted, and with it its gang (R311, R314). -/
def State.askPreemption (s : State) (c : Nat) : State :=
  match (s.coreAt c).task with
  | none => s
  | some t =>
      let mine (x : Core) : Bool := x.id == c || (match x.task with
        | some u => u.kern == t.kern && t.gang.isSome && u.gang == t.gang
        | none => false)
      let f (x : Core) : Core := if mine x then { x with tr := { x.tr with pre := true } } else x
      { s with core := f s.core, others := s.others.map f }

/-- Cores leave every context's mask; the tasks there are to be pre-empted (R271, R311). -/
def State.removeCores (s : State) (cs : List Nat) : State :=
  let off (m : BitVec 256) : BitVec 256 := cs.foldl (fun m c => m &&& ~~~(BitVec.twoPow 256 c)) m
  let ctx := s.crook.ctx.map fun p => (p.1, { p.2 with mask := off p.2.mask })
  cs.foldl State.askPreemption { s with crook := { s.crook with ctx := ctx } }

/-! ### The task of a core -/

/-- Every core that the state lists. -/
def State.cores (s : State) : List Core := s.core :: s.others

/-- The cores on which tasks of a kernel run, with their tasks. -/
def State.running (s : State) (k : Nat) : List (Nat × Task) :=
  s.cores.filterMap fun c => match c.task with | some t => if t.kern = k then some (c.id, t) else none | none => none

/-- The saved tasks of a kernel. -/
def State.savedOf (s : State) (k : Nat) : List Saved :=
  s.fe.saved.filter fun v => match v.core.task with | some t => t.kern == k | none => false

/-- Release the lease of the current core (R157). -/
def State.unlease (s : State) : State :=
  let k := clusterOf s.core.id
  if (s.cluster k).holder = some s.core.id then s.onCluster k fun c => { c with holder := none } else s

/-- Tags of messages to other packages that a core's commands and results still await. -/
def Core.openTags (c : Core) : List Nat :=
  (c.eng.qm ++ c.eng.q0 ++ c.eng.q1 ++ c.eng.qv).flatMap Cmd.tags ++ c.waiting.flatMap fun w => w.holes.map Hole.tag

/-- The current core is free: what was in flight and its commands are gone (R316, R319), and a debug stop is over (R380). Its Z
tiles and tokens stand until the next dispatch (R150, R162, R403). The core still awaits the acknowledgement of what it has sent
to other packages (R206, R231). -/
def State.vacate (s : State) : State :=
  (s.unlease.forgetCore s.core.id).onCore fun c => { c with
    task := none, flight := [], waiting := [], eng := { z := c.eng.z, zt := c.eng.zt, tok := c.eng.tok }
    dbg := { c.dbg with stopped := false, frame := none }
    loc := { c.loc with remote := c.loc.remote ++ c.openTags }
    seq := { c.seq with xfer := none, ext := none, spill := none, moved := false, table := none, last := .issued } }

/-- The key under which a gang holds its route tag (R332). -/
def gangKey (kern gang : Nat) : Nat := 2 ^ 33 * kern + gang
/-- Free a route tag. -/
def State.freeTag (s : State) (key : Nat) : State := { s with fe := { s.fe with tags := s.fe.tags.filter (· != key) } }

/-- The route tag of a gang is freed when no member of it runs (R332). -/
def State.gangTag (s : State) (t : Task) : State :=
  match t.gang with
  | some g => if (s.running t.kern).any fun p => p.2.gang == some g then s else s.freeTag (gangKey t.kern g)
  | none => s

/-- The task on the current core has ended (R319). -/
def State.endTask (s : State) (t : Task) (status : Nat) : State :=
  ((s.recordEnd t 0 status).onKernel t.kern fun k => k.taskEnded t.idx).vacate.gangTag t

/-- The SCOPE of the innermost level (R319). -/
def Kernel.innerScope (k : Kernel) : Nat := match k.levels.getLast? with | some x => x.scope | none => 0

/-- A token that is still outstanding. -/
def Engines.busy (g : Engines) : Bool := g.tok.any fun p => p.2.out

/-- A task that is ENDING ends once its tokens have retired and its release is complete (R319); one that GANG_ABORT waits for is
aborted instead (R321). -/
def State.tryEnd (s : State) : State :=
  match s.core.task, s.myKernel with
  | some t, some k =>
      (match t.ending with
       | some status =>
           if s.core.eng.busy || s.core.tr.gang.isSome then s
           else (match s.release k.innerScope with
            | .ok _ s => s.endTask t status
            | .hold _ s => s
            | .trap _ s => s)
       | none => s)
  | _, _ => s

/-- EXIT has issued: results in flight are dropped, and the task is ENDING (R319). -/
def State.exits (s : State) (status : Nat) : State :=
  (s.onCore fun c => { c with
    flight := []
    seq := { c.seq with moved := true }
    task := c.task.map fun t => { t with ending := some status } }).tryEnd

/-- The lowest faulted token (R319). -/
def Core.faultedToken (c : Core) : Option (Nat × CmdFault) :=
  c.eng.tok.findSome? fun p => match p.2.flt with | some f => some (p.1, f) | none => none

/-- What EXIT waits for and checks before it issues (R319). -/
def State.exitReady (s : State) : Res :=
  if s.core.eng.busy then .hold .exit s
  else match s.core.faultedToken with
    | some p => .trap (tokenFault s.core p.1 p.2) s
    | none =>
        match s.core.vec.bad with
        | (_, x) :: _ => .trap (faultedTrap x) s
        | [] => s.ok

/-- EXIT (R319). -/
def execExit (i : BitVec 16) (s : State) : Host.Outcome State Fault Refusal :=
  settle 0 (s.exitReady.bind fun _ s => (s.exits i.toNat).ok)

/-- ABORT (R320): the abort follows; its cause carries 2^16 and imm16. -/
def execAbort (i : BitVec 16) (s : State) : Host.Outcome State Fault Refusal :=
  settle 0 ((s.onSeq fun q => { q with moved := true }).push [.taskAbort s.core.id (2 ^ 16 + i.toNat)]).ok

/-! ### Eligible cores (R305, R306) -/

/-- Core c lies in every instance to which the groups of task i are bound. A group that holds nothing but the task, or nothing
but its gang, moves with it: it is bound anew (R305, R309, R314). -/
def State.inBinding (s : State) (k : Kernel) (i c : Nat) : Bool :=
  let unit := match k.gangLevel with | some g => k.groupSize g | none => 1
  k.bound.all fun b =>
    k.group b.1 i != b.2.1 || decide (k.groupSize b.1 ≤ unit) ||
      (match k.levels[b.1]? with | some x => instanceOf s.fab.pkg x.dom c == b.2.2 | none => true)

/-- No abort on the core is incomplete: what the aborted task had sent to other packages is acknowledged (R231, R316). -/
def Core.settled (c : Core) : Bool := !c.loc.settling || (c.loc.remote.isEmpty && c.loc.remoteNt.isEmpty)

/-- A core eligible for task i of a kernel (R306); one whose last task's abort is not complete is not free (R231, R316). -/
def State.eligible (s : State) (k : Kernel) (i c : Nat) : Bool :=
  (s.ctxOf k.ctx).mask.getLsbD c && !s.crook.retired.getLsbD c && !(s.cluster (clusterOf c)).failed &&
    (s.coreAt c).task.isNone && (s.coreAt c).settled && s.inBinding k i c

/-- Bind the groups of task i to the instances of core c of package pkg (R305). -/
def Kernel.bindTo (k : Kernel) (pkg i c : Nat) : Kernel :=
  let own : List (Nat × Nat × Nat) := k.levels.zipIdx.map fun p => (p.2, k.group p.2 i, instanceOf pkg p.1.dom c)
  { k with bound := k.bound.filter (fun b => !own.any fun o => o.1 == b.1 && o.2.1 == b.2.1) ++ own }

/-- Place some tasks of one gang on cores of [lo, lo + n), each on the lowest eligible one; groups above level 0 that
a member binds bind the later ones. -/
def State.placeIn (s : State) (k : Kernel) (lo n : Nat) : List Nat → List (Nat × Nat) → Option (List (Nat × Nat))
  | [], acc => some acc
  | i :: rest, acc =>
      let agrees (c : Nat) : Bool := acc.all fun p =>
        k.levels.zipIdx.all fun x => k.group x.2 i != k.group x.2 p.1 || instanceOf 0 x.1.dom c == instanceOf 0 x.1.dom p.2
      match ((List.range n).map (lo + ·)).find? fun c =>
          s.eligible k i c && !acc.any (fun p => p.2 == c) && agrees c with
      | some c => s.placeIn k lo n rest (acc ++ [(i, c)])
      | none => none

/-- The number of cores of the instance in which tasks are placed together: of the gang level's domain, or the package. -/
def Kernel.span (k : Kernel) : Nat :=
  match k.gangLevel with
  | some g => (match k.levels[g]? with | some x => domCores x.dom | none => 256)
  | none => 256

/-- The cores for some tasks placed together: for a gang, in the lowest instance of its domain that takes them all
(R309); for a single task, the lowest eligible core. -/
def State.places (s : State) (k : Kernel) (is : List Nat) : Option (List (Nat × Nat)) :=
  (List.range (256 / k.span)).findSome? fun j => s.placeIn k (j * k.span) k.span is []

/-! ### Dispatch (R287, R296, R307, R332) -/

/-- The tasks of a kernel that are next to be placed, with their runs and cause: a requeued one first (R296); a gang as
a whole (R309). -/
def Kernel.nextTasks (k : Kernel) : List (Nat × Nat × Nat) :=
  match k.again with
  | a :: rest =>
      let ms := (k.members a.1).map fun i => (a :: rest).find? fun x => x.1 == i
      if ms.all Option.isSome then ms.filterMap (fun x => x) else []
  | [] => if k.nextTask < k.first + k.count then (k.members k.nextTask).map fun i => (i, 0, 0) else []

/-- A task of the kernel was aborted on a core, and its stores are not all performed yet: the abort is not complete (R231,
R316). -/
def State.settling (s : State) (k : Nat) : Bool := s.cores.any fun c => c.task.isNone && c.loc.imemKern == k && !c.settled

/-- A task of the kernel has left a core that still awaits the acknowledgement of its writes (R206). -/
def State.unperformed (s : State) (k : Nat) : Bool :=
  s.cores.any fun c => c.task.isNone && c.loc.imemKern == k && !(c.loc.remote.isEmpty && c.loc.remoteNt.isEmpty)

/-- The kernel may dispatch: no saved task of it waits (R310), no abort of one is incomplete, and it is neither failing nor
over. -/
def State.dispatching (s : State) (k : Kernel) : Bool :=
  (k.state == .dispatching || k.state == .running) && (s.savedOf k.id).isEmpty && !s.settling k.id

/-- Several clusters are spanned. -/
def spansClusters (ps : List (Nat × Nat)) : Bool :=
  match ps with
  | [] => false
  | p :: rest => rest.any fun q => clusterOf q.2 != clusterOf p.2

/-- The tag that a placement needs (R332): a gang that spans several clusters, or the gang that is the package's part of a kernel
with a domain barrier. -/
def Kernel.needsTags (k : Kernel) (ps : List (Nat × Nat)) : List Nat :=
  match ps with
  | p :: _ => (match k.gangOf p.1 with
      | some g => if spansClusters ps || k.domainBarrier 0 then [gangKey k.id g] else []
      | none => [])
  | [] => []

/-- The front end has the tags that a placement needs. -/
def State.tagsFor (s : State) (k : Kernel) (ps : List (Nat × Nat)) : Bool :=
  decide ((k.needsTags ps).length + s.fe.tags.length ≤ 8)

/-- The placement of some tasks, where the cores and the tags suffice. -/
def State.placement (s : State) (k : Kernel) (is : List Nat) : Option (List (Nat × Nat)) :=
  if is.isEmpty then none
  else match s.places k is with
    | some ps => if s.tagsFor k ps then some ps else none
    | none => none

/-- The four stochastic states at dispatch (R37). -/
def seedOf (seed i : Nat) : Nat :=
  let x := seed ^^^ (i * 0x9E3779B1 % 2 ^ 32)
  if x = 0 then 1 else x

/-- The handle registers of a launch record (R296). -/
def handlesOf (ws : List Word) : Sparse Handle :=
  (List.range 16).foldl (fun l n =>
    Sparse.set {} l n { w0 := ws.getD (2 * n) 0, w1 := ws.getD (2 * n + 1) 0 }) []

/-- The TIT of a launch record. -/
def titOf (ts : List (Nat × List Word)) : Sparse Word :=
  ts.foldl (fun l t => Sparse.write 0 l (5 * t.1) t.2) []

/-- A half at a dispatch: kept from a task of the same kernel unless it is FAULTED (R299). -/
def Half.kept (h : Half) : Half := match h with | .faulted .. => .empty | x => x

/-- The monitor image of a context, as the front end loads it (R266). -/
def State.monitorImage (s : State) (ctx : Nat) : Sparse Byte :=
  let x := s.ctxOf ctx
  Sparse.write 0 [] 0 (Memory.bytes s.mem x.monBase (32 * x.monLen))

/-- The debug state that is the core's own and stays from task to task: the trace ring (R376), and the register that the debug block
selects (R387). -/
def Debug.own (d : Debug) : Debug :=
  { trbase := d.trbase, tlog := d.tlog, trdrop := d.trdrop, head := d.head, sel := d.sel, dix := d.dix }

/-- A core as dispatch leaves it (R296). Of the staging registers XC, XD and XM (R119) no dispatch value is stated; they hold 0
(log 109). -/
def State.dispatched (s : State) (k : Kernel) (i runs cause c : Nat) : Core :=
  let old := s.coreAt c
  let same := old.loc.poolCtx == k.ctx
  let seed := seedOf k.seed i
  { id := c
    task := some { kern := k.id, idx := i, ctx := k.ctx, gang := k.gangOf i, placed := (s.die (dieOf c)).dtb,
                   born := old.seq.cyc, runs := runs, runCause := cause, ending := none }
    seq := { pc := k.entry, cyc := old.seq.cyc, lastCyc := old.seq.cyc }
    sc := { g := Sparse.set 0 (Sparse.set 0 (Sparse.set 0 [] 1 k.arg) 2 (w64 i)) 3 (w64 k.tasks) }
    st := { tit := titOf k.tits, h := handlesOf k.handles, b1 := k.b1, b2 := k.b2, b3 := k.b3,
            gid := (List.range 8).foldl (fun l n => Sparse.set 0 l n (k.gid n i)) [] }
    vec := { vrs0 := seed, vrs1 := seed, crs0 := seed, crs1 := seed }
    loc := { old.loc with
      pool := if same then old.loc.pool else []
      poolCtx := k.ctx
      half0 := if old.loc.imemKern = k.id then old.loc.half0.kept else .empty
      half1 := if old.loc.imemKern = k.id then old.loc.half1.kept else .empty
      imemKern := k.id
      mon := if old.loc.monCtx = k.ctx then old.loc.mon else s.monitorImage k.ctx
      monCtx := k.ctx
      lines := []
      settling := false }
    dbg := old.dbg.own }

/-- The armed dispatch of R387. -/
def State.armFire (s : State) (k : Kernel) (i : Nat) : State :=
  let a := s.host.arm0.toNat
  if bit a 0 ∧ bits a 32 32 = i ∧ bits a 20 12 = k.ctx ∧ s.host.arm1.toNat = k.lrec then
    { s.onDbg (fun d => { d with stop := true, reason := 1, asked := s.core.seq.cyc }) with
      host := { s.host with arm0 := w64 (a - 1) } }
  else s

/-- Load one task on its core (R296); the first grant of its cluster's array after that takes 3 as the last holder
(R158; log 27). Its start record is asked for by TASK as it stood before the dispatch clears it (R376, R377; log 116). What the
core needs for lines and segments is taken from victim storage (R217). -/
def State.loadTask (s : State) (k : Kernel) (runs cause : Nat) (p : Nat × Nat) : State :=
  let traced := (s.coreAt p.2).dbg.task
  let s := (s.putCore (s.dispatched k p.1 runs cause p.2).reclaim).onKernel k.id fun k => k.bindTo s.fab.pkg p.1 p.2
  let s := s.onCluster (p.2 / 4) fun x => { x with lastHolder := 3 }
  s.asCore p.2 fun s =>
    let s := s.armFire k p.1
    match s.core.task with
    | some t => s.recordStart traced t k.entry k.lrec
    | none => s

/-- Take the tags of a placement. -/
def State.takeTags (s : State) (k : Kernel) (ps : List (Nat × Nat)) : State :=
  { s with fe := { s.fe with tags := s.fe.tags ++ k.needsTags ps } }

/-- Dispatch the next tasks of a kernel at their places. -/
def State.dispatchAt (s : State) (k : Kernel) (ps : List (Nat × Nat)) : State :=
  let next := k.nextTasks
  let s := s.takeTags k ps
  let s := ps.foldl (fun s p =>
    let r := (next.find? fun x => x.1 == p.1).getD (p.1, 0, 0)
    s.loadTask k r.2.1 r.2.2 p) s
  let last := (ps.map fun p => p.1 + 1).foldl max k.nextTask
  let s := s.onKernel k.id fun k =>
    let again := k.again.filter fun a => !ps.any fun p => p.1 == a.1
    let nextTask := if k.again.isEmpty then last else k.nextTask
    let done := again.isEmpty && decide (k.first + k.count ≤ nextTask)
    { k with again := again, nextTask := nextTask, state := if done then .running else .dispatching }
  { s with fe := { s.fe with lastSlot := if k.slot < 64 then k.slot else s.fe.lastSlot, waits := Sparse.set 0 s.fe.waits k.slot 0 } }

/-- The front end's slot. -/
def State.slot (s : State) (p : Nat) : Slot := Sparse.get {} s.fe.slots p
/-- Change a slot. -/
def State.onSlot (s : State) (p : Nat) (f : Slot → Slot) : State :=
  { s with fe := { s.fe with slots := Sparse.set {} s.fe.slots p (f (s.slot p)) } }

/-- The slots in the order in which they place tasks: highest PRIO first, among equal PRIO round robin from the slot
that placed the last task (R287). Parts of other packages' kernels stand under slot 64, with PRIO 0. -/
def State.slotOrder (s : State) : List Nat :=
  let ring := (List.range 64).map fun n => (s.fe.lastSlot + 1 + n) % 64
  ((List.range 8).flatMap fun n => ring.filter fun p => (s.slot p).prio == 7 - n) ++ [64]

/-- Kernels in the order in which they may place tasks. -/
def State.kernelOrder (s : State) : List Kernel :=
  s.slotOrder.flatMap fun p => s.fe.kernels.filter fun k => k.slot == p

/-! ### Abort (R231, R316 to R318) -/

/-- An event for the drover: what, and about which. -/
def State.drover (s : State) (kind about : Nat) : State :=
  { s with fe := { s.fe with events := (kind, about) :: s.fe.events } }

/-- A product. -/
def Cmd.product (c : Cmd) : Bool :=
  match c.instr with
  | .mmul .. => true
  | .mmulb .. => true
  | .mrsa .. => true
  | .mrsd .. => true
  | _ => false

/-- The opcode and z of a product's record (R379). -/
def Cmd.opz (c : Cmd) : Nat × Nat := let w := (encode c.instr).toNat; (bits w 25 7, bits w 15 4)

/-- The records of the products that an abort discards (R379). -/
def State.recordProducts (s : State) : State :=
  (s.core.eng.qm.filter Cmd.product).foldl (fun s c => s.recordArray c c.opz.1 c.opz.2) s

/-- The task on the current core is dropped (R231, R316): its issued stores are performed, unless `lose` says that a
reset discards them (R269); its scratchpad and its tokens are discarded with it. -/
def State.dropTask (s : State) (t : Task) (how code : Nat) (lose : Bool) : State :=
  let s := s.cancelWait
  let s := if lose then s.onLoc fun l => { l with lines := [] } else s.cleanCache
  let s := (s.recordProducts.recordEnd t how code).onLoc fun l => { l with pool := [], poolCtx := 0, settling := true }
  (s.vacate.onEng fun g => { g with tok := [] }).gangTag t

/-- The task of core c is dropped. -/
def State.dropAt (s : State) (c how code : Nat) (lose : Bool) : State :=
  s.asCore c fun s => match s.core.task with | some t => s.dropTask t how code lose | none => s

/-- The records of the products that go with a saved task, in the trace ring of the core that issued them (R379). -/
def State.recordSaved (s : State) (v : Saved) : State :=
  if !v.core.dbg.acyc then s
  else s.asCore v.core.id fun s =>
    let own := s.core.dbg.acyc
    ((v.core.eng.qm.filter Cmd.product).foldl (fun s c => s.recordArray c c.opz.1 c.opz.2)
      (s.onDbg fun d => { d with acyc := true })).onDbg fun d => { d with acyc := own }

/-- Saved tasks are dropped, with their save slots (R316). -/
def State.dropSaves (s : State) (f : Task → Bool) : State :=
  let gone (v : Saved) : Bool := match v.core.task with | some t => f t | none => false
  let t := (s.fe.saved.filter gone).foldl State.recordSaved s
  { t with fe := { t.fe with saved := t.fe.saved.filter fun v => !gone v } }

/-- The tasks of a kernel still running are dropped, and its saved ones with their saves. -/
def State.dropKernel (s : State) (k how code : Nat) (lose : Bool) : State :=
  ((s.running k).foldl (fun s p => s.dropAt p.1 how code lose) s).dropSaves fun t => t.kern == k

/-- Tell the packages that still run a part of a kernel: 0 cancels it, 1 stops it because the kernel has failed. The
spec names no message for this; a launch hand-off without a record stands for it (log 1). -/
def State.tellParts (s : State) (k : Kernel) (what : Nat) : State :=
  (k.parts.filter fun p => !p.2).foldl
    (fun s p => s.send p.1 (.launchHandOff k.id 0 0 k.ctx s.fab.pkg [w64 what])) s

/-- A kernel whose tasks are placed and run. -/
def Kernel.alive (k : Kernel) : Bool := k.state == .dispatching || k.state == .running

/-- The kernel fails (R298): its other tasks are aborted, but for gang members that take GANG_ABORT at their next boundary (R318);
its parts are told; the drover's event carries ABORT's status (R320). -/
def State.stopKernel (s : State) (k : Nat) (status : Nat) : State :=
  let s := s.onKernel k fun x => { x with state := .failing, again := [], blocked := [] }
  let s := match s.kernel k with | some x => s.tellParts x 1 | none => s
  let free := (s.running k).filter fun p => (s.coreAt p.1).tr.gang.isNone
  ((free.foldl (fun s p => s.dropAt p.1 2 cGang false) s).dropSaves fun t => t.kern == k).drover 2 (2 ^ 16 * k + status)

/-- Failures of a kernel, as linear index and cause, are recorded; the first ones make it fail (R298). -/
def State.failKernel (s : State) (k : Nat) (fs : List (Nat × Nat)) (status : Nat) : State :=
  let s := s.onKernel k fun x => { x with fails := x.fails ++ fs }
  if (s.kernel k).any Kernel.alive then s.stopKernel k status else s

/-- The runs that count as consecutive when this one ends by a cause (R317). -/
def Task.runsWith (t : Task) (cause : Nat) : Nat := if t.runCause = cause then t.runs + 1 else 1

/-- An aborted task returns to its kernel's queue (R317); `wait` is the page it waits for. -/
def Kernel.requeue (k : Kernel) (i runs cause : Nat) (wait : Option Nat) : Kernel :=
  let k := { k with state := .dispatching, ended := dropNat i k.ended }
  match wait with
  | some va => { k with blocked := k.blocked ++ [(i, va, runs, cause)] }
  | none =>
      { k with again := k.again.filter (fun a => decide (a.1 < i)) ++ [(i, runs, cause)] ++
          k.again.filter (fun a => decide (i < a.1)) }

/-- The members of a gang that still run take GANG_ABORT at their next boundary (R318): its TINFO names the core that met the
error. -/
def State.tellGang (s : State) (k g core : Nat) : State :=
  (s.running k).foldl (fun s p =>
    if p.2.gang == some g then s.asCore p.1 fun s => s.onTr fun x => { x with gang := some core } else s) s

/-- The members of a gang that are saved. -/
def State.gangSaves (s : State) (k g : Nat) : List Nat :=
  (s.savedOf k).filterMap fun v => match v.core.task with | some u => if u.gang == some g then some u.idx else none | none => none

/-- Other members of an aborted gang that is placed again (R317, R318, R322): the running ones are told, saved ones are aborted
with their saves, and these and the ended ones run again. -/
def State.againGang (s : State) (k : Kernel) (t : Task) (g core : Nat) : State :=
  let saved := s.gangSaves k.id g
  let s := (s.tellGang k.id g core).dropSaves fun u => u.kern == k.id && u.gang == some g
  s.onKernel k.id fun k => ((k.members t.idx).filter (· != t.idx)).foldl (fun k j =>
    if saved.contains j || k.ended.contains j then k.requeue j 1 cGang none else k) k

/-- What becomes of an aborted task (R317): requeued, with the number of its runs and the page it waits for, or not. A REASON of 16
says that the cause is that of a FAILED region, which is never requeued (R358). -/
def Kernel.again? (k : Kernel) (t : Task) (cause reason addr : Nat) : Option (Nat × Option Nat) :=
  if !k.idem then none
  else if cause = cXlat ∧ reason < 16 then some (1, if reason = 0 then some addr else none)
  else if cause = cUe ∨ cause = cGang then some (1, none)
  else if cause = cTile then (if t.runsWith cause < 3 then some (t.runsWith cause, none) else none)
  else if 2 ^ 16 + 2 ^ 15 ≤ cause then (if t.runsWith (2 ^ 16) < 3 then some (t.runsWith (2 ^ 16), none) else none)
  else none

/-- The kernel fails with a task: a gang's other members are told, or, where they are saved, recorded with GANG_ABORT (R318). -/
def State.failTask (s : State) (k : Kernel) (t : Task) (core code status : Nat) : State :=
  match t.gang with
  | none => s.failKernel k.id [(t.idx, code)] status
  | some g =>
      let saved := (s.gangSaves k.id g).map fun j => (j, cGang)
      (s.tellGang k.id g core).failKernel k.id ((t.idx, code) :: saved) status

/-- Abort the task on the current core: requeue it by R317, or fail its kernel. A cause of 2^16 or more is ABORT with
its status (R320), recorded as cause 0. The task of a kernel that has failed before is recorded with its cause. -/
def State.abortTask (s : State) (cause reason addr : Nat) : State :=
  match s.core.task with
  | none => s
  | some t =>
      match s.kernel t.kern with
      | none => s.vacate
      | some k =>
          let how := if 2 ^ 16 ≤ cause then 1 else 2
          let code := if 2 ^ 16 ≤ cause then 0 else cause
          let key := if 2 ^ 16 ≤ cause then 2 ^ 16 else cause
          let core := s.core.id
          let s := s.dropTask t how (cause % 2 ^ 16) false
          if !k.alive then s.failKernel k.id [(t.idx, code)] 0
          else match k.again? t cause reason addr with
          | some r =>
              let s := s.onKernel k.id fun k => k.requeue t.idx r.1 key r.2
              (match t.gang with
               | some g => if cause = cGang then s else s.againGang k t g core
               | none => s)
          | none => s.failTask k t core code (if 2 ^ 16 ≤ cause then cause % 2 ^ 16 else 0)

end Sys2Proof.Machine
end

