-- ==== Sys2Proof/Machine/CoreEv.lean ====
section
/-! DEFINITION. Events of a core: landings, the spill engine, segment copies, boundary events, samples, debug stops
(R57, R61, R62, R84, R101, R300, R366, R376 to R387). -/

namespace Sys2Proof.Machine

/-! ### Holds and landings (R57, R61, R62) -/

/-- A hold still stands. -/
def State.stands (s : State) (h : Hold) : Bool :=
  let c := s.core
  match h with
  | .emptyG p => c.sc.empty.contains p
  | .emptyV r => c.vec.empty.contains r
  | .engine e => decide (c.seq.cyc < (c.engine e).busy)
  | .queue q => decide (8 ≤ c.eng.waiting q)
  | .segment h => (match c.loc.half h with | .loading _ => true | _ => false)
  | .spill => c.seq.spill.isSome
  | .table => c.seq.table.isSome
  | .flag f n => decide (c.sy.flagOf f < n)
  | .tokenAny m => (maskTokens m).all fun t => (c.token t).out
  | .tokenAll m => (maskTokens m).any fun t => (c.token t).out
  | .barrierArrive b => c.sy.arr.contains b
  | .barrierWait b => c.sy.arr.contains b
  | .counter _ => !c.sy.granted
  | .exit => c.eng.busy
  | .iwait => !c.tr.aip
  | .region id => s.fab.regions.any fun r => r.id == id
  | .wadd u => decide (c.seq.cyc < u)
  | .release => !c.loc.remote.isEmpty
  | .drainNt => !c.loc.remoteNt.isEmpty
  | .acquire => !c.returned
  | .stopped => c.dbg.stopped
  | .remote _ _ _ => s.asking (.issue c.id)

/-- HOLD_RELEASE (R57): core c, whose hold condition stands no longer, takes the next cycle, in which its bundle is judged and
issues. -/
def execHoldRelease (c : Nat) (s : State) : Host.Outcome State Fault Refusal :=
  let t := s.focus c
  happens (match t.core.seq.last with
    | .held h => if t.stands h then s else t.ended .issued
    | _ => s)

/-- FIXED_RESULT_LANDING (R61): the results due on core c land. -/
def execFixedResultLanding (c : Nat) (s : State) : Host.Outcome State Fault Refusal :=
  happens (s.asCore c fun s => s.onCore Core.landDue)

/-- Results of variable latency land (R62), once every answer of another package is there and their earliest cycle has come
(R145). -/
def Core.landWaiting (c : Core) (k : Nat) : Core :=
  match c.waiting[k]? with
  | some w =>
      if !w.ready c.seq.cyc then c
      else w.dst.foldl Core.land { c with waiting := c.waiting.eraseIdx k }
  | none => c

/-- VARIABLE_RESULT_LANDING (R62). -/
def execVariableResultLanding (c k : Nat) (s : State) : Host.Outcome State Fault Refusal :=
  happens (s.asCore c fun s => s.onCore fun x => x.landWaiting k)

/-! ### The spill engine (R84) -/

/-- The physical registers of slot n. -/
def slotRegs (n : Nat) : Nat := 8 + 16 * (n % 15)

/-- The move under way is complete: a spill stores its slot and LOW passes it, a fill loads it and LOW becomes it. -/
def Core.spilled (c : Core) : Core :=
  match c.seq.spill with
  | none => c
  | some (fill, n, _) =>
      let c := { c with seq := { c.seq with spill := none } }
      if fill then
        let ws := (chunks 8 16 (c.poolBytes (128 * n) 128)).map fun b => w64 (leNat b)
        { c with sc := { c.sc with g := Sparse.write (0 : Word) c.sc.g (slotRegs n) ws, low := n } }
      else
        let bs := (Sparse.read (0 : Word) c.sc.g (slotRegs n) 16).flatMap fun w => leBytes 8 w.toNat
        { c with sc := { c.sc with low := n + 1 }, loc := { c.loc with pool := Sparse.write 0 c.loc.pool (128 * n) bs } }

/-- SPILL_FILL (R84). -/
def execSpillFill (c : Nat) (s : State) : Host.Outcome State Fault Refusal :=
  happens (s.asCore c fun s => s.onCore Core.spilled)

/-! ### Segments (R299, R300) -/

/-- The image of a segment, read through the context's translation with X. -/
def State.segmentImage (s : State) (ctx : Nat) (g : Segment) : Except CmdFault (List Byte) :=
  s.peekBytes ctx g.va (32 * g.len) fun _ leaf => leafX leaf

/-- The copy into a half that is LOADING is complete: RESIDENT, or FAULTED with its cause, REASON and address (R300). A copy whose
task has left the core is dropped. -/
def State.segmentLoaded (s : State) (h : Nat) : State :=
  match s.core.loc.half h, s.myKernel with
  | .loading n, some k =>
      (match k.segs[n]? with
       | some g =>
           (match s.segmentImage k.ctx g with
            | .ok bs => s.onLoc fun l =>
                { l.setHalf h (.resident n) with imem := Sparse.write 0 l.imem (32 * 4096 * h) bs }
            | .error e => s.unless e fun s => s.onLoc fun l => l.setHalf h (.faulted n e.cause e.reason e.va))
       | none => s.onLoc fun l => l.setHalf h .empty)
  | .loading _, none => s.onLoc fun l => l.setHalf h .empty
  | _, _ => s

/-- SEGMENT_COPY_COMPLETE (R300). -/
def execSegmentCopyComplete (c h : Nat) (s : State) : Host.Outcome State Fault Refusal :=
  happens (s.asCore c fun s => (s.attemptBy (.segment c h) fun s => s.segmentLoaded h).2)

/-! ### Boundary events (R366) -/

/-- A trap that belongs to no bundle. A CWAIT of the bundle that it displaces is cancelled (R337; log 102). -/
def State.asyncTrap (s : State) (t : TrapInfo) : State :=
  ((s.onCore Core.rejoin).cancelWait.takeTrap t 0).onSeq fun q => { q with moved := false, iwait := false, wadd := none }

/-- The core stands at a bundle boundary at which an event may be taken: none is between an EXT and the bundle after it (R65), nor
between a JTAB and its delay bundles while the target is not known (R87; log 54). -/
def Core.between (c : Core) : Bool := c.seq.ext.isNone && !c.seq.targetOpen

/-- The same outside monitor level, where only UE_CORE and the traps of commands and results are taken (R370, R371). -/
def Core.atBoundary (c : Core) : Bool := c.between && !c.tr.mlvl

/-- A trap that a command or a result raises is taken now, where the core stands at a bundle boundary, else at the next (R230,
R345, R366); at monitor level it is DOUBLE (R371). -/
def State.raiseLate (s : State) (t : TrapInfo) : State := if s.core.between then s.asyncTrap t else s.postpone t

/-- An arrival interrupt may be taken (R101); an IWAIT that waits issues first (R102), and a debug stop lets it pend (R380). -/
def Core.interruptible (c : Core) : Bool :=
  c.atBoundary && !c.dbg.stopped && c.tr.aie && c.tr.aip && !c.tr.ain && !c.tr.tlvl && c.seq.xfer.isNone && !c.seq.iwait

/-- Take an arrival interrupt (R101). A CWAIT of the bundle that it displaces is cancelled, and sent again after the
handler (log 102). -/
def State.takeInterrupt (s : State) : State :=
  s.cancelWait.onCore fun c => { c with
    tr := { c.tr with apc := BitVec.ofNat 32 c.seq.pc, ain := true, aip := false, asrc := c.tr.apend }
    lp := { c.lp with iact := c.lp.act }.setAct 0
    seq := { c.seq with pc := c.tr.avec.toNat, wadd := none } }

/-- The point at which a requested stop is taken (R380). -/
def Core.stopPoint (c : Core) : Bool :=
  c.dbg.stop && c.atBoundary &&
    (if c.lp.pv then c.dbg.iterEnd else c.flight.isEmpty && c.seq.xfer.isNone)

/-- A stop is forced 4096 cycles after its request. -/
def Core.stopForced (c : Core) : Bool := c.dbg.stop && c.atBoundary && decide (c.dbg.asked + 4096 ≤ c.seq.cyc)

/-- No event that R366 takes before the n-th is pending at this boundary: 1 UE_CORE, then the traps of commands and results
(log 105), 2 GANG_ABORT, 3 CLOCK_SKEW, 4 pre-emption, 5 STEP, 6 a debug stop, 7 an arrival interrupt. -/
def State.firstUp (s : State) (n : Nat) : Bool :=
  let t := s.core.tr
  !t.ue && t.late.isEmpty && (decide (n ≤ 2) || t.gang.isNone) && (decide (n ≤ 3) || t.skew.isNone) &&
    (decide (n ≤ 4) || !(t.pre && s.saveFree)) && (decide (n ≤ 5) || !t.step) &&
    (decide (n ≤ 6) || !(s.core.stopPoint || s.core.stopForced))

/-- ARRIVAL_INTERRUPT (R101, R366). -/
def execArrivalInterrupt (c : Nat) (s : State) : Host.Outcome State Fault Refusal :=
  happens (s.asCore c fun s => if s.core.interruptible && s.firstUp 7 then s.takeInterrupt else s)

/-- What the shipped monitor does with STEP, and with BREAK and WATCH beside their record (R384): a stop with REASON 2 where BSTOP
is set or for STEP, and WRESUME. Its MRET is a bundle of the image. -/
def Core.resumeDebug (c : Core) (stop : Bool) : Core :=
  let c := if stop || c.dbg.bstop then c.askStop 2 else c
  { c with dbg := { c.dbg with skip := true } }

/-- Take STEP (R384). -/
def State.takeStep (s : State) : State :=
  ((s.onTr fun t => { t with step := false }).asyncTrap { cause := cStep, slot := false }).onCore fun c => c.resumeDebug true

/-- STEP (R366, R384): at the boundary after a bundle that issued at task level with DBGCTL.STEP set. -/
def execStep (c : Nat) (s : State) : Host.Outcome State Fault Refusal :=
  happens (s.asCore c fun s => if s.core.atBoundary && s.core.tr.step && s.firstUp 5 then s.takeStep else s)

/-- The record of a BREAK or a WATCH that has just entered the monitor (R377), and what the shipped monitor does behind it
(R384). -/
def State.disposed (s : State) (cause : Nat) : State :=
  let c := s.core
  let info := c.tr.minfo.toNat
  let rec_ : List Nat :=
    if cause = cBreak then [recordHead 6 c.id (bits info 0 16) c.tr.mpc.toNat, s.dtb, 0, 0]
    else [recordHead 7 c.id (bits info 16 12) c.tr.mpc.toNat, s.dtb, c.tr.maddr.toNat, flg c.dbg.unscr 1 + flg c.dbg.wrote 0]
  (s.record rec_).onCore fun c => c.resumeDebug false

/-- A sample falls due in this cycle, and none has been taken in it: every 2^(SPER + 7) cycles counted from dispatch, not at
monitor level (R378). -/
def Core.sampleDue (c : Core) : Bool :=
  match c.task with
  | some t => decide (1 ≤ c.dbg.sper ∧ c.dbg.sper ≤ 12) && ((c.seq.cyc : Int) - t.born) % 2 ^ (c.dbg.sper + 7) == 0 &&
      decide (t.born < (c.seq.cyc : Int)) && !c.tr.mlvl && c.dbg.sampled != c.seq.cyc + 1
  | none => false

/-- Take the sample of this cycle, where one falls due (R378). -/
def State.sample (s : State) : State :=
  if s.core.sampleDue then s.recordSample.onDbg fun d => { d with sampled := s.core.seq.cyc + 1 } else s

/-- TRACE_SAMPLE (R378). -/
def execTraceSample (c : Nat) (s : State) : Host.Outcome State Fault Refusal := happens (s.asCore c State.sample)

/-! ### Debug stops (R376, R380, R387) -/

/-- Take the stop: the record, and issue holds. -/
def State.stopNow (s : State) (reason : Nat) : State :=
  ((s.recordStop reason).onDbg fun d => { d with stop := false, stopped := true, reason := 0 }).ended (.held .stopped)

/-- Take a forced stop: results in flight are captured. -/
def State.stopForce (s : State) : State :=
  let s := s.onCore Core.rejoin
  let f := s.core.frame
  ((s.stopNow 3).onCore Core.unflight).onDbg fun d => { d with frame := some f }

/-- DEBUG_STOP (R380). -/
def execDebugStop (c : Nat) (s : State) : Host.Outcome State Fault Refusal :=
  happens (s.asCore c fun s => if s.core.stopPoint && s.firstUp 6 then s.stopNow s.core.dbg.reason else s)

/-- DEBUG_STOP_FORCE (R380). -/
def execDebugStopForce (c : Nat) (s : State) : Host.Outcome State Fault Refusal :=
  happens (s.asCore c fun s => if s.core.stopForced && s.firstUp 6 then s.stopForce else s)

/-- STOP (R376): the monitor's write of 1 to DBGCTL.STOP. -/
def execStop (c : Nat) (s : State) : Host.Outcome State Fault Refusal :=
  happens (s.asCore c fun s => s.onCore fun x => x.askStop 2)

/-- REQ (R387): STOP of the running task. -/
def execReq (c : Nat) (s : State) : Host.Outcome State Fault Refusal :=
  happens (s.asCore c fun s => s.onCore fun x => if x.task.isSome then x.askStop 0 else x)

/-- A stop ends: what a forced stop captured lands as at a return (R380). -/
def Core.resumeStop (c : Core) : Core :=
  let d := c.replay c.dbg.frame
  { d with dbg := { d.dbg with stopped := false, frame := none }, seq := { d.seq with last := .issued } }

/-- RUN (R387). -/
def execRun (c : Nat) (s : State) : Host.Outcome State Fault Refusal :=
  happens (s.asCore c fun s => s.onCore fun x => if x.dbg.stopped then x.resumeStop else x)

/-- The register that debug word 2 selects (R387): its value. -/
def State.debugRead (s : State) : Nat :=
  let c := s.core
  let sel := c.dbg.sel.toNat
  let num := bits sel 0 12
  if bits sel 62 2 = 0 then (if num < 248 then (Sparse.get 0 c.sc.g num).toNat else 0)
  else if bits sel 62 2 = 1 then (s.readSr num).getD 0
  else if bits sel 62 2 = 2 then
    (if num / 16 < 160 then leNat (c.vbytes (num / 16) (256 * (num % 16) + 8 * c.dbg.dix) 8) else 0)
  else 0

/-- The selected register written; full/empty bits stay. -/
def Core.debugWrite (c : Core) (v : Word) : Core :=
  let sel := c.dbg.sel.toNat
  let num := bits sel 0 12
  if bits sel 62 2 = 0 then
    (if num < 248 then { c with sc := { c.sc with g := Sparse.set 0 c.sc.g num v } } else c)
  else if bits sel 62 2 = 1 then c.writeSr num v.toNat
  else if bits sel 62 2 = 2 then
    (if num / 16 < 160 then
      { c with vec := { c.vec with
        v := Sparse.write 0 c.vec.v (4096 * (num / 16) + 256 * (num % 16) + 8 * c.dbg.dix) (leBytes 8 v.toNat) } }
     else c)
  else c

/-- An answer to the host or to management. -/
def State.answer (s : State) (bs : List Byte) : State :=
  { s with host := { s.host with answers := (0, bs) :: s.host.answers } }

/-- DATA advances within its chunk (R387). -/
def Debug.advance (d : Debug) : Debug := { d with dix := (d.dix + 1) % 32 }

/-- A read of DATA of the current core (R387). -/
def State.readData (s : State) : State :=
  let x := if s.core.dbg.stopped then s.debugRead else 0
  (s.answer (leBytes 8 x)).onDbg fun d => if d.stopped then d.advance else d

/-- DATA (R387): a read (none) or a write; 0 and ignored where the core is not stopped. -/
def execData (c : Nat) (v : Option Word) (s : State) : Host.Outcome State Fault Refusal :=
  happens (s.asCore c fun s =>
    match v with
    | none => s.readData
    | some w => s.onCore fun x =>
        if x.dbg.stopped then let y := x.debugWrite w; { y with dbg := y.dbg.advance } else x)

/-- HBIND (R375, R417). -/
def execHbind (c n k : Nat) (v : Word) (s : State) : Host.Outcome State Fault Refusal :=
  happens (s.asCore c fun s => s.onCore fun x => x.writeSr (0x120 + 2 * n + k) v.toNat)

end Sys2Proof.Machine
end

