-- ==== Sys2Proof/Machine/Matrix.lean ====
section
/-! DEFINITION. The M slot: the array lease, weight blocks, products, drains, FGEMV (R157 to R173, R236 to R242). -/

namespace Sys2Proof.Machine

/-! ### Formats (R160) -/

/-- The group of an operand format; operands of one product are of one group. 0 BF16, 1 FP16, 2 the 8-bit floating
formats, 3 the 4-bit ones, 4 INT8, 5 FP64. -/
def fmtGroup (f : Nat) : Option Nat :=
  if f = 5 then some 0 else if f = 4 then some 1
  else if f = 8 ∨ f = 9 ∨ f = 11 ∨ f = 12 then some 2
  else if f = 10 ∨ f = 13 then some 3 else if f = 0 then some 4 else if f = 7 then some 5 else none

/-- The tag a product of FMT `f` gives its Z tiles. -/
def fmtTag (f : Nat) : ZTag := if f = 0 then .int32 else if f = 7 then .fp64Low else .fp32

/-- Cycles of a product step (R171). -/
def stepCycles (f : Nat) : Nat := if fmtBits f = 4 then 16 else if fmtBits f = 8 then 32 else 64

/-! ### Issue (R149, R155, R157) -/

/-- IA, JA or IB, JB of XM2 and XM3. -/
def originOf (x : Word) : Nat × Nat := (bits x.toNat 8 8, bits x.toNat 0 8)
/-- A reserved bit of an origin is set. -/
def originDirty (x : Word) : Bool := bits x.toNat 16 48 != 0
/-- LT, BN, BK, MT of XM4. -/
def xm4LT (x : Word) : Nat := bits x.toNat 16 32
def xm4BN (x : Word) : Nat := bits x.toNat 12 3
def xm4BK (x : Word) : Nat := bits x.toNat 8 3
def xm4MT (x : Word) : Nat := bits x.toNat 0 5
/-- A reserved bit of XM4 is set. -/
def xm4Dirty (x : Word) : Bool :=
  bits x.toNat 48 16 != 0 || bit x.toNat 15 || bit x.toNat 11 || bits x.toNat 5 3 != 0
/-- BK and BN are 1 to 4. -/
def xm4Block (x : Word) : Bool :=
  decide (1 ≤ xm4BK x ∧ xm4BK x ≤ 4) && decide (1 ≤ xm4BN x ∧ xm4BN x ≤ 4)
/-- A product traps ILLEGAL on this XM4: a reserved bit is set, or a field lies outside its range (R155). -/
def xm4Bad (x : Word) : Bool :=
  xm4Dirty x || !xm4Block x || xm4LT x == 0 || decide (xm4MT x < 1 ∨ 16 < xm4MT x)

/-- A staging register of a command. -/
def Cmd.reg (c : Cmd) (k : Nat) : Word := c.x.getD k 0

/-- The Z tiles of a product's result. -/
def Cmd.zs (c : Cmd) (g : Engines) : List Nat :=
  let w (z : BitVec 4) (back : Bool) : List Nat :=
    match g.blocks.find? (fun p => p.1 == c.block) with
    | some p =>
        let across := if back then xm4BK (p.2.reg 4) else xm4BN (p.2.reg 4)
        let wide := if c.a.fmt = 7 then 2 else 1
        (List.range (xm4MT (c.reg 4) * across)).map fun k => z.toNat + wide * k
    | none => []
  match c.instr with
  | .mmul _ z _ _ => w z false
  | .mmulb _ z _ _ => w z true
  | .mrsa _ z _ _ _ => (List.range (xm4BK (c.reg 4) * xm4BN (c.reg 4))).map (z.toNat + ·)
  | .mrsd _ z _ _ _ => (List.range (xm4BK (c.reg 4) * xm4BN (c.reg 4))).map (z.toNat + ·)
  | _ => []

/-- A Z tile's tag, count and vectors. -/
def Engines.ztile (g : Engines) (z : Nat) : ZTile := Sparse.get {} g.zt z

/-- The Z tiles that an M command reads, and those that it writes (R170); a tile of FP64 stands with its pair. -/
def Cmd.touches (c : Cmd) (g : Engines) : List Nat × List Nat :=
  let own := (c.zs g).flatMap fun z => if c.a.fmt = 7 then [z, z + 1] else [z]
  let drained (z : BitVec 4) : List Nat :=
    if c.a.fmt = 7 ∨ (g.ztile z.toNat).tag = .fp64Low then [z.toNat, z.toNat + 1] else [z.toNat]
  match c.instr with
  | .mmul .. => (own, own)
  | .mmulb .. => (own, own)
  | .mrsa .. => (own, own)
  | .mrsd .. => ([], own)
  | .mzero _ z => ([], [z.toNat])
  | .mdrn _ z _ _ r => (drained z, if r = 1 then drained z else [])
  | .mdrnr _ z _ _ r => (drained z, if r = 1 then drained z else [])
  | _ => ([], [])

/-- The tokens that a command waits for, with those that the commands producing them wait for, n links deep. -/
def Engines.awaits (g : Engines) : Nat → List (Nat × Nat) → List Nat
  | 0, _ => []
  | n + 1, us =>
      let now := us.filter fun u => (Sparse.get {} g.tok u.1).gen == u.2
      let more := ((g.qm ++ g.q0 ++ g.q1).filter fun c => now.any fun u => u.1 == c.tok).flatMap fun c => c.uses
      now.map Prod.fst ++ (if more.isEmpty then [] else g.awaits n more)

/-- The Z tiles of which command `c`, new in the queue, and the earlier command `e` are not ordered by a token as R170
asks: one writes what the other touches, and `c` does not wait for `e`. -/
def Engines.clash (g : Engines) (e c : Cmd) : List Nat :=
  if (g.awaits 24 c.uses).contains e.tok then []
  else
    let x := e.touches g
    let y := c.touches g
    (x.2.filter fun z => y.1.contains z || y.2.contains z) ++ x.1.filter fun z => y.2.contains z

/-- An M command enters its queue; it and those it is not ordered against leave the Z tiles they share open (R170). -/
def Engines.accept (g : Engines) (c : Cmd) : Engines :=
  { g with qm := (g.qm.map fun e => { e with wild := e.wild ++ g.clash e c }) ++
      [{ c with wild := c.wild ++ g.qm.flatMap fun e => g.clash e c }] }

/-- An M command at issue: a full queue holds; a FAILED array traps UE_CORE (R242); without a lease any command but
MLEASE traps NOLEASE (R157); then XM0, the command's own checks, and its token. -/
def State.matrixIssue (s : State) (i : Instr) (t : BitVec 6) (leased : Bool) (check : Cmd → State → Act Cmd) : Res :=
  if 8 ≤ s.core.eng.waiting 0 then .hold (.queue 0) s
  else if (s.cluster (clusterOf s.core.id)).failed then s.raise cUe
  else if leased && s.core.eng.lease == .none then s.raise cNolease
  else
    let x := s.core.staged 2
    (s.consumes (x.getD 0 0).toNat).bind fun uses s =>
      (check { bareCmd i s.core.seq.pc t.toNat with x := x, uses := uses } s).bind fun c s => s.enqueueBy Engines.accept c

/-- MLEASE (R157, R159). -/
def execMlease (t : BitVec 6) (s : State) : Host.Outcome State Fault Refusal :=
  settle 4 ((s.matrixIssue (.mlease t) t false fun c s =>
    let x := (c.reg 1).toNat
    if bits x 10 54 != 0 || bit x 7 || decide (64 < bits x 0 7) then s.raise cIllegal else .ok c s).bind fun _ s =>
      (s.onEng fun g => { g with lease := if g.lease = .none then .requested else g.lease }).ok)

/-- MFREE (R157, R159). -/
def execMfree (t : BitVec 6) (s : State) : Host.Outcome State Fault Refusal :=
  settle 4 ((s.matrixIssue (.mfree t) t true fun c s => .ok c s).bind fun _ s =>
    (s.onEng fun g => { g with lease := .none }).ok)

/-- The operand checks of a product or a load: format group, V with CHK, the view (R160, R161, R163). -/
def State.operandCheck (s : State) (t : TidWords) (v : Bool) : Res :=
  if (fmtGroup t.fmt).isNone || (v && !t.chk) || !t.viewable then s.raise cOpfmt else s.ok

/-- A command of the M queue names a block: its MLDW, or a product through it (R163, R164). -/
def Engines.uses (g : Engines) (b : Nat) : Bool := g.qm.any fun c => c.block == b

/-- MLDW (R163). The block stays known as long as a command of the queue names it. -/
def execMldw (t a : BitVec 6) (v : BitVec 1) (s : State) : Host.Outcome State Fault Refusal :=
  settle 4 ((s.matrixIssue (.mldw t a v) t true fun c s =>
    let x := s.core.tid a.toNat
    let o := originOf (c.reg 2)
    let m := c.reg 4
    if originDirty (c.reg 2) || xm4Dirty m || !xm4Block m then s.raise cIllegal
    else (s.operandCheck x (v == 1)).bind fun _ s =>
      if x.fmt = 7 ∧ (xm4BK m ≠ 1 ∨ xm4BN m ≠ 1) then s.raise cOpfmt
      else (s.blockCheck x o.1 o.2 (xm4BK m) (xm4BN m)).bind fun _ s =>
        .ok { c with a := x, block := s.core.eng.nblock + 1 } s).bind fun _ s =>
    (s.onEng fun g =>
      match g.qm.getLast? with
      | some c => { g with
          nblock := g.nblock + 1, bfmt := c.a.fmt, bk := xm4BK (c.reg 4), bn := xm4BN (c.reg 4)
          blocks := (g.nblock + 1, c) :: g.blocks.filter fun p => g.uses p.1 }
      | none => g).ok)

/-- MMUL and MMULB: `back` for MMULB (R164, R165). -/
def State.stationary (s : State) (i : Instr) (back : Bool) (t : BitVec 6) (z : BitVec 4) (a : BitVec 6) (v : BitVec 1) :
    Res :=
  s.matrixIssue i t true fun c s =>
    let g := s.core.eng
    let x := s.core.tid a.toNat
    let o := originOf (c.reg 2)
    let mt := xm4MT (c.reg 4)
    let across := if back then g.bk else g.bn
    let depth := if back then g.bn else g.bk
    let full := if x.fmt = 7 then decide (z.toNat % 2 = 1) || decide (16 < z.toNat + 2 * mt)
      else decide (16 < z.toNat + mt * across)
    if originDirty (c.reg 2) || xm4Bad (c.reg 4) then s.raise cIllegal
    else (s.operandCheck x (v == 1)).bind fun _ s =>
      if g.nblock = 0 ∨ fmtGroup x.fmt ≠ fmtGroup g.bfmt then s.raise cOpfmt
      else if full then s.raise cIllegal
      else (s.blockCheck x o.1 o.2 mt depth).bind fun _ s => .ok { c with a := x, block := g.nblock } s

/-- MMUL (R164). -/
def execMmul (t : BitVec 6) (z : BitVec 4) (a : BitVec 6) (v : BitVec 1) (s : State) :
    Host.Outcome State Fault Refusal := settle 4 (s.stationary (.mmul t z a v) false t z a v)

/-- MMULB (R165). -/
def execMmulb (t : BitVec 6) (z : BitVec 4) (a : BitVec 6) (v : BitVec 1) (s : State) :
    Host.Outcome State Fault Refusal := settle 4 (s.stationary (.mmulb t z a v) true t z a v)

/-- MRSA and MRSD (R166). -/
def State.resultBound (s : State) (i : Instr) (t : BitVec 6) (z : BitVec 4) (a b : BitVec 6) (v : BitVec 1) : Res :=
  s.matrixIssue i t true fun c s =>
    let x := s.core.tid a.toNat
    let y := s.core.tid b.toNat
    let o := originOf (c.reg 2)
    let p := originOf (c.reg 3)
    let m := c.reg 4
    if originDirty (c.reg 2) || originDirty (c.reg 3) || xm4Bad m ||
        decide (16 < z.toNat + xm4BK m * xm4BN m) then s.raise cIllegal
    else (s.operandCheck x (v == 1)).bind fun _ s => (s.operandCheck y (v == 1)).bind fun _ s =>
      if fmtGroup x.fmt ≠ fmtGroup y.fmt ∨ (x.fmt = 7 ∧ (xm4BK m ≠ 1 ∨ xm4BN m ≠ 1 ∨ z.toNat % 2 = 1)) then
        s.raise cOpfmt
      else (s.blockCheck x o.1 o.2 (xm4LT m) (xm4BK m)).bind fun _ s =>
        (s.blockCheck y p.1 p.2 (xm4LT m) (xm4BN m)).bind fun _ s => .ok { c with a := x, b := y } s

/-- MRSA (R166). -/
def execMrsa (t : BitVec 6) (z : BitVec 4) (a b : BitVec 6) (v : BitVec 1) (s : State) :
    Host.Outcome State Fault Refusal := settle 4 (s.resultBound (.mrsa t z a b v) t z a b v)

/-- MRSD (R166). -/
def execMrsd (t : BitVec 6) (z : BitVec 4) (a b : BitVec 6) (v : BitVec 1) (s : State) :
    Host.Outcome State Fault Refusal := settle 4 (s.resultBound (.mrsd t z a b v) t z a b v)

/-- MDRN and MDRNR at issue (R161, R168, R169). -/
def State.drainIssue (s : State) (i : Instr) (ring : Bool) (t : BitVec 6) (a : BitVec 6) (m : BitVec 2) : Res :=
  s.matrixIssue i t true fun c s =>
    let x := s.core.tid a.toNat
    let o := originOf (c.reg 2)
    if m = 3 ∨ originDirty (c.reg 2) then s.raise cIllegal
    else if (ring && !x.chk) || !x.viewable then s.raise cOpfmt
    else (s.blockCheck x o.1 o.2 1 1).bind fun _ s => .ok { c with a := x } s

/-- MDRN (R168). -/
def execMdrn (t : BitVec 6) (z : BitVec 4) (a : BitVec 6) (m : BitVec 2) (c : BitVec 1) (s : State) :
    Host.Outcome State Fault Refusal := settle 4 (s.drainIssue (.mdrn t z a m c) false t a m)

/-- MDRNR (R169). -/
def execMdrnr (t : BitVec 6) (z : BitVec 4) (a : BitVec 6) (m : BitVec 2) (c : BitVec 1) (s : State) :
    Host.Outcome State Fault Refusal := settle 4 (s.drainIssue (.mdrnr t z a m c) true t a m)

/-- MZERO (R167). -/
def execMzero (t : BitVec 6) (z : BitVec 4) (s : State) : Host.Outcome State Fault Refusal :=
  settle 4 (s.matrixIssue (.mzero t z) t true fun c s => .ok c s)

/-- FGEMV (R173). -/
def execFgemv (t a b : BitVec 6) (k : BitVec 1) (s : State) : Host.Outcome State Fault Refusal :=
  settle 4 (s.matrixIssue (.fgemv t a b k) t true fun c s =>
    let y := (c.reg 5).toNat
    if bits y 6 58 != 0 then s.raise cIllegal
    else
      let m := s.core.tid a.toNat
      let x := s.core.tid b.toNat
      let r := s.core.tid y
      let vector (v : TidWords) : Bool := v.fmt == 6 && !v.pool && !v.swz && !v.ord
      if !([4, 5, 8, 9].contains m.fmt) || m.pool || m.ord || m.swz || !vector x || !vector r then s.raise cOpfmt
      else .ok { c with a := m, b := x, y := r } s)

/-! ### Z tiles (R162) -/

/-- The 4096 codes of a Z tile. -/
def Engines.zcodes (g : Engines) (z : Nat) : List Nat := Sparse.read 0 g.z (4096 * z) 4096
/-- The codes of the Z tile or pair at `z`, as its tag says. -/
def Engines.zread (g : Engines) (tag : ZTag) (z : Nat) : List Nat :=
  if tag = .fp64Low then (g.zcodes z).zipWith (fun lo hi => lo + 2 ^ 32 * hi) (g.zcodes (z + 1)) else g.zcodes z
/-- Write codes to the Z tile or pair at `z`. -/
def Engines.zwrite (g : Engines) (tag : ZTag) (z : Nat) (xs : List Nat) : Engines :=
  if tag = .fp64Low then
    { g with z := Sparse.write 0 (Sparse.write 0 g.z (4096 * z) (xs.map (· % 2 ^ 32))) (4096 * (z + 1))
                    (xs.map (· / 2 ^ 32)) }
  else { g with z := Sparse.write 0 g.z (4096 * z) xs }
/-- Change a Z tile's tag, count and vectors. -/
def Engines.onZtile (g : Engines) (z : Nat) (f : ZTile → ZTile) : Engines :=
  { g with zt := Sparse.set {} g.zt z (f (g.ztile z)) }
/-- MZERO's effect on a Z tile (R167). -/
def Engines.zzero (g : Engines) (z : Nat) : Engines :=
  { g with z := Sparse.clear g.z (4096 * z) 4096, zt := Sparse.set {} g.zt z {} }

/-- The format of the elements of a tag; none for INT32. -/
def ZTag.fmt : ZTag → Option Fmt
  | .int32 => none
  | .fp64Low => some fp64
  | .fp64High => some fp64
  | .fp32 => some Sys2Proof.Machine.fp32
/-- The values of codes of a tag. -/
def ZTag.nums (t : ZTag) (xs : List Nat) : List Num :=
  match t.fmt with
  | some g => xs.map g.decode
  | none => xs.map fun x => Num.ofInt (signedOf 32 x)

/-- A product may not write the Z tile at `z` (R162). -/
def Engines.zForeign (g : Engines) (tag : ZTag) (z : Nat) : Bool :=
  let other (k : Nat) (t : ZTag) : Bool := (g.ztile k).zk != 0 && (g.ztile k).tag != t
  other z tag || (tag == .fp64Low && other (z + 1) .fp64High)

/-! ### Products (R45, R164 to R166, R236) -/

/-- The element-wise sum of lists in order, each addition in FP64 or modulo 2^32 (R236). -/
def sumLists (int : Bool) (n : Nat) (ls : List (List Num)) : List Num :=
  ls.foldl (fun acc l => acc.zipWith (fun a x => if int then Num.ofInt (a.int + x.int) else in64 (a.add x).1) l)
    (List.replicate n (.fin false 0 0))

/-- One carried sum or magnitude. -/
def macSum (int : Bool) (z : Nat) (a b : List Num) : Nat := if int then macInt z a b else mac fp64 z a b

/-- Add A·B to a Z tile: `rows` are the 64 rows of A over the step's indices, `cols` the 64 columns of B; the carried
vectors with it (R236). -/
def Engines.product (g : Engines) (tag : ZTag) (z : Nat) (rows cols : List (List Num)) (lock bkk bcc : Nat) : Engines :=
  let int := tag == .int32
  let n := (rows.headD []).length
  let old := g.zread tag z
  let new := (rows.zip (chunks 64 64 old)).flatMap fun r =>
    (cols.zip r.2).map fun c => match tag.fmt with
      | some f => mac f c.2 r.1 c.1
      | none => macInt c.2 r.1 c.1
  let g := g.zwrite tag z new
  let mags (l : List (List Num)) : List (List Num) := l.map fun x => x.map Num.abs
  let be := sumLists int n cols
  let ea := sumLists int n rows
  let bm := sumLists int n (mags cols)
  let am := sumLists int n (mags rows)
  let v := Sparse.read 0 (g.ztile z).vec 0 256
  let part (k : Nat) : List Nat := (v.drop (64 * k)).take 64
  let new := (cols.zip (part 0)).map (fun p => macSum int p.2 ea p.1) ++
    (rows.zip (part 1)).map (fun p => macSum int p.2 p.1 be) ++
    ((mags cols).zip (part 2)).map (fun p => macSum int p.2 am p.1) ++
    ((mags rows).zip (part 3)).map (fun p => macSum int p.2 p.1 bm)
  let g := g.onZtile z fun t =>
    { t with tag := tag, zk := satAdd t.zk n (2 ^ 32 - 1), lock := lock, bkk := bkk, bcc := bcc
             vec := Sparse.write 0 [] 0 new }
  if tag = .fp64Low then g.onZtile (z + 1) fun t => { t with tag := .fp64High } else g

/-- A view tile of an operand, verified where V asks (R163): its values in view order. -/
def engOperand (t : TidWords) (v : Bool) (a b : Nat) : Eng (List Num) := do
  let q := t.stored a b
  let r ← engTile t q.1 q.2 v
  let r ← if v then (do let c ← engVerify t r 1; return c.raw) else pure r
  return t.view (t.nums r.codes r.scales)

/-- Several view tiles. -/
def engOperands (t : TidWords) (v : Bool) (ps : List (Nat × Nat)) : Eng (List (List Num)) :=
  ps.mapM fun p => engOperand t v p.1 p.2

/-- Rows of tiles laid side by side. -/
def sideBySide (ts : List (List Num)) : List (List Num) :=
  (List.range 64).map fun i => ts.flatMap fun t => (t.drop (64 * i)).take 64
/-- Columns of tiles laid one under the other. -/
def stacked (ts : List (List Num)) : List (List Num) :=
  ts.foldl (fun acc t => acc.zipWith (· ++ ·) (colsOf t)) (List.replicate 64 [])

/-- Load the block of an MLDW into a weight buffer that no started product uses (R158, R163). -/
def engLoad (w : Cmd) : Eng Unit := do
  let o := originOf (w.reg 2)
  let v := match w.instr with | .mldw _ _ v => v == 1 | _ => false
  let ps := (List.range (xm4BK (w.reg 4))).flatMap fun k => (List.range (xm4BN (w.reg 4))).map fun c => (k, c)
  let tiles ← ps.mapM fun p => do
    let q := w.a.stored (o.1 + p.1) (o.2 + p.2)
    let r ← engTile w.a q.1 q.2 v
    let r ← if v then (do let c ← engVerify w.a r 1; return c.raw) else pure r
    return (r.codes, r.scales)
  engOn fun s => s.onEng fun g =>
    let used (b : Weights) : Bool := g.qm.any fun c => c.started && !c.finished && c.block == b.id && !(c.instr matches .mldw ..)
    let rest := g.wbuf.filter fun b => b.id != w.block
    { g with
      wbuf := ⟨w.block, true, tiles⟩ :: (rest.filter used ++ rest.filter fun b => !used b).take 1
      loads := if g.loads.any fun b => b.id == w.block then g.loads else ⟨w.block, true, tiles⟩ :: g.loads.filter fun b => g.uses b.id }

/-- The command's cycles of a class grow (R379). -/
def Cmd.charge (c : Cmd) (k n : Nat) : Cmd :=
  { c with cycles := setAt c.cycles k (satAdd (c.cycles.getD k 0) n (2 ^ 32 - 1)) }

/-- The tiles of a block as its MLDW loaded them, and as a weight buffer holds them. -/
def Engines.loadedAs (g : Engines) (n : Nat) : Option (List (List Nat × List Nat)) := (g.loads.find? fun b => b.id == n).map Weights.tiles
def Engines.heldAs (g : Engines) (n : Nat) : Option (List (List Nat × List Nat)) := (g.wbuf.find? fun b => b.id == n).map Weights.tiles

/-- The weight block of a stationary product is loaded: reloaded where it is not the core's own (R158). A block that has
changed since its MLDW leaves the product's Z tiles open. -/
def engWeights : Eng Unit := do
  let c ← engC
  let g := (← engS).core.eng
  if g.wbuf.any (fun b => b.id == c.block && b.own) then return ()
  else match g.blocks.find? (fun p => p.1 == c.block) with
    | some p => do
        engLoad p.2
        engCmd fun c => c.charge 0 (64 * xm4BK (p.2.reg 4) * xm4BN (p.2.reg 4))
        let g := (← engS).core.eng
        if g.loadedAs c.block ≠ g.heldAs c.block then engCmd fun c => { c with wild := (c.touches g).2 }
    | none => return ()

/-- The number of steps of a product (R171). -/
def Cmd.steps (c : Cmd) : Nat :=
  match c.instr with
  | .mmul _ _ _ _ => xm4MT (c.reg 4)
  | .mmulb _ _ _ _ => xm4MT (c.reg 4)
  | _ => xm4LT (c.reg 4)

/-- A product starts: the tags of its Z tiles are judged, MRSD clears them, weights are loaded or given up, and the
array fills (R158, R162, R166, R171); the cycles in which the array had nothing to run are charged to it (R379). -/
def engStartProduct : Eng Unit := do
  let c ← engC
  let tag := fmtTag c.a.fmt
  match c.instr with
  | .mrsd _ _ _ _ _ => engOn fun s => s.onEng fun g => (c.zs g).foldl (fun g z =>
      (if tag = .fp64Low then (g.zzero z).zzero (z + 1) else g.zzero z).onZtile z fun t => { t with tag := tag }) g
  | _ => pure ()
  let g := (← engS).core.eng
  if (c.zs g).any fun z => g.zForeign tag z && !c.wild.contains z then engFault cOpfmt 0 0
  match c.instr with
  | .mmul _ _ _ _ => engWeights
  | .mmulb _ _ _ _ => engWeights
  | _ =>
      engCmd fun c => { c with held := true, zsave := g.z, ztsave := g.zt }
      engOn fun s => s.onEng fun g => { g with wbuf := [] }
  let k := clusterOf (← engS).core.id
  let x := (← engS).cluster k
  engOn fun s => s.onCluster k fun x => { x with depend := 0, idle := 0 }
  engCmd fun c => ((c.charge 0 288).charge 3 x.depend).charge 4 x.idle

/-- The weight tile of the command's block at (kk, c), in view order. -/
def Engines.weight (g : Engines) (c : Cmd) (kk cc : Nat) : List Num :=
  match g.wbuf.find? (fun b => b.id == c.block), g.blocks.find? (fun p => p.1 == c.block) with
  | some b, some p =>
      let t := b.tiles.getD (kk * xm4BN (p.2.reg 4) + cc) ([], [])
      p.2.a.view (p.2.a.nums t.1 t.2)
  | _, _ => List.replicate 4096 (.fin false 0 0)

/-- Block height and width of a stationary product. -/
def Engines.blockOf (g : Engines) (c : Cmd) : Nat × Nat :=
  match g.blocks.find? (fun p => p.1 == c.block) with
  | some p => (xm4BK (p.2.reg 4), xm4BN (p.2.reg 4))
  | none => (1, 1)

/-- One step of a product (R164 to R166). -/
def engProductStep : Eng Unit := do
  let c ← engC
  let g := (← engS).core.eng
  let tag := fmtTag c.a.fmt
  let wide := if c.a.fmt = 7 then 2 else 1
  let o := originOf (c.reg 2)
  let p := originOf (c.reg 3)
  let r := c.step
  let b := g.blockOf c
  match c.instr with
  | .mmul _ z _ v => do
      let xs ← engOperands c.a (v == 1) ((List.range b.1).map fun k => (o.1 + r, o.2 + k))
      engOn fun s => s.onEng fun g => (List.range b.2).foldl (fun g cc =>
        g.product tag (z.toNat + wide * (r * b.2 + cc)) (sideBySide xs)
          (stacked ((List.range b.1).map fun k => g.weight c k cc)) 1 0 cc) g
  | .mmulb _ z _ v => do
      let xs ← engOperands c.a (v == 1) ((List.range b.2).map fun k => (o.1 + r, o.2 + k))
      engOn fun s => s.onEng fun g => (List.range b.1).foldl (fun g kk =>
        g.product tag (z.toNat + wide * (r * b.1 + kk)) (sideBySide xs)
          (sideBySide ((List.range b.2).map fun k => g.weight c kk k)) 2 kk 0) g
  | .mrsa _ z _ _ v => results c tag z v o p r
  | .mrsd _ z _ _ v => results c tag z v o p r
  | _ => pure ()
  engCmd fun c => (c.charge 1 (stepCycles c.a.fmt))
where
  results (c : Cmd) (tag : ZTag) (z : BitVec 4) (v : BitVec 1) (o p : Nat × Nat) (r : Nat) : Eng Unit := do
    let bk := xm4BK (c.reg 4)
    let bn := xm4BN (c.reg 4)
    let xs ← engOperands c.a (v == 1) ((List.range bk).map fun k => (o.1 + r, o.2 + k))
    let ys ← engOperands c.b (v == 1) ((List.range bn).map fun k => (p.1 + r, p.2 + k))
    engOn fun s => s.onEng fun g => (List.range bk).foldl (fun g kk => (List.range bn).foldl (fun g cc =>
      g.product tag (z.toNat + kk * bn + cc) (colsOf (xs.getD kk [])) (colsOf (ys.getD cc [])) 3 kk cc) g) g

/-! ### Drains (R168, R169, R237 to R241) -/

/-- The location of an element of a Z tile in the array (R241). -/
def ZTile.loc (t : ZTile) (i j : Nat) : Option Loc :=
  if t.lock = 1 then some (.column (64 * t.bcc + j))
  else if t.lock = 2 then some (.row (64 * t.bkk + j))
  else if t.lock = 3 then some (.pe (64 * t.bkk + i) (64 * t.bcc + j))
  else none

/-- The formats a tag drains to (R168). -/
def ZTag.drainsTo (t : ZTag) (f : Nat) : Bool :=
  match t with
  | .fp32 => [4, 5, 6, 8, 9].contains f
  | .int32 => f == 2 || f == 0
  | .fp64Low => f == 7 || f == 6
  | .fp64High => false

/-- An element as a drain stores it (R168). With `.sat` to FP32 or FP64, for which R38 reserves SAT, the model saturates
(log 19). -/
def drainCode (tag : ZTag) (f m : Nat) (x : Num) : Nat :=
  match tag.fmt with
  | some _ => encodeElem f (if m = 1 then .rtz else .rne) (m == 2) 0 x
  | none =>
      if f = 2 then wrapTo 32 x.int
      else if m = 2 then wrapTo 8 (clamp x.int (-128) 127) else wrapTo 8 x.int

/-- An event of a drain is logged and counted. -/
def engDrainLog (kind z i j : Nat) (loc : Option Loc) : Eng Unit :=
  engOn fun s => (s.count (dieOf s.core.id) kind).logAt { kind := kind, obj := z, i := i, j := j } loc

/-- The drain comparison of Z tile z, with its correction in Z (R237 to R240): whether it corrected or regenerated,
and NF. -/
def engDrainCheck (z tol : Nat) : Eng (Bool × Bool) := do
  let g := (← engS).core.eng
  let t := g.ztile z
  let codes := g.zread t.tag z
  let vec := Sparse.read 0 t.vec 0 256
  let jd := drainJudge (match t.tag with | .int32 => 0 | .fp32 => 1 | _ => 2) t.zk tol
  let xs := t.tag.nums codes
  let r := jd.compare xs vec
  let row (i : Nat) : List Num := (rowsOf xs).getD i []
  let col (j : Nat) : List Num := (colsOf xs).getD j []
  let save (v : List Nat) : Eng Unit := engOn fun s => s.onEng fun g => g.onZtile z fun t => { t with vec := Sparse.write 0 [] 0 v }
  match r.1 with
  | .pass => return (false, r.2)
  | .correct i j d => do
      let x := ((xs.getD (64 * i + j) (.fin false 0 0)).add d).1
      let code := match t.tag.fmt with | some f => (x.rne f).1 | none => wrapTo 32 x.int
      let codes := setAt codes (64 * i + j) code
      if jd.settled (t.tag.nums codes) vec i j then
        engOn fun s => s.onEng fun g => g.zwrite t.tag z codes
        engDrainLog 1 z i j (t.loc i j)
        return (true, r.2)
      else
        engDrainLog 3 z i j (t.loc i j)
        engFault cTile 0 0
  | .regenRow i => do
      save (setAt (setAt vec (64 + i) (jd.sum (row i))) (192 + i) (jd.sum ((row i).map Num.abs)))
      engDrainLog 2 z i 0 none
      return (true, r.2)
  | .regenCol j => do
      save (setAt (setAt vec j (jd.sum (col j))) (128 + j) (jd.sum ((col j).map Num.abs)))
      engDrainLog 2 z 0 j none
      return (true, r.2)
  | .bad i j named => do
      engDrainLog 3 z i j (if named then t.loc i j else none)
      engFault cTile 0 0

/-- A drain (R168, R169); of a Z tile left open it writes free values (R170; log 8). -/
def engDrain (z : Nat) (m : Nat) (clr ring : Bool) : Eng Unit := do
  let c ← engC
  let t := c.a
  let o := originOf (c.reg 2)
  let q := t.stored o.1 o.2
  let tag := ((← engS).core.eng.ztile z).tag
  let wild := c.wild.contains z
  if !wild && !tag.drainsTo t.fmt then engFault cOpfmt 0 0
  if ring then
    if t.pool then engFault cProt 0 0
    else (pagePieces (t.tile q.1 q.2) t.size).forM fun p => do
      let x ← engPa p.1 .tileWrite
      if leafClass x.2 ≠ 2 then engFault cProt 0 p.1
  if wild then
    let r := (← engS).draws 4097
    let v := r.2.drawBytes (fmtVec t.fmt)
    engOn fun _ => v.2
    let head : Header := { total := r.1.getD 4096 0, row := o.1, col := o.2, fmt := t.fmt, corr := false, nf := false, nadd := 1, gen := 0 }
    engTileStore t q.1 q.2 ((r.1.take 4096).map (· % 2 ^ fmtBits t.fmt)) [] (if t.chk then v.1 ++ head.bytes else [])
  else
    let k ← engDrainCheck z t.tol
    let codes := t.view (((tag.nums ((← engS).core.eng.zread tag z))).map (drainCode tag t.fmt m))
    let head : Header := { total := 0, row := o.1, col := o.2, fmt := t.fmt, corr := k.1, nf := k.2, nadd := 1, gen := 0 }
    engTileStore t q.1 q.2 codes [] (if t.chk then regenerated t.fmt (t.nums codes []) head else [])
  if clr then engOn fun s => s.onEng fun g => if tag = .fp64Low then (g.zzero z).zzero (z + 1) else g.zzero z

/-! ### FGEMV (R173) -/

/-- FP32 elements of memory. -/
def engVector (a n : Nat) : Eng (List Nat) := do
  let b ← engRead false a (4 * n)
  return (chunks 4 n b).map leNat

/-- FGEMV's effect: every stack's checks come before any y is written. -/
def engFgemv (acc : Bool) : Eng Unit := do
  let c ← engC
  let m := c.a
  let rows := List.range m.rows
  let cols := List.range m.cols
  let stackOf (a : Nat) : Eng Nat := do let x ← engPa a .gather; return x.1 / 2 ^ 36
  rows.forM fun i => do
    let st ← cols.mapM fun j => do
      let a ← stackOf (m.tile i j)
      let b ← stackOf (m.tile i j + m.size - 1)
      return (a, b)
    let first := (st.headD (0, 0)).1
    if st.any fun p => p.1 != first || p.2 != first then engFault cProt 0 (m.tile i 0)
  let x ← engVector c.b.base (64 * m.cols)
  let y ← if acc then engVector c.y.base (64 * m.rows) else pure (List.replicate (64 * m.rows) 0)
  let xs := x.map fp32.decode
  let out ← rows.mapM fun i => do
    let ts ← cols.mapM fun j => do
      let r ← engTile m i j true
      let r ← if m.chk then (do let v ← engVerify m r 2; return v.raw) else pure r
      return m.nums r.codes r.scales
    return ((sideBySide ts).zip ((y.drop (64 * i)).take 64)).map fun p => mac fp32 p.2 p.1 xs
  engWrite false c.y.base (out.flatten.flatMap (leBytes 4)) .write

end Sys2Proof.Machine
end

