-- ==== Sys2Proof/Machine/EngineEv.lean ====
section
/-! DEFINITION. Events of the engines: starts, steps, tokens, the array lease, repair (R54, R149 to R158, R171, R186,
R241, R242). -/

namespace Sys2Proof.Machine

/-! ### Running a command -/

/-- Put back the k-th command of a queue. -/
def Engines.setCmd (g : Engines) (q k : Nat) (c : Cmd) : Engines := g.onQueue q fun l => setAt l k c

/-- The k-th command of a queue, else `d`. -/
def Engines.cmdAt (g : Engines) (q k : Nat) (d : Cmd) : Cmd := (g.queue q).getD k d

/-- A result-stationary product. -/
def Cmd.inPlace (c : Cmd) : Bool := match c.instr with | .mrsa .. => true | .mrsd .. => true | _ => false

/-- The trap of a translation fault of a command: its token and the bytes done (R230, R373). -/
def cmdTrap (c : Core) (x : Cmd) (f : CmdFault) : TrapInfo :=
  { cause := cXlat, info := fld 1 60 + fld (c.token x.tok).gen 38 + fld x.tok 32 + fld f.reason 28, slot := false,
    addr := f.va, bytes := x.bytes }

/-- A Z tile takes free values (R158, R170; log 8). -/
def State.leaveZ (s : State) (z : Nat) : State :=
  let r := s.draws 4352
  r.2.onEng fun g => { g with z := Sparse.write 0 g.z (4096 * z) ((r.1.take 4096).map (· % 2 ^ 32)) }.onZtile z fun t =>
    { t with vec := Sparse.write 0 [] 0 (r.1.drop 4096) }

/-- Bytes that a copy command both read and wrote take free values (R174; log 8); those of a reduction region stay as
they were written. -/
def State.leaveSpan (s : State) (cls : Nat) (x : Span) : List Nat × State :=
  let r := s.drawBytes x.len
  if x.pool then ([], r.2.poolWrite x.pa r.1)
  else if leafClass x.leaf = 2 then ([], s)
  else
    let p := r.2.perform cls r.2.core.ctx 0 x.va x.pa r.1
    (p.1, p.2.2.cacheReplace x.pa r.1)

/-- What a command that is over leaves open. -/
def State.leaveOpen (s : State) (c : Cmd) : Cmd × State :=
  if c.wild.isEmpty && c.overlap.isEmpty then (c, s)
  else
    let r := c.overlap.foldl (fun q x => let p := State.leaveSpan q.2 c.tc x; (q.1 ++ p.1, p.2)) (c.tags, c.wild.foldl State.leaveZ s)
    ({ c with tags := r.1 }, r.2)

/-- A conversion on copy engine q - 1 has made its last draw: the state that a MOVSR of its own bundle wrote stands
(R36). -/
def State.lastDraw (s : State) (q : Nat) (c : Cmd) : State :=
  match c.crs with
  | none => s
  | some v => s.onVec fun x => if q = 1 then { x with crs0 := v } else { x with crs1 := v }

/-- The Z tiles of a result-stationary product as they were before it held them in its PEs (R166, R172). -/
def Engines.takeBack (g : Engines) (c : Cmd) : Engines :=
  let own := (c.zs g).flatMap fun z => if c.a.fmt = 7 then [z, z + 1] else [z]
  own.foldl (fun g z => { g with
    z := Sparse.write 0 g.z (4096 * z) (Sparse.read 0 c.zsave (4096 * z) 4096)
    zt := Sparse.set {} g.zt z (Sparse.get {} c.ztsave z) }) g

/-- A command that met a fault (R152, R230): a translation fault goes to the monitor, any other one stays with the
token. A result-stationary product writes nothing back. -/
def State.cmdFaulted (s : State) (q k : Nat) (c : Cmd) (f : CmdFault) : State :=
  let s := s.onEng fun g => if c.inPlace && c.started && c.held then g.takeBack c else g
  let r := s.leaveOpen c
  let s := (r.2.lastDraw q c).onEng fun g =>
    g.setCmd q k { r.1 with started := true, finished := true, fault := some f, zsave := [], ztsave := [], crs := none }
  if f.cause = cXlat then s.raiseLate (cmdTrap s.core c f) else s

/-- Run a part of command k of queue q; `after` says how the command stands when it went well. Where it lacks bytes of
another package it asks for them and all of it is taken back, but for the translations that its walker has found (R190, R217;
log 103); none while it waits for them. The bytes done
of a fault are those of the steps before (R230). -/
def State.runCmd (s : State) (q k : Nat) (c : Cmd) (m : Eng Unit) (after : Cmd → Cmd) : Option State :=
  let who := Reader.command s.core.id c.tok
  let closed (x : State) : State := ({ x with fab := { x.fab with reader := s.fab.reader } }).forget who
  let waits (d : Cmd) (t : State) : State := t.onEng fun g => g.setCmd q k { s.core.eng.cmdAt q k c with
    pages := d.pages ++ c.pages.filter fun x => !d.pages.contains x }
  match m.run ({ c with prev := c.pages, pages := [] }, { s with fab := { s.fab with reader := some who } }) with
  | .ok _ x =>
      (match x.2.fab.wanted with
       | some w => (s.askOnce who w.1 w.2.1 w.2.2).map (waits x.1)
       | none =>
           let s := closed x.2
           let c := after { x.1 with prev := [] }
           let r := if c.finished then (s.lastDraw q c).leaveOpen { c with crs := none } else (c, s)
           some (r.2.onEng fun g => g.setCmd q k r.1))
  | .error f x =>
      (match x.2.fab.wanted with
       | some w => (s.askOnce who w.1 w.2.1 w.2.2).map (waits x.1)
       | none =>
           if isLack f.cause then (s.askOnce who (lackVa f.va) (f.cause - 256) f.reason).map (waits x.1)
           else some ((closed x.2).cmdFaulted q k { x.1 with prev := [], bytes := c.bytes } f))

/-- The command is complete: what it kept for a fault is dropped. -/
def Cmd.finish (c : Cmd) : Cmd := { c with started := true, finished := true, zsave := [], ztsave := [], held := false }

/-- Count a step; the command is complete after the last one. -/
def Cmd.stepped (n : Nat) (c : Cmd) : Cmd :=
  let c := { c with step := c.step + 1 }
  if n ≤ c.step then c.finish else c

/-! ### Starts (R149, R157, R171) -/

/-- The first command of a queue that has not started, with its place. -/
def Engines.head (g : Engines) (q : Nat) : Option (Nat × Cmd) :=
  ((g.queue q).zipIdx.find? fun p => !p.1.started).map fun p => (p.2, p.1)

/-- A consumed token is still outstanding (R151). -/
def Core.blocked (c : Core) (x : Cmd) : Bool := x.uses.any fun u => (c.token u.1).gen == u.2 && (c.token u.1).out

/-- FGEMV and the lease commands occupy no unit of the array (R171). -/
def Cmd.onArray (c : Cmd) : Bool :=
  match c.instr with | .fgemv .. => false | .mlease .. => false | .mfree .. => false | _ => true

/-- A command that has started and is not complete. -/
def Cmd.running (c : Cmd) : Bool := c.started && !c.finished

/-- A command whose token may retire: it is complete, and its writes to other packages are acknowledged (R153). -/
def Cmd.done (c : Cmd) : Bool := c.finished && c.tags.isEmpty

/-- Another core of the cluster waits for the lease. -/
def State.rival (s : State) : Bool :=
  s.cores.any fun c => c.id != s.core.id && clusterOf c.id == clusterOf s.core.id && c.eng.asked

/-- The lease is given up: the weight buffers are no longer the core's own (R158). -/
def State.releaseLease (s : State) : State :=
  (s.unlease).onEng fun g => { g with wbuf := g.wbuf.map fun b => { b with own := false } }

/-- The run count after one more start: it restarts where the cap is reached and no core waits (R157). -/
def State.countRun (s : State) : State :=
  let r := s.rival
  s.onEng fun g => { g with run := if g.cap ≤ g.run + 1 && !r then 0 else g.run + 1 }

/-- The array takes the next command of the current core: the lease is held and its run not over, no repair waits
(R157, R242). -/
def State.arrayReady (s : State) : Bool :=
  let k := s.cluster (clusterOf s.core.id)
  k.holder == some s.core.id && k.repair.isNone && !(decide (s.core.eng.cap ≤ s.core.eng.run) && s.rival)

/-- A command that ends with a fault before it has done anything. -/
def State.startFaulted (s : State) (q k : Nat) (c : Cmd) (f : CmdFault) : State :=
  (s.lastDraw q c).onEng fun g => g.setCmd q k { c with started := true, finished := true, fault := some f, crs := none }

/-- Start M command k. On a FAILED array it faults UE_CORE (R242). An MFREE waits until every earlier M command has completed,
its writes to other packages included (R157). An MLEASE that starts while the core is REQUESTED replaces the priority and the cap
of the pending request: R157 does not say which XM1 counts, and the model chooses the later (log 115). -/
def State.startM (s : State) (k : Nat) (c : Cmd) : Option State :=
  let held := (s.cluster (clusterOf s.core.id)).holder == some s.core.id
  let st := { c with started := true }
  if (s.cluster (clusterOf s.core.id)).failed then some (s.startFaulted 0 k c ⟨cUe, 0, 0⟩)
  else match c.instr with
  | .mlease _ =>
      if held then some (s.onEng fun g => g.setCmd 0 k c.finish)
      else
        let x := (c.reg 1).toNat
        some (s.onEng fun g => { g.setCmd 0 k st with
          asked := true, prio := bits x 8 2, cap := if bits x 0 7 = 0 then 16 else bits x 0 7 })
  | .mfree _ =>
      if (s.core.eng.qm.take k).any fun x => !x.done then none
      else some ((if held then s.releaseLease else s).onEng fun g => { g.setCmd 0 k c.finish with asked := false })
  | .fgemv _ _ _ acc => s.runCmd 0 k st (engFgemv (acc == 1)) Cmd.finish
  | _ =>
      if !s.arrayReady then none
      else if c.product && s.core.eng.qm.any (fun x => x.product && x.running) then none
      else
        let run (m : Eng Unit) (after : Cmd → Cmd) : Option State :=
          s.runCmd 0 k st (do
            engOn fun s => (s.onEng fun g => g.setCmd 0 k st).countRun
            m) after
        match c.instr with
        | .mldw .. => run (engLoad st) Cmd.finish
        | .mdrn _ z _ m r => run (engDrain z.toNat m.toNat (r == 1) false) Cmd.finish
        | .mdrnr _ z _ m r => run (engDrain z.toNat m.toNat (r == 1) true) Cmd.finish
        | .mzero _ z => run (engOn fun s => s.onEng fun g => g.zzero z.toNat) Cmd.finish
        | _ => run engStartProduct fun c => if c.steps ≤ c.step then c.finish else c

/-- Accesses that wait on a bank of the scratchpad may take longer while a copy engine uses the pool (R145; log 10). -/
def State.jammed (s : State) : State := s.onCore fun c =>
  { c with waiting := c.waiting.map fun w => if w.banks.any fun b => decide (b < c.st.b2) then { w with latest := none } else w }

/-- Start copy command k of engine e; an engine runs up to four started commands (R149). One whose steps are done and whose
writes another package has still to acknowledge is not counted among them, which R149 leaves open (log 115). -/
def State.startC (s : State) (e k : Nat) (c : Cmd) : Option State :=
  let q := e + 1
  if 4 ≤ ((s.core.eng.queue q).filter Cmd.running).length then none
  else
    let st := { c with started := true }
    let m : Eng Unit := do
      engCopyStart
      let n ← engCopySteps
      let c ← engC
      if n ≤ c.step then engCmd Cmd.finish
    (s.runCmd q k st m fun c => c).map State.jammed

/-- A command waits for the stores of its core that stood before it and that other packages have still to perform (R201;
log 114). -/
def Core.follows (c : Core) (x : Cmd) : Bool := x.after.any fun t => c.loc.remote.contains t || c.loc.remoteNt.contains t

/-- Start the first waiting command of a queue of the current core, where it may start. -/
def State.startHead (s : State) (q : Nat) : Option State :=
  match s.core.eng.head q with
  | none => none
  | some (k, c) =>
      if s.core.blocked c || s.core.follows c then none
      else match c.fault with
        | some f => some (s.startFaulted q k c f)
        | none => if q = 0 then s.startM k c else s.startC (q - 1) k c

/-- COMMAND_START (R149). -/
def execCommandStart (c q : Nat) (s : State) : Host.Outcome State Fault Refusal :=
  happens (s.asCore c fun s => (s.startHead q).getD s)

/-! ### Steps (R171, R186) -/

/-- The product that runs on the array for the current core. -/
def Engines.activeProduct (g : Engines) : Option (Nat × Cmd) :=
  (g.qm.zipIdx.find? fun p => p.1.product && p.1.running).map fun p => (p.2, p.1)

/-- A product that uses a weight block. -/
def Cmd.weighted (c : Cmd) : Bool := match c.instr with | .mmul .. => true | .mmulb .. => true | _ => false

/-- One step of the running product, for a core that holds the lease; a product that was stopped by a pre-emption loads
its weight block first (R172). -/
def State.productStep (s : State) : Option State :=
  match s.core.eng.activeProduct with
  | none => none
  | some (k, c) =>
      if (s.cluster (clusterOf s.core.id)).holder ≠ some s.core.id then none
      else
        let m : Eng Unit := do
          if c.weighted then engWeights
          engProductStep
        s.runCmd 0 k c m (Cmd.stepped c.steps)

/-- PRODUCT_STEP (R171). -/
def execProductStep (c : Nat) (s : State) : Host.Outcome State Fault Refusal :=
  happens (s.asCore c fun s => s.productStep.getD s)

/-- The k-th copy command of engine e may take its next step: it runs, and under RSTO no older conversion of the
engine is still drawing (R36). -/
def Engines.mayStep (g : Engines) (e k : Nat) : Option Cmd :=
  match (g.queue (e + 1))[k]? with
  | some c =>
      if c.running && !(c.draws && ((g.queue (e + 1)).take k).any fun x => x.draws && !x.finished) then some c else none
  | none => none

/-- One step of a copy command. -/
def State.copyStep (s : State) (e k : Nat) : Option State :=
  match s.core.eng.mayStep e k with
  | none => none
  | some c =>
      let m : Eng Unit := do
        engCopyStepOf e
        engCmd fun c => { c with step := c.step + 1 }
        let n ← engCopySteps
        let c ← engC
        if n ≤ c.step then engCmd Cmd.finish
      (s.runCmd (e + 1) k c m fun c => c).map State.jammed

/-- COPY_STEP_BOUNDARY (R186). -/
def execCopyStepBoundary (c q k : Nat) (s : State) : Host.Outcome State Fault Refusal :=
  happens (s.asCore c fun s => (s.copyStep q k).getD s)

/-! ### Retirement (R54, R152, R153, R185) -/

/-- RF of a copy command (R185); one of length or count 0, or an HGFOLD without a valid level, has no effect but its token
(R174, R259). -/
def Cmd.posts (c : Cmd) : Bool :=
  bit (encode c.instr).toNat 2 && (c.step != 0 || (match c.instr with | .csend .. => true | _ => false))

/-- A token's command is gone from queue q (3 stands for the scatters). -/
def Engines.dropTok (g : Engines) (t : Nat) : Engines :=
  let f (l : List Cmd) : List Cmd := l.filter fun c => c.tok != t
  { g with qm := f g.qm, q0 := f g.q0, q1 := f g.q1, qv := f g.qv }

/-- The cause of a token that retires faulted while its task is ENDING: the monitor, at the EXIT bundle, and the abort
(R319). -/
def State.endingFault (s : State) (t : Nat) (f : CmdFault) : State :=
  let s := s.onCore fun c => c.enterMonitor (tokenFault c t f) 0
  (s.onSeq fun q => { q with moved := false }).push [.taskAbort s.core.id f.cause]

/-- Token t of the current core retires (R54): a landing post, the array record, the token. -/
def State.retireTok (s : State) (t : Nat) : Option State :=
  let g := s.core.eng
  match (g.qm ++ g.q0 ++ g.q1 ++ g.qv).find? fun c => c.tok == t && c.done with
  | none => none
  | some c =>
      let copy := (g.q0 ++ g.q1).any fun x => x.tok == t
      let s := if copy && c.fault.isNone && c.posts then
          s.sendPost (flagPkg (c.reg 1)) (flagCore (c.reg 1)) (flagNo (c.reg 1)) (flagN (c.reg 1)) s.core.ctx
        else s
      let s := if c.product then s.recordArray c c.opz.1 c.opz.2 else s
      let s := s.cacheYields c.wrote
      let s := (s.onEng fun g => g.dropTok t).retire t c.fault
      match s.core.task.bind (fun x => x.ending), c.fault with
      | some _, some f => some (s.endingFault t f)
      | _, _ => some s.tryEnd

/-- TOKEN_RETIRE (R54). -/
def execTokenRetire (c t : Nat) (s : State) : Host.Outcome State Fault Refusal :=
  happens (s.asCore c fun s => (s.retireTok t).getD s)

/-- The first token of the current core that may retire. -/
def Engines.retirable (g : Engines) : Option Nat :=
  ((g.qm ++ g.q0 ++ g.q1 ++ g.qv).find? Cmd.done).map fun c => c.tok

/-! ### The lease (R157, R158) -/

/-- The cores of a cluster. -/
def clusterCores (k : Nat) : List Nat := (List.range 4).map (4 * k + ·)

/-- The holder's run is over and another core waits: the lease passes once every started command but FGEMV has completed, its
writes to other packages included (R157). -/
def State.leasePass (s : State) (k : Nat) : State :=
  match (s.cluster k).holder with
  | none => s
  | some h =>
      let g := (s.coreAt h).eng
      let other := (clusterCores k).any fun c => c != h && (s.coreAt c).eng.asked
      if decide (g.cap ≤ g.run) && other && !(g.qm.any fun c => c.onArray && c.started && !c.done) then
        s.asCore h fun s => s.releaseLease.onEng fun g =>
          { g with asked := true, lease := if g.lease = .none then .none else .requested }
      else s

/-- The requester that the array grants: highest PRIO, then in turn behind the last holder. -/
def State.leaseNext (s : State) (k : Nat) : Option Nat :=
  let last := (s.cluster k).lastHolder
  let turn := [1, 2, 3, 4].map fun n => 4 * k + (last + n) % 4
  ([3, 2, 1, 0] : List Nat).findSome? fun p =>
    turn.find? fun c => (s.coreAt c).eng.asked && (s.coreAt c).eng.prio == p

/-- The grant. -/
def State.leaseGrant (s : State) (k : Nat) : State :=
  let s := s.leasePass k
  if (s.cluster k).holder.isSome then s
  else match s.leaseNext k with
    | none => s
    | some c =>
        let s := s.onCluster k fun x => { x with holder := some c, lastHolder := c % 4 }
        s.asCore c fun s => s.onEng fun g => { g with
          asked := false, run := 0, lease := if g.lease = .none then .none else .held
          qm := mapIf (fun x => x.running && (match x.instr with | .mlease _ => true | _ => false)) Cmd.finish g.qm }

/-- LEASE_GRANT (R158). -/
def execLeaseGrant (cl : Nat) (s : State) : Host.Outcome State Fault Refusal := happens (s.leaseGrant cl)

/-! ### Repair (R241, R242) -/

/-- Take a location out of service: rows have 8 spares, columns 4. A location that is out of service already takes no further
spare and still counts as a repair, KIND 8, where R242 says neither: the model's choice (log 115). -/
def Cluster.retire (x : Cluster) (l : Loc) : Cluster × Bool :=
  let y := { x with repair := none }
  let row (i : Nat) : Cluster × Bool :=
    if y.rows.contains i then (y, true)
    else if y.rows.length < 8 then ({ y with rows := y.rows ++ [i] }, true) else ({ y with failed := true }, false)
  let col (j : Nat) : Cluster × Bool :=
    if y.cols.contains j then (y, true)
    else if y.cols.length < 4 then ({ y with cols := y.cols ++ [j] }, true) else ({ y with failed := true }, false)
  match l with
  | .row i => row i
  | .column j => col j
  | .pe i j => if y.rows.length < 8 || y.rows.contains i then row i else col j

/-- The repair of a cluster, once its array has no started command. -/
def State.arrayRepair (s : State) (k : Nat) : State :=
  match (s.cluster k).repair with
  | none => s
  | some l =>
      if (clusterCores k).any fun c => (s.coreAt c).eng.qm.any fun x => x.onArray && x.running then s
      else
        let r := (s.cluster k).retire l
        let s := s.onCluster k fun _ => r.1
        let s := if r.2 then s else s.removeCores (clusterCores k)
        let e : LogEntry := { kind := if r.2 then 8 else 9, cluster := k }
        let e := match l with
          | .column j => { e with lock := 1, locc := j }
          | .row i => { e with lock := 2, locr := i }
          | .pe i j => { e with lock := 3, locr := i, locc := j }
        s.logWord (k / 8) e.word

/-- ARRAY_REPAIR (R242). -/
def execArrayRepair (cl : Nat) (s : State) : Host.Outcome State Fault Refusal := happens (s.arrayRepair cl)

/-- FAULT_HISTORY_EXPIRY (R241). -/
def execFaultHistoryExpiry (cl : Nat) (s : State) : Host.Outcome State Fault Refusal :=
  let now := (s.die (cl / 8)).dtb
  happens (s.onCluster cl fun x => { x with hist := x.hist.filter fun h => decide (now < h.2 + 2 ^ 36) })

/-- SOFT_ERROR (R246): one bit of memory, or of Z elements of a core (from 65536 on, of the vectors of its Z tiles). -/
def execSoftError (zc : Option Nat) (a : Nat) (bit : Nat) (s : State) : Host.Outcome State Fault Refusal :=
  match zc with
  | none =>
      let b := (Memory.byte s.mem a) ^^^ BitVec.twoPow 8 (bit % 8)
      happens (s.storeMem a [b])
  | some c =>
      happens (s.asCore c fun s => s.onEng fun g =>
        if a < 65536 then { g with z := Sparse.set 0 g.z a ((Sparse.get 0 g.z a) ^^^ 2 ^ (bit % 32)) }
        else g.onZtile ((a - 65536) / 256 % 16) fun t =>
          { t with vec := Sparse.set 0 t.vec (a % 256) ((Sparse.get 0 t.vec (a % 256)) ^^^ 2 ^ (bit % 64)) })

end Sys2Proof.Machine
end

