-- ==== Sys2Proof/Machine/SyncEv.lean ====
section
/-! DEFINITION. Events of translation, of the fold units, of flags, counters and barriers (R208, R210 to R219, R325,
R330 to R337). -/

namespace Sys2Proof.Machine

/-! ### Walks and leases (R210, R216, R219) -/

/-- PAGE_WALK (R210): a walk for core c completes and fills the TLBs; what it finds absent or malformed is never cached,
and the access itself raises the fault (R218). -/
def execPageWalk (c va : Nat) (s : State) : Host.Outcome State Fault Refusal :=
  happens (s.asCore c fun s =>
    if 2 ^ 52 ≤ va then s
    else match s.walkTimed s.core.ctx va with
      | .leaf e level =>
          s.cacheXlation (s.filled (dieOf s.core.id) s.core.ctx va e level) true
      | _ => s)

/-- WALK_TIMEOUT (R219): the oldest walk of core c that lacks an entry is abandoned; the access starts it again, and faults
after the fourth. A walk that lacks none completes at once (log 12). -/
def execWalkTimeout (c : Nat) (s : State) : Host.Outcome State Fault Refusal :=
  happens (match s.fab.asks.find? fun a => a.who.core? == some c && a.va.isSome && a.answer.isNone with
    | some a => (match a.va with | some va => s.abandon a.who va | none => s)
    | none => s)

/-- Every core of a die changed. -/
def State.onDieCores (s : State) (d : Nat) (f : Core → Core) : State :=
  { s with core := if dieOf s.core.id = d then f s.core else s.core
           others := mapIf (fun c => dieOf c.id == d) f s.others }

/-- Every core changed. -/
def State.onCores (s : State) (f : Core → Core) : State := { s with core := f s.core, others := s.others.map f }

/-- LEASE_EXPIRY (R216): what has expired on die d is dropped. -/
def execLeaseExpiry (d : Nat) (s : State) : Host.Outcome State Fault Refusal :=
  let now := (s.die d).dtb
  let keep (l : List Xlation) : List Xlation := l.filter fun x => decide (now < x.exp)
  happens ((s.onDie d fun x => { x with tlb := keep x.tlb }).onDieCores d fun c =>
    { c with loc := { c.loc with tlb := keep c.loc.tlb, victims := keep c.loc.victims } })

/-! ### Fold units (R208, R336) -/

/-- FOLD_ATOMIC_APPLY (R208). -/
def execFoldAtomicApply (pa op : Nat) (x y : Word) (s : State) : Host.Outcome State Fault Refusal :=
  happens (s.atomicAt pa op x y).2

/-- CINC_APPLY (R336). -/
def execCincApply (pa n : Nat) (s : State) : Host.Outcome State Fault Refusal := happens (s.countUp pa n)

/-- The requester of a CWAIT that another package sent: 256 + 64 · tag + package (log 24). -/
def remoteWaiter (tag src : Nat) : Nat := 256 + 64 * tag + src

/-- Grant the oldest request at a counter where it covers its n. -/
def State.grant (s : State) (pa : Nat) : State :=
  match s.fab.oldest pa with
  | none => s
  | some (_, n, who) =>
      let v := leNat (s.homeBytes pa 8)
      if v < n then s
      else
        let s := s.storeMem (s.key pa) (leBytes 8 (v - n))
        let s := { s with fab := s.fab.dropWait who }
        if who < 256 then s.asCore who fun s => s.onSy fun y => { y with granted := true }
        else s.send ((who - 256) % 64) (.atomicResponse ((who - 256) / 64) 0 0)

/-- CWAIT_GRANT (R336). -/
def execCwaitGrant (pa : Nat) (s : State) : Host.Outcome State Fault Refusal := happens (s.grant pa)

/-- A counter whose oldest request is covered. -/
def State.grantable (s : State) : Option Nat :=
  (s.fab.cwaits.find? fun w =>
    (match s.fab.oldest w.1 with | some o => o.2.2 == w.2.2 | none => false) &&
      decide (w.2.1 ≤ leNat (s.homeBytes w.1 8))).map fun w => w.1

/-- The status of an atomic by which a CWAIT of another package learns that its region is FAILED; the old value is CAUSE, FREASON
from bit 8 on, and the region from bit 16 on (log 24). -/
def statusFailed : Nat := 4

/-- A CWAIT of another package on a counter of a FAILED region is told so (R358). -/
def State.refuseNext (s : State) : Option State :=
  s.fab.cregions.findSome? fun w => match s.failedIn w.2.2 w.2.1 with
    | .ok (some d) => some (({ s with fab := s.fab.dropWait w.1 }).send ((w.1 - 256) % 64)
        (.atomicResponse ((w.1 - 256) / 64) statusFailed (w64 (fld d.id 16 + fld d.freason 8 + d.cause))))
    | _ => none

/-- FLAG_POST (R325). -/
def execFlagPost (c f n ctx : Nat) (s : State) : Host.Outcome State Fault Refusal := happens (s.postFlag c f n ctx)

/-! ### Barriers (R330 to R334) -/

/-- The key under which the packages of a domain know a kernel: its number at home and its home. -/
def Kernel.key (k : Kernel) (pkg : Nat) : Nat := if k.home = pkg then 2 ^ 32 * pkg + k.id else k.id - 2 ^ 40
/-- The number here of a kernel that package `src` launched under number k. -/
def partId (src k : Nat) : Nat := 2 ^ 40 + 2 ^ 32 * src + k

/-- The packages that a kernel spans (R307). -/
def State.kernelPkgs (s : State) (k : Kernel) : List Nat :=
  match k.levels[0]?, k.levels[1]? with
  | some x, some y => if x.dom = 4 then s.fab.domain.take y.count else [s.fab.pkg]
  | _, _ => [s.fab.pkg]

/-- The participants of barrier b on this package that task i belongs to: linear indices. -/
def Kernel.participants (k : Kernel) (b i : Nat) : Nat × Nat :=
  let n := k.groupSize (b / 16)
  if k.domainBarrier b then (k.first, k.count) else (i / n * n, n)

/-- Every participant on this package has arrived at barrier b or has ended (R330, R331). -/
def State.allArrived (s : State) (k : Kernel) (b i : Nat) : Bool :=
  let p := k.participants b i
  let inside (j : Nat) : Bool := decide (p.1 ≤ j ∧ j < p.1 + p.2)
  let here := s.cores.filter fun c => match c.task with
    | some t => t.kern == k.id && inside t.idx && c.sy.arr.contains b
    | none => false
  let gone := k.ended.filter inside
  decide (here.length + gone.length = p.2) && !here.isEmpty

/-- A member's share of a completed phase (R327, R330). -/
def Core.phaseDone (c : Core) (b : Nat) : Core :=
  let ring := b % 16 == 15 && c.sy.bars.contains b && !c.waitsAt b
  { c with
    sy := { c.sy with
      arr := dropNat b c.sy.arr
      bars := dropNat b c.sy.bars
      ph := Sparse.set 0 c.sy.ph b ((Sparse.get 0 c.sy.ph b + 1) % 2 ^ 32) }
    tr := if ring then c.tr.interrupt (0x80 + b) else c.tr }

/-- The phase of barrier b at a core. -/
def Core.phase (c : Core) (b : Nat) : Nat := Sparse.get 0 c.sy.ph b

/-- This package's part of a domain barrier's phase has arrived, and the others are told (R332). -/
def State.partArrived (s : State) (k : Kernel) (b phase : Nat) : State :=
  let e := (k.key s.fab.pkg, b, phase, s.fab.pkg)
  if s.fab.barriers.contains e then s
  else
    let s := { s with fab := { s.fab with barriers := s.fab.barriers ++ [e] } }
    (s.kernelPkgs k).foldl (fun s p => if p = s.fab.pkg then s else s.send p (.barrierCombine e.1 b phase s.fab.pkg)) s

/-- Every package's part has arrived. -/
def State.partsArrived (s : State) (k : Kernel) (b phase : Nat) : Bool :=
  (s.kernelPkgs k).all fun p => s.fab.barriers.contains (k.key s.fab.pkg, b, phase, p)

/-- The phase of barrier b completes at every participant here. -/
def State.phaseComplete (s : State) (k : Kernel) (b i phase : Nat) : State :=
  let p := k.participants b i
  let s := s.onCores fun c => match c.task with
    | some t => if t.kern = k.id ∧ p.1 ≤ t.idx ∧ t.idx < p.1 + p.2 ∧ c.sy.arr.contains b then c.phaseDone b else c
    | none => c
  { s with fab := { s.fab with
    barriers := s.fab.barriers.filter fun e => !(e.1 == k.key s.fab.pkg && e.2.1 == b && e.2.2.1 == phase) } }

/-- The phase of the barrier in which core c's task stands completes, where every participant has arrived (R330). -/
def State.barrierDone (s : State) (c b : Nat) : Option State :=
  let x := s.coreAt c
  match x.task with
  | none => none
  | some t =>
      match s.kernel t.kern with
      | none => none
      | some k =>
          let ph := x.phase b
          if !x.sy.arr.contains b || !s.allArrived k b t.idx then none
          else if k.domainBarrier b then
            let told := s.fab.barriers.contains (k.key s.fab.pkg, b, ph, s.fab.pkg)
            let s := s.partArrived k b ph
            if s.partsArrived k b ph then some (s.phaseComplete k b t.idx ph) else if told then none else some s
          else some (s.phaseComplete k b t.idx ph)

/-- BARRIER_PHASE_COMPLETE (R330). -/
def execBarrierPhaseComplete (c b : Nat) (s : State) : Host.Outcome State Fault Refusal :=
  happens ((s.barrierDone c b).getD s)

/-- BARRIER_COMBINE (R332): package pkg's part of a phase has arrived. -/
def execBarrierCombine (kern b phase pkg : Nat) (s : State) : Host.Outcome State Fault Refusal :=
  let e := (kern, b, phase, pkg)
  happens (if s.fab.barriers.contains e then s
    else { s with fab := { s.fab with barriers := s.fab.barriers ++ [e] } })

/-- Every task that a kernel has here has ended, or the kernel is over. -/
def State.partOver (s : State) (key : Nat) : Bool :=
  s.fab.gone.contains key ||
    s.fe.kernels.any fun k => k.key s.fab.pkg == key && k.domainBarrier 0 && k.ended.length == k.count

/-- A part whose tasks have all ended counts as arrived in every later phase: another package that arrives at one is told so,
unless this part's own arrival was sent (R331). -/
def State.answerNext (s : State) : Option State :=
  (s.fab.barriers.find? fun e => e.2.2.2 != s.fab.pkg && s.partOver e.1).map fun e =>
    let own : Bool := s.fab.barriers.contains (e.1, e.2.1, e.2.2.1, s.fab.pkg)
    let t := { s with fab := { s.fab with barriers := s.fab.barriers.filter (· != e) } }
    if own then t else t.send e.2.2.2 (.barrierCombine e.1 e.2.1 e.2.2.1 s.fab.pkg)

/-- A barrier of some core whose phase can complete, or a part that is over and is to be counted. -/
def State.barrierNext (s : State) : Option State :=
  match s.cores.findSome? fun c => c.sy.arr.findSome? fun b => s.barrierDone c.id b with
  | some t => some t
  | none => s.answerNext

end Sys2Proof.Machine
end

