-- ==== Sys2Proof/Machine/TaskEv.lean ====
section
/-! DEFINITION. Events of tasks: pre-emption, placement (resumption and dispatch), priority, abort (R205, R231, R271, R296, R309 to R318). -/

namespace Sys2Proof.Machine

/-! ### Pre-emption (R172, R186, R205, R261, R312 to R315) -/

/-- Step 2 of R312, the cancel of R337, and what the release of R205 writes back: results that need no answer of
another package land, the spill engine ends its move, commands that are complete retire. -/
def State.drained (s : State) : State :=
  let s := s.cancelWait.onCore fun c =>
    let known := c.waiting.filter fun w => w.holes.isEmpty
    let rest := { c with waiting := c.waiting.filter fun w => !w.holes.isEmpty }
    (known.foldl (fun (c : Core) (w : Waiting) => w.dst.foldl Core.land c) rest).spilled
  let g := s.core.eng
  let s := (((g.qm ++ g.q0 ++ g.q1 ++ g.qv).filter Cmd.done).map Cmd.tok).foldl (fun s t => (s.retireTok t).getD s) s
  s.writeBackAll

/-- Nothing is left that another package has still to answer. -/
def Core.quiet (c : Core) : Bool :=
  c.waiting.isEmpty && c.loc.remote.isEmpty && c.loc.remoteNt.isEmpty && c.eng.qv.isEmpty &&
    (c.eng.qm ++ c.eng.q0 ++ c.eng.q1).all fun x => x.tags.isEmpty

/-- A started product fills again (R172, R379). -/
def Cmd.refill (c : Cmd) : Cmd :=
  if c.product && c.running then { c with cycles := c.cycles.set 0 (satAdd (c.cycles.getD 0 0) 288 (2 ^ 32 - 1)) } else c

/-- The core as it is saved (R313, R314): landings and occupancy as offsets from the last bundle that issued; a
result-stationary product has written its PE contents back to its Z tiles (R172); the lease will be asked for again where it was
held, and where an MFREE waits for commands that still need it (R157); the weight buffers are gone, and handles lose their
translations. -/
def Core.saved (c : Core) : Core :=
  let f := c.frame
  let kept := c.flight.filter fun x => !x.dst.captured
  let d := kept.foldl (fun d x => d.land x.dst) c
  let earlier := c.eng.qm.takeWhile fun x => x.started || (match x.instr with | .mlease _ => false | _ => true)
  let asked := c.eng.asked || c.eng.lease == .held || earlier.any fun x => x.onArray && !x.finished
  let bank (a : Nat) : Bool := decide (a < 32768 * c.st.b2 ∨ 32768 * c.st.b3 ≤ a)
  { d with
    flight := f.writes
    vec := (d.vec.onEngine 0 fun e => { e with busy := f.busy0 }).onEngine 1 fun e => { e with busy := f.busy1 }
    seq := { d.seq with wadd := none, last := .issued }
    st := { d.st with h := d.st.h.map fun p => (p.1, { p.2 with tr := none }) }
    eng := { d.eng with
      lease := if d.eng.lease = .none then .none else .requested
      asked := asked
      wbuf := []
      qm := d.eng.qm.map fun x =>
        let x := x.refill
        if x.held then { x with zsave := d.eng.z, ztsave := d.eng.zt } else x }
    loc := { pool := d.loc.pool.filter fun p => bank p.1, monCtx := d.loc.monCtx, mon := [] }
    tr := { d.tr with pre := false } }

/-- Steps 3 to 6 of R312: the task is saved and the core is free; the core keeps a catch for the task (R325). -/
def State.saveTask (s : State) (t : Task) : State :=
  let key := s.fe.nextSaved
  let v : Saved := { key := key, core := s.core.saved, sinceDtb := s.dtb }
  let s := { s with fe := { s.fe with saved := s.fe.saved ++ [v], nextSaved := key + 1 } }
  let s := (s.onLoc fun l => { l with lines := [] }).vacate.gangTag t
  s.onCore fun c => { c with
    tr := {}, sy := { caught := some key }
    dbg := c.dbg.own }

/-- The task on the current core is pre-empted, or the core waits for what has still to come back. -/
def State.preempt (s : State) : State :=
  match s.core.task with
  | none => s.onTr fun x => { x with pre := false }
  | some t =>
      if !s.core.atBoundary || t.ending.isSome || !s.saveFree then s
      else
        let s := (s.onCore Core.rejoin).drained
        if s.core.quiet then s.saveTask t else (s.onTr fun x => { x with pre := true }).ended (.held .release)

/-- PREEMPTION (R312): only for a trigger of R311, and behind what R366 takes before it. -/
def execPreemption (c : Nat) (s : State) : Host.Outcome State Fault Refusal :=
  happens (s.asCore c fun s => if s.core.tr.pre && s.firstUp 4 then s.preempt else s)

/-! ### Resumption (R205, R309, R310, R313, R314, R325) -/

/-- The index of a saved task. -/
def Saved.idx (v : Saved) : Nat := match v.core.task with | some t => t.idx | none => 0

/-- Saved tasks by rising index. -/
def bySaved (l : List Saved) : List Saved :=
  l.foldl (fun acc v => acc.filter (fun w => decide (w.idx < v.idx)) ++ [v] ++ acc.filter fun w => decide (v.idx < w.idx)) []

/-- The saved tasks of a kernel that resume together, each by itself or its gang as a whole once no member of it runs. -/
def State.resumable (s : State) (k : Kernel) : List (List Saved) :=
  (bySaved (s.savedOf k.id)).filterMap fun v =>
    match v.core.task.bind Task.gang with
    | none => some [v]
    | some g =>
        let vs := bySaved ((s.savedOf k.id).filter fun w => w.core.task.bind Task.gang == some g)
        if ((s.running k.id).any fun p => p.2.gang == some g) || vs.head? != some v then none else some vs

/-- Where saved tasks resume: each on its old core, where that holds its catch and is eligible (R325), the others of a gang in
the same instance; where that instance does not take them, as at dispatch (log 72). -/
def State.resumePlaces (s : State) (k : Kernel) (vs : List Saved) : Option (List (Nat × Nat)) :=
  let keeps (v : Saved) : Bool := (s.coreAt v.core.id).sy.caught == some v.key && s.eligible k v.idx v.core.id
  match (vs.filter keeps).map fun v => (v.idx, v.core.id) with
  | [] => s.places k (vs.map Saved.idx)
  | p :: ps =>
      match s.placeIn k (p.2 / k.span * k.span) k.span ((vs.filter fun v => !keeps v).map Saved.idx) (p :: ps) with
      | some l => some l
      | none => s.places k (vs.map Saved.idx)

/-- A saved task as it stands on core c (R313, R314): what was captured stands with its offsets until the first cycle in which
issue may resume. -/
def State.restored (s : State) (v : Saved) (c : Nat) : Core :=
  let old := s.coreAt c
  let d := v.core
  let now := old.seq.cyc
  let ctx := d.ctx
  { d with
    id := c
    task := d.task.map fun t =>
      { t with placed := (s.die (dieOf c)).dtb, born := (now : Int) - ((d.seq.cyc : Int) - t.born) }
    seq := { d.seq with cyc := now, lastCyc := now - 1, resumed := true }
    loc := { d.loc with
      poolCtx := ctx
      imem := old.loc.imem
      imemKern := match d.task with | some t => t.kern | none => 0
      mon := if old.loc.monCtx = ctx then old.loc.mon else s.monitorImage ctx
      monCtx := ctx
      tlb := old.loc.tlb }
    dbg := { d.dbg with
      trbase := old.dbg.trbase, tlog := old.dbg.tlog, trdrop := old.dbg.trdrop, head := old.dbg.head
      sel := old.dbg.sel, dix := old.dbg.dix
      asked := (now : Int) - ((d.seq.cyc : Int) - d.dbg.asked)
      sampled := 0 } }

/-- Restore one task. -/
def State.restore (s : State) (k : Kernel) (vs : List Saved) (p : Nat × Nat) : State :=
  match vs.find? fun v => v.idx == p.1 with
  | none => s
  | some v =>
      let s := (s.putCore (s.restored v p.2)).onKernel k.id fun k => k.bindTo s.fab.pkg p.1 p.2
      let s := { s with fe := { s.fe with saved := s.fe.saved.filter fun w => w.key != v.key } }
      s.onCores fun c => if c.sy.caught = some v.key then { c with sy := { c.sy with caught := none } } else c

/-! ### What the front end places next (R287, R296, R310, R321) -/

/-- A placement: saved tasks resume, or the next tasks of a kernel are dispatched, each on its core. -/
inductive Placing where
  | resumption (k : Kernel) (vs : List Saved) (ps : List (Nat × Nat))
  | dispatch (k : Kernel) (ps : List (Nat × Nat))

/-- Saved tasks and where they resume, where cores and route tags suffice. -/
def State.resumption (s : State) (k : Kernel) (vs : List Saved) : Option Placing :=
  match s.resumePlaces k vs with
  | some ps => if s.tagsFor k ps then some (.resumption k vs ps) else none
  | none => none

/-- What a kernel places next: saved tasks before any that is not dispatched yet (R310). -/
def State.placing (s : State) (k : Kernel) : Option Placing :=
  match (s.resumable k).findSome? (s.resumption k) with
  | some x => some x
  | none => if s.dispatching k then (s.placement k (k.nextTasks.map Prod.fst)).map (.dispatch k) else none

/-- What is placed next: by priority and turn of the kernels' slots. -/
def State.nextPlacing (s : State) : Option Placing := s.kernelOrder.findSome? s.placing

/-- Place it. -/
def State.place (s : State) : Placing → State
  | .resumption k vs ps =>
      let t := ps.foldl (fun s p => s.restore k vs p) (s.takeTags k ps)
      { t with fe := { t.fe with waits := Sparse.set 0 t.fe.waits k.slot 0 } }
  | .dispatch k ps => s.dispatchAt k ps

/-- The kernel that dispatches next, and where, where a dispatch is what comes next. -/
def State.nextDispatch (s : State) : Option (Kernel × List (Nat × Nat)) :=
  match s.nextPlacing with
  | some (.dispatch k ps) => some (k, ps)
  | _ => none

/-- TASK_DISPATCH (R296). -/
def execTaskDispatch (s : State) : Host.Outcome State Fault Refusal :=
  happens (match s.nextDispatch with | some x => s.dispatchAt x.1 x.2 | none => s)

/-- A kernel of a slot of higher PRIO can place or resume tasks (R310). -/
def State.outranked (s : State) (k : Kernel) : Bool :=
  s.fe.kernels.any fun x => decide ((s.slot k.slot).prio < (s.slot x.slot).prio) && (s.placing x).isSome

/-- How a saved task resumes, with its gang, where slot priority allows it. -/
def State.resumptionOf (s : State) (key : Nat) : Option Placing :=
  ((s.fe.saved.find? fun v => v.key == key).bind fun v => v.core.task.bind fun t => s.kernel t.kern).bind fun k =>
    if s.outranked k then none
    else ((s.resumable k).find? fun vs => vs.any fun v => v.key == key).bind (s.resumption k)

/-- RESUMPTION (R313). -/
def execResumption (k : Nat) (s : State) : Host.Outcome State Fault Refusal :=
  happens (match s.resumptionOf k with | some x => s.place x | none => s)

/-! ### Priority (R311) -/

/-- What R311 waits for before a priority pre-emption, and how long a task must have run: 100 µs of DTB. -/
def agingNs : Nat := 100000

/-- Slot p has a task that is next to be placed or resumed, and no core takes it. -/
def State.starved (s : State) (p : Nat) : Bool :=
  s.fe.kernels.any fun k => k.slot == p &&
    (match s.resumable k with
     | [] => s.dispatching k && !k.nextTasks.isEmpty && (s.places k (k.nextTasks.map Prod.fst)).isNone
     | l => l.all fun vs => (s.resumePlaces k vs).isNone)

/-- The tasks that slot p may displace: running ones of slots of lower PRIO, with the DTB at which each was placed or
resumed; the longest-running member decides a gang's age. -/
def State.displaceable (s : State) (p : Nat) : List (Nat × Nat) :=
  s.cores.filterMap fun c => match c.task with
    | some t =>
        (match s.kernel t.kern with
         | some k =>
             if (s.slot k.slot).prio < (s.slot p).prio ∧ t.ending = none ∧ t.placed + agingNs ≤ s.dtb ∧ !c.tr.pre then
               some (t.placed, c.id)
             else none
         | none => none)
    | none => none

/-- The one that was placed or resumed longest ago. -/
def eldest (l : List (Nat × Nat)) : Option (Nat × Nat) :=
  l.foldl (fun o x => match o with | some y => if x.1 < y.1 then some x else o | none => some x) none

/-- A waiting slot: since when its task waits is remembered, and after 100 µs a task of lower priority is displaced, one
per 100 µs. -/
def State.priorityPreempt (s : State) (p : Nat) : State :=
  let since := Sparse.get 0 s.fe.waits p
  if !s.starved p then { s with fe := { s.fe with waits := Sparse.set 0 s.fe.waits p 0 } }
  else if since = 0 then { s with fe := { s.fe with waits := Sparse.set 0 s.fe.waits p (s.dtb + 1) } }
  else if s.dtb + 1 < since + agingNs ∨ !s.saveFree then s
  else match eldest (s.displaceable p) with
    | none => s
    | some x =>
        let s := { s with fe := { s.fe with waits := Sparse.set 0 s.fe.waits p (s.dtb + 1) } }
        { s.askPreemption x.2 with fe := { s.fe with lastPre := Sparse.set 0 s.fe.lastPre p s.dtb } }

/-- PRIORITY_PREEMPTION (R311). -/
def execPriorityPreemption (p : Nat) (s : State) : Host.Outcome State Fault Refusal := happens (s.priorityPreempt p)

/-! ### Abort (R231, R316 to R318) -/

/-- TASK_ABORT (R316): the REASON and the address of a translation fault stand in MINFO and MADDR; SRC 4 says that the cause is a
region's (R358). -/
def execTaskAbort (c cause : Nat) (s : State) : Host.Outcome State Fault Refusal :=
  happens (s.asCore c fun s =>
    let m := s.core.tr.minfo.toNat
    s.abortTask cause (bits m 28 4 + if bits m 60 4 = 4 then 16 else 0) s.core.tr.maddr.toNat)

/-- Core c is retired: in the error map, and out of every context's mask (R271, R318). -/
def State.retireCore (s : State) (c : Nat) : State :=
  let s := { s with crook := { s.crook with retired := s.crook.retired ||| BitVec.twoPow 256 c } }
  (s.removeCores [c]).onCores fun x => if x.id = c then { x with tr := { x.tr with pre := false } } else x

/-- UE_CORE (R318): taken at monitor level, behind an EXT at the next boundary; the task is aborted and the core retired. A
gang's other members take GANG_ABORT, so that they are not pre-empted for it. -/
def State.coreError (s : State) (c : Nat) : State :=
  let s := s.asCore c fun s =>
    match s.core.task with
    | none => s
    | some _ =>
        if !s.core.between then s.onTr fun t => { t with ue := true }
        else s.asyncTrap { cause := cUe, slot := false }
  let before := s.cores.filterMap fun x => if x.tr.pre then some x.id else none
  (s.retireCore c).onCores fun x => { x with tr := { x.tr with pre := before.contains x.id && x.id != c } }

/-- UE_CORE (R318). -/
def execUeCore (c : Nat) (s : State) : Host.Outcome State Fault Refusal := happens (s.coreError c)

/-- A kernel's tasks that wait for a page may run again (R231). -/
def Kernel.unblock (k : Kernel) (va : Nat) : Kernel :=
  let here := k.blocked.filter fun b => b.2.1 / 65536 == va / 65536
  here.foldl (fun k b => k.requeue b.1 b.2.2.1 b.2.2.2 none)
    { k with blocked := k.blocked.filter fun b => b.2.1 / 65536 != va / 65536 }

/-- PAGE_RESIDENT_REPORT (R231): the drover reports a page of a context resident. -/
def execPageResidentReport (ctx va : Nat) (s : State) : Host.Outcome State Fault Refusal :=
  happens { s with fe := { s.fe with kernels := mapIf (fun k => k.ctx == ctx) (fun k => k.unblock va) s.fe.kernels } }

end Sys2Proof.Machine
end

