-- ==== Sys2Proof/Machine/Launch.lean ====
section
/-! DEFINITION. Launch records and the start of kernels (R204, R291 to R295, R307, R308), and memory as the front end
reaches it. -/

namespace Sys2Proof.Machine

/-! ### The front end's accesses (R279, R281, R286) -/

/-- Read bytes of a context's address space with R. -/
def State.agentRead (s : State) (ctx va n : Nat) : Except CmdFault (List Byte) := s.peekBytes ctx va n fun _ leaf => leafR leaf

/-- Store bytes there; the answer names the messages to another package, in bulk class 0 (log 104). -/
def State.agentWrite (s : State) (ctx va : Nat) (bs : List Byte) : Except CmdFault (List Nat × State) :=
  (pagePieces va bs.length).foldlM (fun q p => do
    let x ← q.2.peek ctx p.1
    if leafPermits .write x.2 then
      let r := q.2.perform 0 ctx (leafRing x.2) p.1 x.1 ((bs.drop (p.1 - va)).take p.2)
      .ok (q.1 ++ r.1, r.2.2)
    else .error ⟨cProt, 0, p.1⟩) ([], s)

/-- Add to eight aligned bytes there, at their fold unit, here or in another package, or in the host (R118, R279). -/
def State.agentAdd (s : State) (ctx va : Nat) (v : Word) : Except CmdFault (List Nat × State) := do
  let x ← s.peek ctx va
  if !leafPermits .atomic x.2 then .error ⟨cProt, 0, va⟩
  else if s.remote x.1 then
    let r := s.newTag (paPkg x.1)
    .ok ([r.1], r.2.send (paPkg x.1) (.atomic x.1 0 r.1 s.fab.pkg v 0))
  else .ok ([], (s.atomicAt x.1 0 v 0).2)

/-! ### The record (R291 to R295) -/

/-- Why no kernel starts yet, or none does: a translation finds V = 0 (R286), bytes of another package are still to come
(R190), or the record is rejected (R295). -/
inductive LaunchStop where
  | held
  | lacking (e : CmdFault)
  | rejected
  deriving DecidableEq, Repr

/-- A check of R295. -/
def check (ok : Bool) : Except LaunchStop Unit := if ok then .ok () else .error .rejected

/-- A read of the record or of a table. -/
def State.recordRead (s : State) (ctx va n : Nat) : Except LaunchStop (List Nat) :=
  match s.agentRead ctx va n with
  | .ok bs => .ok ((chunks 8 (n / 8) bs).map leNat)
  | .error e => .error (if isLack e.cause then .lacking e else if e.cause = cXlat then .held else .rejected)

/-- A level entry (R293). -/
def Level.parse (w : Nat) : Level := { count := bits w 32 32, gang := bit w 7, scope := bits w 4 3, dom := bits w 0 3 }

/-- A level entry by itself is well-formed. -/
def levelWf (w : Nat) : Bool :=
  let l := Level.parse w
  bits w 8 24 == 0 && !bit w 3 && l.count != 0 && decide (l.dom ≤ 4) && decide (l.scope ≤ 5) && decide (l.dom ≤ l.scope)

/-- Domains do not widen inward (R25). -/
def domsFall : List Level → Bool
  | a :: b :: rest => decide (b.dom ≤ a.dom) && domsFall (b :: rest)
  | _ => true

/-- The tasks below each level: the product of the counts of the levels inside it. -/
def insideOf (ls : List Level) (l : Nat) : Nat := (ls.drop (l + 1)).foldl (fun n x => n * x.count) 1

/-- The checks of the hierarchy: R25, the task count, GANG, and the placement checks of R307 and R308. -/
def State.levelsOk (s : State) (ctx : Nat) (ls : List Level) : Bool :=
  domsFall ls && decide (ls.foldl (fun n x => n * x.count) 1 ≤ 2 ^ 32) &&
    (match ls.getLast? with | some x => !x.gang | none => false) &&
    decide ((ls.filter fun x => x.gang).length ≤ 1) &&
    (ls.drop 1).all (fun x => x.dom != 4) &&
    (match ls with
     | a :: rest =>
         a.dom != 4 || (a.count == 1 && (match rest with
           | b :: _ => b.dom == 3 && decide (b.count ≤ s.fab.domain.length)
           | [] => false))
     | [] => false) &&
    (s.ctxOf ctx).state == .live &&
    ls.zipIdx.all fun p => !p.1.gang || (p.1.dom != 4 && decide (insideOf ls p.2 ≤ domCores p.1.dom))

/-- A segment entry (R294). -/
def segOf (a b : Nat) : Segment := { va := bits a 0 52, sb := bits b 32 32, half := bits b 16 1, len := bits b 0 13 }
def segWf (a b : Nat) : Bool :=
  bits a 52 12 == 0 && bits a 0 5 == 0 && bits b 17 15 == 0 && bits b 13 3 == 0 && bits b 0 13 != 0 &&
    decide (bits b 0 13 ≤ 4096) && decide (bits b 32 32 + bits b 0 13 ≤ 2 ^ 32)

/-- Two segments overlap. -/
def Segment.meets (x y : Segment) : Bool := decide (x.sb < y.sb + y.len) && decide (y.sb < x.sb + x.len)

/-- A handle entry (R225, R295). -/
def handleWf (given : Bool) (a b : Nat) : Bool :=
  if given then bits a 62 2 != 3 && bits a 52 8 == 0 && bits b 53 11 == 0 else a == 0 && b == 0

/-- Pairs of neighbouring words. -/
def pairs : List Nat → List (Nat × Nat)
  | a :: b :: rest => (a, b) :: pairs rest
  | _ => []

/-- The header's own checks (R292). -/
def headerWf (w : Nat → Nat) : Bool :=
  bits (w 0) 54 10 == 0 && !bit (w 0) 47 && bits (w 0) 36 4 == 0 && bits (w 0) 2 6 == 0 &&
    bits (w 0) 48 6 != 0 && decide (bits (w 0) 40 7 ≤ 64) && bits (w 0) 32 4 != 0 && decide (bits (w 0) 32 4 ≤ 8) &&
    (if bit (w 0) 1 then bits (w 0) 8 24 == 0
     else decide (bits (w 0) 8 8 ≤ bits (w 0) 16 8) && decide (bits (w 0) 16 8 ≤ bits (w 0) 24 8) &&
       decide (bits (w 0) 24 8 ≤ 128)) &&
    bits (w 2) 32 6 == 0 && decide (384 ≤ bits (w 2) 32 32) &&
    (bits (w 0) 40 7 == 0 || (bits (w 2) 0 6 == 0 && decide (384 ≤ bits (w 2) 0 32))) &&
    bits (w 3) 0 6 == 0 && bits (w 4) 16 48 == 0 && bits (w 5) 0 4 == 0 && w 6 == 0 && w 7 == 0

/-- A TIT table entry: the TID and the words (R294, R121). -/
def titEntry (ws : List Nat) : Nat × List Word := (bits (ws.getD 0 0) 0 6, (ws.drop 1).map w64)
def titWf (ws : List Nat) : Bool :=
  bits (ws.getD 0 0) 6 58 == 0 && (ws.drop 1).zipIdx.all fun p => titLegal p.2 p.1

/-- What the fixed part by itself must satisfy, before its tables are read (R292, R293, R295, R308). -/
def State.fixedOk (s : State) (ctx : Nat) (ws : List Nat) : Bool :=
  let w (k : Nat) : Nat := ws.getD k 0
  let nlev := bits (w 0) 32 4
  let lw := (ws.drop 8).take 8
  headerWf w && (lw.take nlev).all levelWf && (lw.drop nlev).all (· == 0) &&
    s.levelsOk ctx ((lw.take nlev).map Level.parse) &&
    (pairs ((ws.drop 16).take 32)).zipIdx.all fun p => handleWf (bit (w 4) p.2) p.1.1 p.1.2

/-- The words of a launch record, read once: its fixed part, its segment table, its TIT table (R291). -/
def State.recordWords (s : State) (ctx va : Nat) : Except LaunchStop (List Nat) := do
  check (va % 64 == 0)
  let ws ← s.recordRead ctx va 384
  let w (k : Nat) : Nat := ws.getD k 0
  check (s.fixedOk ctx ws)
  let seg ← s.recordRead ctx (va + bits (w 2) 32 32) (16 * bits (w 0) 48 6)
  let ntid := bits (w 0) 40 7
  let tit ← if ntid = 0 then .ok [] else s.recordRead ctx (va + bits (w 2) 0 32) (48 * ntid)
  return ws ++ seg ++ tit

/-- What the tables must satisfy (R294, R295). -/
def tablesOk (entry : Nat) (seg : List (Nat × Nat)) (ts : List (List Nat)) : Bool :=
  let segs := seg.map fun p => segOf p.1 p.2
  (seg.all fun p => segWf p.1 p.2) &&
    (segs.zipIdx.all fun p => segs.zipIdx.all fun q => p.2 == q.2 || !p.1.meets q.1) &&
    (segs.any fun g => decide (g.sb ≤ entry ∧ entry < g.sb + g.len)) &&
    ts.all titWf && decide (ts.map fun t => (titEntry t).1).Nodup

/-- The kernel of a record's words, as yet without a number (R291 to R295, R308). -/
def State.kernelOf (s : State) (slot packet ctx va : Nat) (arg : Word) (ws : List Nat) : Except LaunchStop Kernel := do
  let w (k : Nat) : Nat := ws.getD k 0
  check (s.fixedOk ctx ws)
  let levels := (((ws.drop 8).take 8).take (bits (w 0) 32 4)).map Level.parse
  let handles := (ws.drop 16).take 32
  let nseg := bits (w 0) 48 6
  let ntid := bits (w 0) 40 7
  let seg := pairs ((ws.drop 48).take (2 * nseg))
  let ts := chunks 6 ntid (ws.drop (48 + 2 * nseg))
  check (tablesOk (bits (w 1) 0 32) seg ts)
  let x := s.ctxOf ctx
  let pool := if bit (w 0) 1 then (x.d1, x.d2, x.d3) else (bits (w 0) 8 8, bits (w 0) 16 8, bits (w 0) 24 8)
  return { id := 0, slot := slot, packet := packet, ctx := ctx, lrec := va, arg := arg, idem := bit (w 0) 0
           seed := bits (w 1) 32 32, entry := bits (w 1) 0 32, b1 := pool.1, b2 := pool.2.1, b3 := pool.2.2
           levels := levels, handles := handles.map w64, tits := ts.map titEntry, segs := seg.map fun p => segOf p.1 p.2
           next := w 3, stat := w 5, state := .dispatching
           first := 0, count := levels.foldl (fun n x => n * x.count) 1, nextTask := 0
           ended := [], again := [], blocked := [], bound := [], fails := [], home := s.fab.pkg, parts := []
           words := ws.map w64 }

/-- The kernel of a launch record in memory. -/
def State.launchRecord (s : State) (slot packet ctx va : Nat) (arg : Word) : Except LaunchStop Kernel := do
  let ws ← s.recordWords ctx va
  s.kernelOf slot packet ctx va arg ws

/-! ### The start of a kernel (R204, R307) -/

/-- A kernel boundary writes back and invalidates the first-level caches of every core (R204). -/
def State.cleanAll (s : State) : State :=
  (s.cores.map fun c => c.id).foldl (fun s c => s.asCore c State.cleanCache) s

/-- The tasks of group g of level 1, as the part of one package. -/
def Kernel.part (k : Kernel) (g : Nat) : Kernel :=
  let n := insideOf k.levels 1
  { k with first := g * n, nextTask := g * n, count := n }

/-- Take up a kernel under a number of its own. -/
def State.addKernel (s : State) (k : Kernel) : State :=
  let s := s.cleanAll
  let k := { k with state := if k.count = 0 then .running else .dispatching, words := [] }
  { s with fe := { s.fe with kernels := s.fe.kernels ++ [k] } }

/-- The packages of the domain that a kernel names, each with the group of level 1 that runs there (R307). -/
def State.namedPkgs (s : State) (k : Kernel) : List (Nat × Nat) :=
  match k.levels with
  | a :: b :: _ => if a.dom = 4 then (s.fab.domain.take b.count).zipIdx else []
  | _ => []

/-- A message about part g of a kernel: with the words of its record the part is handed out, without them the package is
asked whether the kernel's context is LIVE there (R307, R308; log 1, log 58). -/
def State.handOff (s : State) (k : Kernel) (p : Nat × Nat) (words : List Word) : State :=
  s.send p.1 (.launchHandOff k.id p.2 k.lrec k.ctx s.fab.pkg (k.arg :: words))

/-- Start a kernel: here, or, once every package that R307 names has answered that its context is LIVE there (R308), with a part
on each. -/
def State.startKernel (s : State) (k : Kernel) : State :=
  let id := s.fe.nextKernel
  let s := { s with fe := { s.fe with nextKernel := id + 1 } }
  let k := { k with id := id }
  let others := (s.namedPkgs k).filter fun p => p.1 != s.fab.pkg
  if others.isEmpty then
    s.addKernel (match s.namedPkgs k with | [] => k | p :: _ => k.part p.2)
  else
    let s := others.foldl (fun s p => s.handOff k p []) s
    { s with fe := { s.fe with kernels := s.fe.kernels ++
      [{ k with state := .checking, parts := others.map fun p => (p.1, false) }] } }

/-- Every package has answered: the parts are handed out, and this package's own one starts (R307). -/
def State.partsStart (s : State) (k : Kernel) : State :=
  let named := s.namedPkgs k
  let others := named.filter fun p => p.1 != s.fab.pkg
  let s := others.foldl (fun s p => s.handOff k p k.words) s
  let mine := match named.find? fun p => p.1 == s.fab.pkg with
    | some p => k.part p.2
    | none => { k with count := 0 }
  let s := { s with fe := { s.fe with kernels := s.fe.kernels.filter fun x => x.id != k.id } }
  s.addKernel { mine with parts := others.map fun p => (p.1, false) }

end Sys2Proof.Machine
end

