-- ==== Sys2Proof/Machine/Queue.lean ====
section
/-! DEFINITION. Queues: notify latches, packets, signals, slots, and the end of kernels (R273 to R290, R297, R298,
R303). -/

namespace Sys2Proof.Machine

/-! ### Indices (R273, R275) -/

/-- The distance from one packet index to another, modulo 2^32. -/
def ahead (from_ upto : Nat) : Nat := (upto + 2 ^ 32 - from_ % 2 ^ 32) % 2 ^ 32

/-- The device is READY (R393). -/
def State.ready? (s : State) : Bool := s.host.stage == 7

/-- The slot bound to a notify index: one that is BINDING has not read its own yet. -/
def State.boundSlot (s : State) (n : Nat) : Option Nat :=
  (s.fe.slots.find? fun x => x.2.state != .free && x.2.state != .binding && x.2.nidx == n).map Prod.fst

/-! ### The queue control block (R273) -/

/-- The physical address of the QCB that SQCB names. -/
def Slot.qcb (x : Slot) : Nat := fld (bits x.sqcb.toNat 7 45) 7

/-- A word of the QCB as MAP read it. -/
def Slot.imageWord (x : Slot) (k : Nat) : Nat := (x.image.getD k 0).toNat

/-- The words that the front end writes back: as read, but for WRIDX and RDIDX, ERRCODE and ERRIDX. -/
def Slot.qcbWords (x : Slot) : List Nat :=
  [x.imageWord 0, x.imageWord 1, fld (x.wridx % 2 ^ 32) 32 + x.rdidx % 2 ^ 32, fld x.qcode 32 + x.erridx % 2 ^ 32, x.imageWord 4]

/-- Write the QCB back, over what software has stored there since MAP. -/
def State.writeQcb (s : State) (x : Slot) : State := s.storeMem x.home (x.qcbWords.flatMap (leBytes 8))

/-! ### Errors and holds (R286) -/

/-- PTAG of a packet of a slot, which error reports carry (R277). -/
def Slot.ptag (x : Slot) (idx : Nat) : Nat :=
  match x.packets.find? fun k => k.idx == idx with | some k => bits (k.words.getD 0 0).toNat 16 16 | none => 0

/-- A slot enters ERROR: the slot, the QCB, ERRSIG and the drover's event, which names the slot and the packet's PTAG (log 106).
A fault of the ERRSIG store is recorded in the slot only. -/
def State.queueError (s : State) (p code idx : Nat) : State :=
  let x := s.slot p
  if x.state != .active && x.state != .held then s
  else
    let tag := if code = 2 then 0 else x.ptag idx
    let x := { x with state := .error, errcode := code, qcode := code, erridx := idx % 2 ^ 32 }
    let s := (s.onSlot p fun _ => x).writeQcb x
    let word := leBytes 8 (fld code 32 + idx % 2 ^ 32)
    let bad (s : State) : State := s.onSlot p fun y => { y with errcode := 3 }
    let s := if x.errsig = 0 then s
      else if x.errsig % 8 ≠ 0 then bad s
      else match s.agentWrite x.ctx x.errsig word with
        | .ok r => r.2.onSlot p fun y => { y with tags := y.tags ++ r.1.map fun t => (t, none) }
        | .error e => s.unless e bad
    s.drover 1 (p + 2 ^ 16 * tag)

/-- The store of ERRSIG in another package is not acknowledged yet. -/
def Slot.telling (x : Slot) : Bool := x.tags.any fun t => t.2.isNone

/-- A translation of the queue finds V = 0, for a packet or, with none, for the ring. -/
def State.queueHold (s : State) (p : Nat) (at_ : Option Nat) : State :=
  if (s.slot p).state = .active then (s.onSlot p fun x => { x with state := .held, heldAt := at_ }).drover 1 p else s

/-- A fault that the front end meets for slot p. -/
def State.queueFault (s : State) (p code idx : Nat) (e : CmdFault) : State :=
  s.unless e fun s => if e.cause = cXlat then s.queueHold p (some idx) else s.queueError p code idx

/-! ### Notify (R274 to R276) -/

/-- Take the latched value for slot p, and clear its pending bit. -/
def State.takeIndex (s : State) (p : Nat) : State :=
  let x := s.slot p
  let v := Sparse.get 0 s.fe.latch x.nidx
  let s := { s with fe := { s.fe with pend := dropNat x.nidx s.fe.pend } }
  if 2 ^ x.rlog < ahead x.rdidx v then s.queueError p 2 v
  else if ahead x.rdidx v ≤ ahead x.rdidx x.wridx then s
  else s.onSlot p fun y => { y with wridx := v }

/-- A write of NOTIFY is captured (R275), and a gated aperture is to be ungated; for an index that no slot holds the drover
hears of it. -/
def State.capture (s : State) (n v : Nat) : State :=
  let was := s.fe.pend.contains n
  let s := { s with fe := { s.fe with
    latch := Sparse.set 0 s.fe.latch n (v % 2 ^ 32), pend := insertNat n s.fe.pend
    waking := if s.fe.gated.contains n then insertNat n s.fe.waking else s.fe.waking } }
  if !was && (s.boundSlot n).isNone then s.drover 1 (64 + n) else s

/-- The front end takes a pending index of slot p: READY, the aperture awake, the slot ACTIVE or HELD, its context LIVE
(R269). -/
def State.takePending (s : State) (p : Nat) : Option State :=
  let x := s.slot p
  if s.ready? && (x.state == .active || x.state == .held) && (s.ctxOf x.ctx).state == .live && s.fe.pend.contains x.nidx && !s.fe.gated.contains x.nidx then
    some (s.takeIndex p)
  else none

/-- The same as an operation of its own (R190). -/
def State.pendingStep (s : State) (p : Nat) : Option State := s.byItself (.slot p (2 ^ 32)) fun s => s.takePending p

/-- NOTIFY (R275): a host write. -/
def execNotify (n v : Nat) (s : State) : Host.Outcome State Fault Refusal :=
  let s := s.capture n v
  happens (match s.boundSlot n with
    | some p => (s.pendingStep p).getD s
    | none => s)

/-- An aperture is awake. -/
def State.ungate (s : State) (n : Nat) : State :=
  { s with fe := { s.fe with gated := dropNat n s.fe.gated, waking := dropNat n s.fe.waking } }

/-- The next aperture that a capture wakes (R275). -/
def State.wakeNext (s : State) : Option State := s.fe.waking.head?.map s.ungate

/-- APERTURE_UNGATE (R275). -/
def execApertureUngate (n : Nat) (s : State) : Host.Outcome State Fault Refusal := happens (s.ungate n)

/-- APERTURE_GATE (R274). -/
def execApertureGate (n : Nat) (s : State) : Host.Outcome State Fault Refusal :=
  happens { s with fe := { s.fe with gated := insertNat n s.fe.gated } }

/-- QPEND (R276): the drover clears bits of word n. -/
def execQpend (n : Nat) (v : Word) (s : State) : Host.Outcome State Fault Refusal :=
  happens { s with fe := { s.fe with pend := s.fe.pend.filter fun i => !(i / 64 == n && v.getLsbD (i % 64)) } }

/-- QSTATE of a notify page (R289). -/
def State.qstate (s : State) (n : Nat) : Nat :=
  match s.boundSlot n with
  | none => if s.fe.pend.contains n then 1 else 0
  | some p =>
      match (s.slot p).state with
      | .held => 3
      | .error => 4
      | .unbinding => 5
      | .resetting => 6
      | _ => 2

/-- The status word of a notify page (R274). -/
def State.notifyStatus (s : State) (n : Nat) : Nat :=
  fld (s.qstate n) 4 + flg (s.fe.gated.contains n) 3 +
    flg (match s.boundSlot n with | some p => (s.slot p).state == .error | none => false) 2 +
    flg (s.boundSlot n).isSome 1 + flg (s.fe.pend.contains n) 0

/-- What a notify page reads as at an offset (R274). -/
def State.notifyRead (s : State) (n o : Nat) : Nat :=
  if o = 0 then Sparse.get 0 s.fe.latch n else if o = 8 then s.notifyStatus n else 0

/-! ### Packets (R277, R280) -/

def Packet.word (k : Packet) (n : Nat) : Nat := (k.words.getD n 0).toNat

/-- TYPE, 0 for a packet of no valid type or one whose fetch faulted. -/
def Packet.kind (k : Packet) : Nat :=
  if k.fault then 0 else if bits (k.word 0) 0 8 ≤ 5 then bits (k.word 0) 0 8 else 0

def Packet.bar (k : Packet) : Bool := bit (k.word 0) 8
def Packet.irq (k : Packet) : Bool := bit (k.word 0) 9
def Packet.sigop (k : Packet) : Nat := bits (k.word 0) 10 2

/-- What R277 requires of a packet of its kind. -/
def Packet.wf (k : Packet) : Bool :=
  let zero (l : List Nat) : Bool := l.all fun n => k.word n == 0
  k.kind != 0 && bits (k.word 0) 32 32 == 0 && bits (k.word 0) 12 4 == 0 && k.sigop != 3 &&
    (k.sigop == 0 || k.word 1 % 8 == 0) &&
    (if k.kind = 2 then k.word 3 % 64 == 0 && zero [5, 6, 7]
     else if k.kind = 3 then k.word 3 % 8 == 0 && decide (k.word 5 < 3) && zero [6, 7]
     else if k.kind = 5 then decide (k.word 3 < 4096) && decide (k.word 4 < 2 ^ 32) && zero [5, 6, 7]
     else zero [3, 4, 5, 6, 7])

/-- The notify target of a NOTIFY packet belongs to the queue's context (R286). -/
def State.targetOk (s : State) (x : Slot) (k : Packet) : Bool :=
  k.kind != 5 || (x.ctx != 0 && Sparse.get 0 s.fe.owner (k.word 3) == x.ctx)

/-- The packet can start once its turn comes: it is neither malformed nor a NOTIFY that may not be made (R286). -/
def State.packetOk (s : State) (x : Slot) (k : Packet) : Bool := k.wf && s.targetOk x k

/-- A fetch may be made (R280, R286): ACTIVE, at most 16 ahead of RDIDX, below WRIDX, and not beyond an FFENCE that has not
started or a packet that cannot start. -/
def State.mayFetch (s : State) (x : Slot) : Bool :=
  x.state == .active && decide (ahead x.rdidx x.fetch < min 16 (ahead x.rdidx x.wridx)) &&
    !x.packets.any fun k => !k.started && (k.kind == 4 || !s.packetOk x k)

/-- The packet that the front end reads where RBASE is not aligned to the ring's size, which R273 forbids with no fate stated: it is
unpredictable, but it raises no fault and changes no other state (R6), so that of all packets it is a NOP without a signal; PTAG, BAR
and the words that it does not use are free values (log 8, log 118). -/
def wildPacket (idx : Nat) (r : List Nat) : Packet :=
  { idx := idx, words := [w64 (fld (r.getD 0 0 % 2 ^ 16) 16 + fld (r.getD 0 0 / 2 ^ 16 % 2) 8 + 1), w64 (r.getD 1 0), w64 (r.getD 2 0), 0, 0, 0, 0, 0] }

/-- Read the next packet of slot p. -/
def State.fetchPacket (s : State) (p : Nat) : Option State :=
  let x := s.slot p
  if !s.mayFetch x then none
  else
    let va := x.rbase + 64 * (x.fetch % 2 ^ x.rlog)
    let put (s : State) (k : Packet) : State := s.onSlot p fun y =>
      { y with packets := y.packets ++ [k], fetch := (y.fetch + 1) % 2 ^ 32 }
    if x.rbase % (64 * 2 ^ x.rlog) ≠ 0 then
      let r := s.draws 3
      some (put r.2 (wildPacket x.fetch r.1))
    else match s.agentRead x.ctx va 64 with
    | .ok bs => some (put s { idx := x.fetch, words := (chunks 8 8 bs).map fun b => w64 (leNat b) })
    | .error e => some (s.unless e fun s =>
        if e.cause = cXlat then s.queueHold p none else put s { idx := x.fetch, words := [], fault := true })

/-- The same as an operation of its own (R190). -/
def State.fetchStep (s : State) (p : Nat) : Option State := s.byItself (.slot p (s.slot p).fetch) fun s => s.fetchPacket p

/-- PACKET_FETCH (R280). -/
def execPacketFetch (p : Nat) (s : State) : Host.Outcome State Fault Refusal := happens ((s.fetchStep p).getD s)

/-! ### Completion and signals (R278, R279) -/

/-- Post a packet's signal; the answer names the messages to another package. -/
def State.postSignal (s : State) (x : Slot) (k : Packet) : Except CmdFault (List Nat × State) :=
  if k.sigop = 0 then .ok ([], s)
  else if k.sigop = 1 then s.agentWrite x.ctx (k.word 1) (leBytes 8 (k.word 2))
  else s.agentAdd x.ctx (k.word 1) (w64 (k.word 2))

/-- Complete packets at the head leave the ring. -/
def Slot.advance (x : Slot) : Slot :=
  let n := (x.packets.takeWhile fun k => k.complete).length
  { x with packets := x.packets.drop n, rdidx := (x.rdidx + n) % 2 ^ 32 }

/-- Change packet idx of a slot. -/
def Slot.onPacket (x : Slot) (idx : Nat) (f : Packet → Packet) : Slot :=
  { x with packets := mapIf (fun k => k.idx == idx) f x.packets }

/-- A started packet completes: its signal, its interrupt, RDIDX; a signal that meets V = 0 waits (R286). -/
def State.packetDone (s : State) (p idx : Nat) : State :=
  let x := s.slot p
  match x.packets.find? fun k => k.idx == idx && k.started && !k.complete with
  | none => s
  | some k =>
      let fin (s : State) : State := s.onSlot p fun y => (y.onPacket idx fun k => { k with complete := true }).advance
      match s.postSignal x k with
      | .ok r =>
          let t := r.2.onSlot p fun y => { y with tags := y.tags ++ r.1.map fun t => (t, some idx) }
          let t := if k.irq then { t with fe := { t.fe with msix := x.msiv :: t.fe.msix } } else t
          fin t
      | .error e => s.unless e fun s => if e.cause = cXlat then s.queueHold p (some idx) else (fin s).queueError p 3 idx

/-- A packet has started. -/
def State.markStarted (s : State) (p idx : Nat) : State :=
  s.onSlot p fun y => y.onPacket idx fun k => { k with started := true }

/-! ### Start of packets (R278, R286, R295) -/

/-- The packet of slot p that starts next, if it may start now, or is BADPKT. -/
def State.startable (s : State) (p : Nat) : Option Packet :=
  let x := s.slot p
  if x.state != .active then none
  else match x.packets.find? fun k => !k.started with
    | none => none
    | some k =>
        let launches := x.packets.filter fun k => k.started && !k.complete && k.kind == 2
        if !s.packetOk x k then some k
        else if (k.bar || k.kind == 4) && k.idx != x.rdidx then none
        else if k.kind = 2 ∧ 8 ≤ launches.length then none
        else some k

/-- WAITSIG's condition (R277). -/
def waitCond (cond v w : Nat) : Bool := if cond = 0 then v == w else if cond = 1 then v != w else decide (w ≤ v)

/-- A started WAITSIG reads its address (R278); one that has been satisfied waits for its signal only. -/
def State.pollWait (s : State) (p : Nat) (k : Packet) : State :=
  if k.met then s.packetDone p k.idx
  else match s.agentRead (s.slot p).ctx (k.word 3) 8 with
  | .ok bs =>
      if waitCond (k.word 5) (leNat bs) (k.word 4) then
        (s.onSlot p fun y => y.onPacket k.idx fun k => { k with met := true }).packetDone p k.idx
      else s
  | .error e => s.queueFault p 3 k.idx e

/-- Start a LAUNCH (R291, R295). -/
def State.startLaunch (s : State) (p : Nat) (k : Packet) : State :=
  match s.launchRecord p k.idx (s.slot p).ctx (k.word 3) (w64 (k.word 4)) with
  | .ok kn => (s.markStarted p k.idx).startKernel kn
  | .error .held => s.queueHold p (some k.idx)
  | .error (.lacking e) => s.unless e id
  | .error .rejected => (s.markStarted p k.idx).queueError p 4 k.idx

/-- Start the packet. -/
def State.startPacket (s : State) (p : Nat) (k : Packet) : State :=
  if !s.packetOk (s.slot p) k then s.queueError p 1 k.idx
  else if k.kind = 2 then s.startLaunch p k
  else
    let s := s.markStarted p k.idx
    if k.kind = 3 then s.pollWait p k
    else if k.kind = 5 then (s.capture (k.word 3) (k.word 4)).packetDone p k.idx
    else s.packetDone p k.idx

/-- The packet that may start does, as an operation of its own (R190). -/
def State.startStep (s : State) (p : Nat) : Option State :=
  (s.startable p).bind fun k => s.byItself (.slot p k.idx) fun s => some (s.startPacket p k)

/-- The next packet of slot p starts, where it may and is of a kind. -/
def State.startKind (s : State) (p kind : Nat) : State :=
  match s.startable p with
  | some k => if k.kind = kind then (s.startStep p).getD s else s
  | none => s

/-- INVALID (R277): also any other packet of no valid type, and one whose fetch faulted. -/
def execInvalid (p : Nat) (s : State) : Host.Outcome State Fault Refusal := happens (s.startKind p 0)
/-- NOP_PACKET (R277). -/
def execNopPacket (p : Nat) (s : State) : Host.Outcome State Fault Refusal := happens (s.startKind p 1)
/-- LAUNCH (R295). -/
def execLaunch (p : Nat) (s : State) : Host.Outcome State Fault Refusal := happens (s.startKind p 2)
/-- WAITSIG (R278). -/
def execWaitsig (p : Nat) (s : State) : Host.Outcome State Fault Refusal := happens (s.startKind p 3)
/-- FFENCE (R278). -/
def execFfence (p : Nat) (s : State) : Host.Outcome State Fault Refusal := happens (s.startKind p 4)
/-- NOTIFY_PACKET (R277). -/
def execNotifyPacket (p : Nat) (s : State) : Host.Outcome State Fault Refusal := happens (s.startKind p 5)

/-- The started packets of a slot that are not complete and wait for no kernel: WAITSIGs, and signals that are to be retried. -/
def Slot.waiting (x : Slot) : List Packet := x.packets.filter fun k => k.started && !k.complete && k.kind != 2 && k.kind != 0

/-- Poll or retry one of them, as an operation of its own (R190). In HELD the held packet waits for RESUME (R283); the other started
WAITSIGs go on reading (R278). -/
def State.pollOne (s : State) (p : Nat) (k : Packet) : State :=
  if (s.slot p).state = .held ∧ ((s.slot p).heldAt = some k.idx ∨ k.kind ≠ 3) then s
  else (s.byItself (.slot p k.idx) fun s => some (if k.kind = 3 then s.pollWait p k else s.packetDone p k.idx)).getD s

/-- Poll or retry all of them. -/
def State.pollSlot (s : State) (p : Nat) : State := (s.slot p).waiting.foldl (fun s k => s.pollOne p k) s

/-- WAITSIG_POLL (R278). -/
def execWaitsigPoll (p : Nat) (s : State) : Host.Outcome State Fault Refusal := happens (s.pollSlot p)

/-! ### The end of a kernel (R206, R297, R298) -/

/-- A kernel armed a region's instance, or holds a start of it pending (R359). -/
def Region.armedBy (r : Region) (k : Nat) : Bool := r.kern == k || r.next == some k

/-- The instance is the kernel's no longer. -/
def Region.disowned (r : Region) (k : Nat) : Region :=
  { r with kern := if r.kern = k then 0 else r.kern, next := if r.next = some k then some 0 else r.next }

/-- Forget a kernel: its region instances are no longer its own (R303), and its part of a
domain barrier counts as arrived in every later phase (R331). -/
def State.dropKernelRecord (s : State) (k : Nat) : State :=
  let gone : List Nat := match s.kernel k with
    | some x => if x.domainBarrier 0 then [x.key s.fab.pkg] else []
    | none => []
  { s with
    fe := { s.fe with kernels := s.fe.kernels.filter fun x => x.id != k }
    fab := { s.fab with
      gone := s.fab.gone ++ gone
      regions := s.fab.regions.map fun r => r.disowned k
      past := s.fab.past.filter fun r => r.kern != k } }

/-- No task of the kernel is left, nor anything that one has sent and is not performed (R206): all ended, or the kernel has failed
and none runs. -/
def State.tasksOver (s : State) (k : Kernel) : Bool :=
  (s.running k.id).isEmpty && (s.savedOf k.id).isEmpty && k.parts.all (fun p => p.2) && !s.unperformed k.id &&
    (k.state == .failing ||
      (k.state == .running && k.ended.length == k.count && k.again.isEmpty && k.blocked.isEmpty))

/-- The least failure recorded (R298). -/
def Kernel.failure (k : Kernel) : Option (Nat × Nat) :=
  k.fails.foldl (fun o x => match o with | some y => if x.1 < y.1 then some x else o | none => some x) none

/-- Step 1 of R297: the status record (R298), whose messages to another package the kernel awaits; one that cannot be written is
not. -/
def State.writeStatus (s : State) (k : Kernel) : State :=
  if k.stat = 0 then s
  else
    let w0 := match k.failure with | some f => fld (f.1 % 2 ^ 32) 32 + fld (f.2 % 256) 8 + 1 | none => 0
    match s.agentWrite k.ctx k.stat (leBytes 8 w0 ++ leBytes 8 (s.die 0).dtb) with
    | .ok r => r.2.onKernel k.id fun x => { x with tags := x.tags ++ r.1 }
    | .error e => s.unless e id

/-- A kernel is over: its LAUNCH packet completes, and it is forgotten once the signal is posted. -/
def State.endLaunch (s : State) (k : Kernel) : State :=
  let t := s.packetDone k.slot k.packet
  if (t.slot k.slot).packets.any fun x => x.idx == k.packet && !x.complete then t.onKernel k.id fun x => { x with next := 0 }
  else t.dropKernelRecord k.id

/-- The dependent record of a kernel that is over is rejected: its LAUNCH packet completes once the queue is in ERROR and ERRSIG is
stored (R295, R297). -/
def State.rejectNext (s : State) (k : Kernel) : State :=
  let s := (s.queueError k.slot 4 k.packet).onKernel k.id fun x => { x with state := .completing, next := 0 }
  if (s.slot k.slot).telling then s else s.endLaunch k

/-- The record of a kernel is rejected (R286, R295): a dependent one's LAUNCH packet completes as well (R297). -/
def State.rejectKernel (s : State) (k : Kernel) : State :=
  if k.dependent then s.rejectNext k else (s.queueError k.slot 4 k.packet).dropKernelRecord k.id

/-- Steps 3 and 4 of R297 for a kernel that is COMPLETING. -/
def State.finishKernel (s : State) (k : Kernel) : State :=
  if k.next ≠ 0 ∧ k.fails.isEmpty then
    (match s.launchRecord k.slot k.packet k.ctx k.next k.arg with
     | .ok n => (s.dropKernelRecord k.id).startKernel { n with dependent := true }
     | .error .held => s.queueHold k.slot (some k.packet)
     | .error (.lacking e) => s.unless e id
     | .error .rejected => s.rejectNext k)
  else s.endLaunch k

/-- A part's end is reported to the launching package (R307). -/
def State.reportPart (s : State) (k : Kernel) : State :=
  (s.send k.home (.packagePartComplete (k.id % 2 ^ 32) s.fab.pkg k.fails)).dropKernelRecord k.id

/-- Steps 1 and 2 of R297, and, unless the status record has still to be performed in another package (R206), the rest. -/
def State.concludeKernel (s : State) (k : Kernel) : State :=
  let s := ((s.onKernel k.id fun x => { x with state := .completing }).writeStatus k).cleanAll
  match s.kernel k.id with
  | some k => if k.tags.isEmpty then s.finishKernel k else s
  | none => s

/-- KERNEL_COMPLETE, where the kernel's conditions hold; of a kernel whose record is checked with other packages, its start or
its rejection (R308). -/
def State.completeKernel (s : State) (k : Kernel) : Option State :=
  match k.state with
  | .checking =>
      if k.parts.all fun p => p.2 then some (if k.fails.isEmpty then s.partsStart k else s.rejectKernel k) else none
  | .completing =>
      if (s.slot k.slot).state = .held ∨ !k.tags.isEmpty ∨ (s.slot k.slot).telling then none else some (s.finishKernel k)
  | .cancelled =>
      if k.parts.all (fun p => p.2) && !(s.fab.regions.any fun r => r.armedBy k.id) && !s.unperformed k.id && k.tags.isEmpty then
        some (if k.home = s.fab.pkg then s.dropKernelRecord k.id else s.reportPart k)
      else none
  | _ =>
      if s.tasksOver k then
        some (if k.home = s.fab.pkg then s.concludeKernel k else s.cleanAll.reportPart k)
      else none

/-- The same as an operation of its own (R190). -/
def State.kernelStep (s : State) (k : Kernel) : Option State := s.byItself (.kernel k.id) fun s => s.completeKernel k

/-- KERNEL_COMPLETE (R297). -/
def execKernelComplete (k : Nat) (s : State) : Host.Outcome State Fault Refusal :=
  happens (match s.kernel k with
    | some x => (s.kernelStep x).getD s
    | none => s)

/-- PACKAGE_PART_COMPLETE (R307): a failed part fails the kernel. While the kernel's record is checked, the answer of a package
(R308). -/
def execPackagePartComplete (kern pkg : Nat) (fails : List (Nat × Nat)) (s : State) : Host.Outcome State Fault Refusal :=
  let s := s.onKernel kern fun k => { k with parts := mapIf (fun p => p.1 == pkg) (fun p => (p.1, true)) k.parts }
  happens (match s.kernel kern with
    | none => s
    | some k =>
        if fails.isEmpty || k.state == .cancelled then s
        else if k.state = .checking then s.onKernel kern fun k => { k with fails := k.fails ++ fails }
        else s.failKernel kern fails 0)

/-! ### Slots (R282 to R285, R290) -/

/-- Set STATUS, and take the request as served. -/
def State.slotStatus (s : State) (p n : Nat) : State := s.onSlot p fun x => { x with status := n, req := 0 }

/-- Slots that a context holds. -/
def State.slotsOf (s : State) (ctx : Nat) : List Nat :=
  (s.fe.slots.filter fun x => x.2.state != .free && x.2.ctx == ctx).map Prod.fst

/-- Steps 2 and 4 of R399 are done: HWBASE is written, Bus Master enabled, and the first word of every port has been read. Step 3 is
none of them: R399 lets kernels run before it (log 121). -/
def HostSide.prepared (h : HostSide) : Bool := h.hwSet && h.master && (List.range 48).all h.portsRead.contains

/-- The checks of MAP (R283, R399; a reserved ERRCODE counts as a nonzero reserved field, R8) on the words of the QCB, for slot p,
which is BINDING and counts among those that the context holds (R290). -/
def State.mapOk (s : State) (x : Slot) (w : Nat → Nat) : Bool :=
  let ctx := s.ctxOf x.ctx
  s.ready? && s.host.prepared && paPkg x.home == s.fab.pkg && paSpace x.home == 0 && (s.paFault x.home).isNone &&
    bits (w 1) 20 12 == x.ctx && x.ctx != 0 && ctx.state == .live &&
    decide ((s.slotsOf x.ctx).length ≤ ctx.budget) && decide (x.prio ≤ ctx.priomax) &&
    decide (4 ≤ bits (w 1) 11 5) && decide (bits (w 1) 11 5 ≤ 20) &&
    bits (w 0) 52 12 == 0 && bits (w 0) 0 6 == 0 && bits (w 1) 44 20 == 0 && bits (w 1) 16 4 == 0 && bits (w 3) 40 24 == 0 &&
    decide (bits (w 3) 32 8 ≤ 4) &&
    decide (ahead (bits (w 2) 0 32) (bits (w 2) 32 32) ≤ 2 ^ bits (w 1) 11 5) &&
    (s.boundSlot (bits (w 1) 32 12)).isNone

/-- MAP (R283, R290): a FREE slot is BINDING, for the context, the PRIO and the QCB that its registers name now. -/
def State.mapSlot (s : State) (p : Nat) : State :=
  let x := s.slot p
  if x.state != .free then s.slotStatus p 4
  else s.onSlot p fun x => { x with state := .binding, ctx := x.rqctx, prio := x.rqprio, home := x.qcb, req := 0 }

/-- The registers of a slot that is FREE, with a status; a request that has been written meanwhile stands. -/
def Slot.freed (x : Slot) (status : Nat) : Slot :=
  { sqcb := x.sqcb, rqctx := x.rqctx, rqprio := x.rqprio, req := x.req, status := if x.req = 0 then status else x.status }

/-- The slot with the queue whose QCB has been read. -/
def Slot.boundTo (x : Slot) (ws : List Word) : Slot :=
  let w (k : Nat) : Nat := (ws.getD k 0).toNat
  { x with
    state := .active, nidx := bits (w 1) 32 12, status := if x.req = 0 then 1 else x.status
    rdidx := bits (w 2) 0 32, fetch := bits (w 2) 0 32, wridx := bits (w 2) 32 32
    errcode := 0, qcode := 0, erridx := 0, rbase := fld (bits (w 0) 6 46) 6, rlog := bits (w 1) 11 5, msiv := bits (w 1) 0 8
    errsig := w 4, image := ws, packets := [] }

/-- The QCB of a slot that is BINDING is read and checked (R283, R290): the slot is ACTIVE and takes the latched index, or
FREE. -/
def State.bind? (s : State) (p : Nat) : Option State :=
  let x := s.slot p
  if x.state ≠ .binding then none
  else
    let ws := (List.range 5).map fun k => w64 (leNat (s.homeBytes (x.home + 8 * k) 8))
    if !s.mapOk x fun k => (ws.getD k 0).toNat then some (s.onSlot p fun x => x.freed 3)
    else
      let s := s.onSlot p fun x => x.boundTo ws
      let s := { s with fe := { s.fe with owner := Sparse.set 0 s.fe.owner (s.slot p).nidx x.ctx } }
      some (s.takeIndex p)

/-- The same as an operation of its own (R190). -/
def State.bindStep (s : State) (p : Nat) : Option State := s.byItself (.slot p (2 ^ 32)) fun s => s.bind? p

/-- The states in which UNMAP and RESET are accepted. -/
def Slot.running (x : Slot) : Bool := x.state == .active || x.state == .held || x.state == .error

/-- Reads that the front end has sent for a slot serve nothing any more (R284, R285). -/
def State.forgetSlot (s : State) (p : Nat) : State :=
  let mine : Reader → Bool
    | .slot q _ => q == p
    | _ => false
  { s with fab := { s.fab with asks := s.fab.asks.filter fun a => !mine a.who, tries := s.fab.tries.filter fun t => !mine t.1 } }

/-- UNMAP (R284): no packet starts any more; packets that have not started are dropped, and with them what was read for them. -/
def State.unmapSlot (s : State) (p : Nat) : State :=
  if !(s.slot p).running then s.slotStatus p 4
  else (s.forgetSlot p).onSlot p fun x =>
    { x with state := .unbinding, req := 0, fetch := x.rdidx, packets := x.packets.filter fun k => k.started }

/-- No started LAUNCH of the slot remains, and its signals to other packages are performed. -/
def State.quietSlot (s : State) (p : Nat) : Bool := !(s.fe.kernels.any fun k => k.slot == p) && (s.slot p).tags.isEmpty

/-- The slot becomes FREE (R284); of a context that is QUIESCING, at the DTB of D0 that its deadline counts from (R270). -/
def State.freeSlot (s : State) (p : Nat) : State :=
  let x := s.slot p
  let s := (s.forgetSlot p).writeQcb x
  let s := s.onSlot p fun x => x.freed 1
  let s := if (s.ctxOf x.ctx).state = .quiescing then s.onCtx x.ctx fun c => { c with deadline := (s.die 0).dtb } else s
  if s.fe.pend.contains x.nidx then s.drover 1 (64 + x.nidx) else s

/-- The unbinding of slot p ends, where it can. -/
def State.unbindDone (s : State) (p : Nat) : Option State :=
  if (s.slot p).state = .unbinding ∧ s.quietSlot p then some (s.freeSlot p) else none

/-- UNBIND_COMPLETE (R284). -/
def execUnbindComplete (p : Nat) (s : State) : Host.Outcome State Fault Refusal := happens ((s.unbindDone p).getD s)

/-- ABORT for a region instance (R359, R361), in whatever state it is: partials are discarded, its masks and records are cleared,
and every member is told. -/
def State.abortInstance (s : State) (r : Region) : State :=
  match s.desc r.ctx r.id with
  | .ok d =>
      if d.rstate = 5 then s
      else
        let s := ((s.unpark r.id r.inst).clearRegion d).setRegionState d r.inst 5 0 0
        let s := (s.unheld r.ctx r.id).reheld { r with acks := [s.fab.pkg], chunks := [], results := [] }
        s.sendMembers d (.ringAbort r.id r.inst s.fab.pkg)
  | .error e => s.unless e fun s => s.unheld r.ctx r.id

/-- Cancel a kernel (R285, R303): its tasks are aborted, its parts and its region instances too. -/
def State.cancelKernel (s : State) (k : Kernel) : State :=
  let s := s.dropKernel k.id 2 0 true
  let s := s.tellParts k 0
  let s := s.onKernel k.id fun x => { x with state := .cancelled, again := [], blocked := [] }
  ((s.fab.regions ++ s.fab.past).filter fun r => r.armedBy k.id).foldl State.abortInstance s

/-- LAUNCH_HAND_OFF (R307): the group of level 1 that runs here, under the record that the launching package has read; without
the record's words, a question (R308); without its address, the part is cancelled or stopped (log 1). A part whose record does
not pass here ends as failed. -/
def execLaunchHandOff (kern g rec ctx src : Nat) (args : List Word) (s : State) : Host.Outcome State Fault Refusal :=
  let id := partId src kern
  let arg := args.headD 0
  let words := args.drop 1
  happens (s.orLater (.launchHandOff kern g rec ctx src args) fun s =>
    if rec = 0 then
      (match s.kernel id with
       | some k =>
           if arg = 0 then s.cancelKernel k
           else s.failKernel id [] 0
       | none => s)
    else if words.isEmpty then
      s.send src (.packagePartComplete kern s.fab.pkg (if (s.ctxOf ctx).state = .live then [] else [(0, cProt)]))
    else match s.kernelOf 64 0 ctx rec arg (words.map BitVec.toNat) with
      | .ok k => s.addKernel { k.part g with id := id, home := src }
      | .error _ => s.send src (.packagePartComplete kern s.fab.pkg [(0, cProt)]))

/-- Cancel every kernel of a slot. -/
def State.cancelSlot (s : State) (p : Nat) : State :=
  (s.fe.kernels.filter fun k => k.slot == p).foldl State.cancelKernel s

/-- A queue reset begins (R285, steps 1 and 2). -/
def State.resetBegin (s : State) (p : Nat) : State :=
  ((s.cancelSlot p).forgetSlot p).onSlot p fun x => { x with state := .resetting, req := 0, packets := [] }

/-- What a queue reset leaves of a queue's indices and error (R285, step 3). -/
def Slot.renewed (x : Slot) : Slot := { x with rdidx := x.wridx, fetch := x.wridx, errcode := 0, qcode := 0, erridx := 0 }

/-- A slot whose context leaves LIVE (R269, R283): one that is BINDING is FREE again, the queue of one that is UNBINDING is reset
and goes on unbinding, any other one's reset begins. -/
def State.quiesceSlot (s : State) (p : Nat) : State :=
  let x := s.slot p
  if x.state = .binding then s.onSlot p fun x => x.freed 3
  else if x.state = .unbinding then (s.cancelSlot p).onSlot p fun x => { x.renewed with packets := [] }
  else if x.running then s.resetBegin p
  else s

/-- Steps 3 and 4: the slot is ACTIVE again, and an index that arrived meanwhile is taken. -/
def State.resetEnd (s : State) (p : Nat) : State :=
  let x := s.slot p
  let y := { x.renewed with state := .active, status := if x.req = 0 then 1 else x.status }
  let s := (s.onSlot p fun _ => y).writeQcb y
  (s.takePending p).getD s

/-- The reset of slot p ends, where it can. -/
def State.resetDone (s : State) (p : Nat) : Option State :=
  if (s.slot p).state = .resetting ∧ s.quietSlot p then some (s.resetEnd p) else none

/-- The same as an operation of its own (R190). -/
def State.resetStep (s : State) (p : Nat) : Option State := s.byItself (.slot p (2 ^ 32)) fun s => s.resetDone p

/-- RESET (R283, R285). -/
def State.resetSlot (s : State) (p : Nat) : State :=
  if !(s.slot p).running then s.slotStatus p 4 else s.resetBegin p

/-- SETPRIO (R283). -/
def State.prioSlot (s : State) (p : Nat) : State :=
  let x := s.slot p
  if x.state != .active && x.state != .held then s.slotStatus p 4
  else if (s.ctxOf x.ctx).priomax < x.rqprio then s.slotStatus p 3
  else (s.slotStatus p 1).onSlot p fun x => { x with prio := x.rqprio }

/-- RESUME (R283): what was held is retried. -/
def State.resumeSlot (s : State) (p : Nat) : State :=
  if (s.slot p).state != .held then s.slotStatus p 4
  else ((s.slotStatus p 1).onSlot p fun x => { x with state := .active }).pollSlot p

/-- Serve the request written to slot p. -/
def State.serveSlot (s : State) (p : Nat) : State :=
  let r := (s.slot p).req
  if r = 0 then s
  else if r = 1 then s.mapSlot p
  else if r = 2 then s.unmapSlot p
  else if r = 3 then s.resetSlot p
  else if r = 4 then s.prioSlot p
  else if r = 5 then s.resumeSlot p
  else s.slotStatus p 3

/-- The same as an operation of its own (R190). -/
def State.serveStep (s : State) (p : Nat) : State := (s.byItself (.slot p (2 ^ 32)) fun s => some (s.serveSlot p)).getD s

/-- A request of one kind is served, where it is the one written. -/
def State.serveKind (s : State) (p r : Nat) : State := if (s.slot p).req = r then s.serveStep p else s

/-- MAP (R283). -/
def execMap (p : Nat) (s : State) : Host.Outcome State Fault Refusal := happens (s.serveKind p 1)
/-- UNMAP (R284). -/
def execUnmap (p : Nat) (s : State) : Host.Outcome State Fault Refusal := happens (s.serveKind p 2)
/-- QUEUE_RESET (R285). -/
def execQueueReset (p : Nat) (s : State) : Host.Outcome State Fault Refusal := happens (s.serveKind p 3)
/-- SETPRIO (R283). -/
def execSetprio (p : Nat) (s : State) : Host.Outcome State Fault Refusal := happens (s.serveKind p 4)
/-- RESUME (R283). -/
def execResume (p : Nat) (s : State) : Host.Outcome State Fault Refusal := happens (s.serveKind p 5)

/-- The first of some states that there is. -/
def firstState : List (Unit → Option State) → Option State
  | [] => none
  | f :: fs => match f () with | some t => some t | none => firstState fs

/-- What slot p does next on its own: it ends a binding, an unbinding or a reset, takes an index, fetches, starts. -/
def State.slotStep (s : State) (p : Nat) : Option State :=
  firstState [fun _ => s.bindStep p, fun _ => s.unbindDone p, fun _ => s.resetStep p, fun _ => s.pendingStep p,
    fun _ => s.fetchStep p, fun _ => s.startStep p]

end Sys2Proof.Machine
end

