-- ==== Sys2Proof/Machine/Crook.lean ====
section
/-! DEFINITION. Contexts and the protection mailbox (R263 to R272). -/

namespace Sys2Proof.Machine

/-! ### Descriptors (R263) -/

/-- The code of a state. -/
def CtxState.code : CtxState → Nat
  | .free => 0
  | .creating => 1
  | .live => 2
  | .resetting => 3
  | .quiescing => 4
  | .draining => 5

/-- The descriptor's words 0 to 7. -/
def Context.words (x : Context) (k : Nat) : List Nat :=
  if x.state = .free then List.replicate 8 0
  else
    let m := x.mask.toNat
    [fld k 52 + fld (bits x.root 14 38) 14 + fld x.lmax 9 + fld x.priomax 4 + x.state.code,
     bits m 0 64, bits m 64 64, bits m 128 64, bits m 192 64,
     fld x.d3 24 + fld x.d2 16 + fld x.d1 8 + x.budget, fld (bits x.monBase 16 36) 16 + x.monLen,
     if x.state = .draining then x.deadline else 0]

/-! ### The mailbox (R267, R268) -/

/-- Word w of mailbox entry k (modulo 16). -/
def State.mail (s : State) (k w : Nat) : Nat := (Sparse.get 0 s.crook.mail (8 * (k % 16) + w)).toNat
/-- Write it. -/
def State.setMail (s : State) (k w v : Nat) : State :=
  { s with crook := { s.crook with mail := Sparse.set 0 s.crook.mail (8 * (k % 16) + w) (w64 v) } }

/-- MBTAIL passes every entry that is served and owes no status. -/
def Crook.tailUp (c : Crook) : Nat → Crook
  | 0 => c
  | n + 1 =>
      if c.tail = c.served ∨ c.owed.any (fun x => x.1 == c.tail) then c
      else ({ c with tail := (c.tail + 1) % 2 ^ 32 }).tailUp n

/-- Advance MBTAIL. -/
def State.tailUp (s : State) : State := { s with crook := s.crook.tailUp 32 }

/-- Write the status of entry k. -/
def State.mailStatus (s : State) (k n : Nat) : State :=
  (s.setMail k 0 (s.mail k 0 / 256 * 256 + n)).tailUp

/-- Entry k is served: the next one is `n` entries on. -/
def State.mailServed (s : State) (k n : Nat) : State := { s with crook := { s.crook with served := (k + n) % 2 ^ 32 } }

/-- Entry k is served with a status. -/
def State.mailDone (s : State) (k n status : Nat) : State := (s.mailServed k n).mailStatus k status

/-- The status with which a request meets a state that does not accept it (R268). -/
def CtxState.refusal : CtxState → Nat
  | .free => 4
  | .live => 3
  | _ => 2

/-- The sum of QBUDGET over the contexts that are not FREE. -/
def Crook.budgets (c : Crook) : Nat :=
  (c.ctx.filter fun p => p.2.state != .free).foldl (fun n p => n + p.2.budget) 0

/-- A core mask that a request may set: no retired core, none of a FAILED cluster, and not empty. -/
def State.maskOk (s : State) (m : BitVec 256) : Bool :=
  m != 0 && (m &&& s.crook.retired) == 0 &&
    (List.range 256).all fun c => !m.getLsbD c || !(s.cluster (clusterOf c)).failed

/-- The mask of four words. -/
def maskWords (a b c d : Nat) : BitVec 256 := BitVec.ofNat 256 (a + fld b 64 + fld c 128 + fld d 192)

/-- Pool boundaries that R264 admits. -/
def poolOk (v : Nat) : Bool :=
  decide (bits v 0 8 ≤ bits v 8 8) && decide (bits v 8 8 ≤ bits v 16 8) && decide (bits v 16 8 ≤ 128)

/-- HBM of this package. -/
def State.ownHbm (s : State) (a : Nat) : Bool := paPkg a == s.fab.pkg && paSpace a == 0 && (s.paFault a).isNone

/-- A monitor image verifies against the keys of the verified firmware image (R266, R391; log 7). -/
def State.imageSigned (s : State) (base len : Nat) : Bool := Config.monitorPasses s.host.monKeys (s.homeBytes base (32 * len))

/-- The checks of CREATE (R268). -/
def State.createOk (s : State) (k : Nat) : Bool :=
  let w := s.mail k
  let n := s.mail (k + 1)
  let root := fld (bits (w 2) 14 38) 14
  let mon := fld (bits (n 2) 16 36) 16
  let len := bits (n 2) 0 10
  bits (w 1) 0 12 != 0 && paSpace root == 0 && (s.paFault root).isNone &&
    decide (1 ≤ bits (w 2) 9 5 ∧ bits (w 2) 9 5 ≤ 24) &&
    decide (1 ≤ bits (w 7) 0 8 ∧ bits (w 7) 0 8 ≤ 64) && decide (s.crook.budgets + bits (w 7) 0 8 ≤ 64) &&
    s.maskOk (maskWords (w 3) (w 4) (w 5) (w 6)) && poolOk (bits (w 7) 8 24) &&
    decide (1 ≤ len ∧ len ≤ 512) && s.ownHbm mon && s.ownHbm (mon + 32 * len - 1) && s.imageSigned mon len &&
    [0, 1, 3, 4, 5, 6, 7].all fun j => n j == 0

/-- A context whose root holds the entries that every context shares (R214): not one whose tables belong to system software
already (R270). -/
def Crook.sharer (c : Crook) : Option Nat :=
  (c.ctx.find? fun p => p.2.state == .live || p.2.state == .resetting || p.2.state == .quiescing).map fun p => p.2.root

/-- The root entries that every context shares are copied into a new root (R214), each of which may lie in another package: the
tags of the messages that write them there. -/
def State.shareRoot (s : State) (root : Nat) : List Nat × State :=
  match s.crook.sharer with
  | none => ([], s)
  | some old =>
      match s.fetched (old + 8 * 1984) 512 with
      | .ok bs => let r := s.perform 0 0 0 0 (root + 8 * 1984) bs; (r.1, r.2.2)
      | .error e => ([], s.unless e id)

/-- The context that a CREATE makes. -/
def State.newContext (s : State) (k : Nat) : Context :=
  let w := s.mail k
  let n := s.mail (k + 1)
  { state := .live, root := fld (bits (w 2) 14 38) 14, lmax := bits (w 2) 9 5, priomax := bits (w 2) 4 3
    mask := maskWords (w 3) (w 4) (w 5) (w 6), budget := bits (w 7) 0 8
    d1 := bits (w 7) 8 8, d2 := bits (w 7) 16 8, d3 := bits (w 7) 24 8
    monBase := fld (bits (n 2) 16 36) 16, monLen := bits (n 2) 0 10, deadline := 0 }

/-- The context that entry k names. -/
def State.mailCtx (s : State) (k : Nat) : Nat := bits (s.mail k 1) 0 12

/-- CREATE (R268, R272): a FREE context is CREATING; the checks follow, and the status waits for them. -/
def State.createCtx (s : State) (k : Nat) : State :=
  let ctx := s.mailCtx k
  if (s.ctxOf ctx).state ≠ .free then s.mailDone k 2 (s.ctxOf ctx).state.refusal
  else if ctx = 0 then s.mailDone k 2 3
  else
    let s := (s.onCtx ctx fun _ => { state := .creating }).mailServed k 2
    { s with crook := { s.crook with owed := s.crook.owed ++ [(k, 1, ctx)] } }

/-- The tasks of a context that run outside its mask are to be pre-empted (R271). -/
def State.preemptOutside (s : State) (ctx : Nat) : State :=
  let m := (s.ctxOf ctx).mask
  (s.cores.filter fun c => (match c.task with | some t => t.ctx == ctx | none => false) && !m.getLsbD c.id).foldl
    (fun s c => s.askPreemption c.id) s

/-- SETMASK (R271); its status waits until every displaced task is saved. -/
def State.setMask (s : State) (k : Nat) : State :=
  let ctx := s.mailCtx k
  let m := maskWords (s.mail k 2) (s.mail k 3) (s.mail k 4) (s.mail k 5)
  if !s.maskOk m then s.mailDone k 1 3
  else
    let s := ((s.onCtx ctx fun x => { x with mask := m }).preemptOutside ctx).mailServed k 1
    { s with crook := { s.crook with owed := s.crook.owed ++ [(k, 2, ctx)] } }

/-- SETBUDGET (R268). -/
def State.setBudget (s : State) (k : Nat) : State :=
  let ctx := s.mailCtx k
  let b := bits (s.mail k 2) 0 8
  let rest := s.crook.budgets - (s.ctxOf ctx).budget
  if 1 ≤ b ∧ b ≤ 64 ∧ rest + b ≤ 64 ∧ (s.slotsOf ctx).length ≤ b then
    (s.onCtx ctx fun x => { x with budget := b }).mailDone k 1 1
  else s.mailDone k 1 3

/-- SETPOOL (R264). -/
def State.setPool (s : State) (k : Nat) : State :=
  let v := s.mail k 2
  if poolOk v then
    (s.onCtx (s.mailCtx k) fun x => { x with d1 := bits v 0 8, d2 := bits v 8 8, d3 := bits v 16 8 }).mailDone k 1 1
  else s.mailDone k 1 3

/-- Steps 1 and 2 of R269: queues and kernels of the context are reset, its region instances aborted. -/
def State.quiesce (s : State) (ctx : Nat) : State :=
  let s := (s.slotsOf ctx).foldl State.quiesceSlot s
  let s := (s.fe.kernels.filter fun k => k.ctx == ctx && k.state != .cancelled).foldl State.cancelKernel s
  (s.fab.regions.filter fun r => r.ctx == ctx).foldl State.abortInstance s

/-- Step 3 of R269, once step 2 is complete: the cores of the context's mask are marked as used by no context. -/
def State.unmark (s : State) (ctx : Nat) : State :=
  let m := (s.ctxOf ctx).mask
  s.onCores fun c => if m.getLsbD c.id then { c with loc := { c.loc with poolCtx := 0, monCtx := 0 } } else c

/-- RESET and DESTROY begin (R269, R270); their status waits. -/
def State.quiesceMail (s : State) (k op : Nat) (state : CtxState) : State :=
  let ctx := s.mailCtx k
  let s := ((s.onCtx ctx fun x => { x with state := state }).quiesce ctx).mailServed k 1
  { s with crook := { s.crook with owed := s.crook.owed ++ [(k, op, ctx)] } }

/-- QUERY (R268): descriptor words 0 to 5 in the arguments, 6 and 7 in words 0 and 1 of the next entry. -/
def State.queryCtx (s : State) (k : Nat) : State :=
  let ws := (s.ctxOf (s.mailCtx k)).words (s.mailCtx k)
  let s := (List.range 6).foldl (fun s j => s.setMail k (2 + j) (ws.getD j 0)) s
  ((s.setMail (k + 1) 0 (ws.getD 6 0)).setMail (k + 1) 1 (ws.getD 7 0)).mailDone k 2 1

/-- CLRREPAIR (R249, R268): for CTX = 0 only; another context is refused by its state. -/
def State.clearRepair (s : State) (k : Nat) : State :=
  let cl := bits (s.mail k 2) 0 6
  if s.mailCtx k ≠ 0 then s.mailDone k 1 (s.ctxOf (s.mailCtx k)).state.refusal
  else if !s.crook.replaced.contains cl then s.mailDone k 1 3
  else
    let s := s.onCluster cl fun x => { x with rows := [], cols := [], failed := false }
    { s with crook := { s.crook with replaced := dropNat cl s.crook.replaced } }.mailDone k 1 1

/-- The entries that the request at k occupies. -/
def mailSpan (op : Nat) : Nat := if op = 1 ∨ op = 7 then 2 else 1

/-- Serve mailbox entry k, whose second entry, for CREATE, has been written too. -/
def State.serveEntry (s : State) (k : Nat) : State :=
  let op := bits (s.mail k 0) 8 8
  let st := (s.ctxOf (s.mailCtx k)).state
  if bits (s.mail k 0) 16 40 ≠ 0 ∨ bits (s.mail k 1) 12 52 ≠ 0 then s.mailDone k (mailSpan op) 3
  else if op = 1 then s.createCtx k
  else if op = 0x10 then s.clearRepair k
  else if op = 7 then (if st = .free then s.mailDone k 2 4 else s.queryCtx k)
  else if op < 2 ∨ 7 < op then s.mailDone k 1 3
  else if st ≠ .live then s.mailDone k 1 st.refusal
  else if op = 2 then s.setMask k
  else if op = 3 then s.setBudget k
  else if op = 4 then s.setPool k
  else if op = 5 then s.quiesceMail k 5 .resetting
  else s.quiesceMail k 6 .quiescing

/-- The entry that is served next: READY, MBHEAD beyond it, and for CREATE beyond the one after it. -/
def State.nextMail (s : State) : Option Nat :=
  let k := s.crook.served
  let n := ahead k s.crook.head
  if s.ready? && decide (1 ≤ n ∧ n ≤ 16) && (bits (s.mail k 0) 8 8 != 1 || decide (2 ≤ n)) then some k else none

/-- Serve entry k, as an operation of its own (R190). -/
def State.mailStep (s : State) (k : Nat) : Option State := s.byItself .crook fun s => some (s.serveEntry k).tailUp

/-- Serve the next entry. -/
def State.serveMail (s : State) : Option State := s.nextMail.bind s.mailStep

/-! ### Requests that wait (R269 to R271, R288) -/

/-- Nothing of a context is left that a reset has to wait for. -/
def State.quietCtx (s : State) (ctx : Nat) : Bool :=
  !(s.fab.regions.any fun r => r.ctx == ctx) && !(s.fe.kernels.any fun k => k.ctx == ctx) &&
    (s.slotsOf ctx).all fun p => (s.slot p).state != .resetting

/-- Nothing of a context runs on a core outside its mask. -/
def State.inMask (s : State) (ctx : Nat) : Bool :=
  s.cores.all fun c => match c.task with
    | some t => t.ctx != ctx || (s.ctxOf ctx).mask.getLsbD c.id
    | none => true

/-- LEASE_HORIZON in ns (R222). -/
def leaseHorizon : Nat := 2050

/-- The slots of a context that is QUIESCING are released: each is UNBINDING first (R270, R290). -/
def State.releaseSlots (s : State) (ctx : Nat) : Option State :=
  let l := (s.slotsOf ctx).filter fun p => (s.slot p).state != .unbinding
  if l.isEmpty then none else some (l.foldl (fun s p => s.onSlot p fun x => { x with state := .unbinding }) s)

/-- DRAINING begins (R270): the deadline counts from the release of the last slot, or from now where there was none. -/
def State.drain (s : State) (ctx : Nat) : State :=
  s.onCtx ctx fun x =>
    let from_ := if x.deadline = 0 then (s.die 0).dtb else x.deadline
    { x with state := .draining, deadline := from_ + 2 ^ (x.lmax - 1) * 1000 + leaseHorizon }

/-- The checks of a CREATE that is CREATING (R268, R272): LIVE, once the shared root entries stand in the new root, or FREE with
status 3. -/
def State.creation (s : State) (x : Nat × Nat × Nat) (paid : Nat → State → State) : State :=
  if !s.createOk x.1 then paid 3 (s.onCtx x.2.2 fun _ => {})
  else
    let y := s.newContext x.1
    let r := s.shareRoot y.root
    let s := r.2.onCtx x.2.2 fun _ => { y with state := .creating }
    if r.1.isEmpty then paid 1 (s.onCtx x.2.2 fun _ => y)
    else { s with crook := { s.crook with
      tags := s.crook.tags ++ r.1, owed := mapIf (fun z => z.1 == x.1) (fun z => (z.1, 8, z.2.2)) s.crook.owed } }

/-- A status that was owed is written, where what it waited for has come about; or what it waits for goes on. -/
def State.payStatus (s : State) (x : Nat × Nat × Nat) : Option State :=
  let paid (n : Nat) (s : State) : State :=
    ({ s with crook := { s.crook with owed := s.crook.owed.filter fun y => y.1 != x.1 } }).mailStatus x.1 n
  match x.2.1 with
  | 1 => some (s.creation x paid)
  | 8 => if s.crook.tags.isEmpty then some (paid 1 (s.onCtx x.2.2 fun c => { c with state := .live })) else none
  | 2 => if s.inMask x.2.2 then some (paid 1 s) else none
  | 5 => if s.quietCtx x.2.2 then some (paid 1 ((s.unmark x.2.2).onCtx x.2.2 fun c => { c with state := .live })) else none
  | 6 =>
      if !s.quietCtx x.2.2 then none
      else
        let s := s.unmark x.2.2
        some { s with crook := { s.crook with owed := mapIf (fun z => z.1 == x.1) (fun z => (z.1, 9, z.2.2)) s.crook.owed } }
  | _ =>
      if (s.slotsOf x.2.2).isEmpty then some (paid 1 (s.drain x.2.2))
      else s.releaseSlots x.2.2

/-- The first status that can be written. -/
def State.payNext (s : State) : Option State :=
  s.crook.owed.findSome? fun x => s.byItself .crook fun s => s.payStatus x

/-- A DRAINING context whose deadline D0's DTB has reached is FREE, its descriptor cleared (R270). -/
def State.deadlineOver (s : State) (ctx : Nat) : Option State :=
  let x := s.ctxOf ctx
  if x.state = .draining ∧ x.deadline ≤ (s.die 0).dtb then some (s.onCtx ctx fun _ => {}) else none

/-- Every such context. -/
def State.deadlines (s : State) : State :=
  (s.crook.ctx.map Prod.fst).foldl (fun s k => (s.deadlineOver k).getD s) s

/-- The requests of mailbox entry k, where it is the next one and of that kind. -/
def State.serveOp (s : State) (k op : Nat) : State :=
  let s := s.deadlines
  match s.nextMail with
  | some n => if n % 16 = k % 16 ∧ bits (s.mail n 0) 8 8 = op then (s.mailStep n).getD s else s
  | none => s

/-- CREATE (R268). -/
def execCreate (k : Nat) (s : State) : Host.Outcome State Fault Refusal := happens (s.serveOp k 1)
/-- SETMASK (R271). -/
def execSetmask (k : Nat) (s : State) : Host.Outcome State Fault Refusal := happens (s.serveOp k 2)
/-- SETBUDGET (R268). -/
def execSetbudget (k : Nat) (s : State) : Host.Outcome State Fault Refusal := happens (s.serveOp k 3)
/-- SETPOOL (R268). -/
def execSetpool (k : Nat) (s : State) : Host.Outcome State Fault Refusal := happens (s.serveOp k 4)
/-- CONTEXT_RESET (R269). -/
def execContextReset (k : Nat) (s : State) : Host.Outcome State Fault Refusal := happens (s.serveOp k 5)
/-- DESTROY (R270). -/
def execDestroy (k : Nat) (s : State) : Host.Outcome State Fault Refusal := happens (s.serveOp k 6)
/-- QUERY (R268). -/
def execQuery (k : Nat) (s : State) : Host.Outcome State Fault Refusal := happens (s.serveOp k 7)
/-- CLRREPAIR (R268). -/
def execClrrepair (k : Nat) (s : State) : Host.Outcome State Fault Refusal := happens (s.serveOp k 0x10)

/-- DEADLINE (R270). -/
def execDeadline (ctx : Nat) (s : State) : Host.Outcome State Fault Refusal := happens ((s.deadlineOver ctx).getD s)

end Sys2Proof.Machine
end

