-- ==== Sys2Proof/Machine/ScalarMem.lean ====
section
/-! DEFINITION. Scalar memory access, handles and jump tables (R87, R113 to R118, R227 to R229). -/

namespace Sys2Proof.Machine

/-! ### Shared forms -/

/-- Alignment, then the handle's checks and the translation, for `size` bytes at an offset (R113). -/
def State.scalarTarget (s : State) (h : Nat) (off : Int) (size : Nat) (u : Use) : Act Target :=
  if s.handleAddr h off % size ≠ 0 then .trap { cause := cAlign, addr := wrapTo 64 (s.handleAddr h off) } s
  else s.through h off size u

/-- G[ga] + imm·size (R113). -/
def State.scalarOff (s : State) (a : BitVec 5) (i : BitVec 6) (size : Nat) : Int :=
  (s.core.g a.toNat).toInt + s.imm 6 i.toNat * size

/-- A load (R114). -/
def loadForm (size : Nat) (signed w : Bool) (g : BitVec 5) (h : BitVec 4) (a : BitVec 5) (i : BitVec 6) (s : State) :
    Res :=
  s.ready w [a, g] fun s =>
    (s.scalarTarget h.toNat (s.scalarOff a i size) size .read).bind fun t s =>
      let r := s.loadFrom t size
      (r.2.2.deliver g.toNat r.1 r.2.1 signed).ok

/-- A store (R115). -/
def storeForm (size : Nat) (nt w : Bool) (g : BitVec 5) (h : BitVec 4) (a : BitVec 5) (i : BitVec 6) (s : State) :
    Res :=
  s.ready w [a, g] fun s =>
    (s.scalarTarget h.toNat (s.scalarOff a i size) size .write).bind fun t s =>
      let u := s.storeTo t (leBytes size (s.core.g g.toNat).toNat) nt
      (u.scalarUse (match t with | .pool _ => [] | .mem .. => lineBanks (u.linesOf t))).ok

/-- An atomic on the eight bytes at base + G[ga] (R116, R117). -/
def atomicForm (op : Nat) (d : BitVec 5) (h : BitVec 4) (a : BitVec 5) (x y : Word) (s : State) : Res :=
  (s.scalarTarget h.toNat (s.core.g a.toNat).toInt 8 .atomic).bind fun t s =>
    (s.atomicOn t op x y).bind fun old s => (s.deliverAtomic d.toNat t old op x y).ok

/-- AMO (R116). -/
def amoForm (op : Nat) (w : Bool) (d : BitVec 5) (h : BitVec 4) (a : BitVec 5) (s : State) : Res :=
  s.ready w [a, d] fun s => atomicForm op d h a (s.core.g d.toNat) 0 s

/-! ### Loads (R114) -/

/-- LD_B (R114). -/
def execLdB (w : Bool) (g : BitVec 5) (h _c : BitVec 4) (a : BitVec 5) (i : BitVec 6) (s : State) :
    Host.Outcome State Fault Refusal := settle 1 (loadForm 1 true w g h a i s)

/-- LD_BU (R114). -/
def execLdBu (w : Bool) (g : BitVec 5) (h _c : BitVec 4) (a : BitVec 5) (i : BitVec 6) (s : State) :
    Host.Outcome State Fault Refusal := settle 1 (loadForm 1 false w g h a i s)

/-- LD_H (R114). -/
def execLdH (w : Bool) (g : BitVec 5) (h _c : BitVec 4) (a : BitVec 5) (i : BitVec 6) (s : State) :
    Host.Outcome State Fault Refusal := settle 1 (loadForm 2 true w g h a i s)

/-- LD_HU (R114). -/
def execLdHu (w : Bool) (g : BitVec 5) (h _c : BitVec 4) (a : BitVec 5) (i : BitVec 6) (s : State) :
    Host.Outcome State Fault Refusal := settle 1 (loadForm 2 false w g h a i s)

/-- LD_W (R114). -/
def execLdW (w : Bool) (g : BitVec 5) (h _c : BitVec 4) (a : BitVec 5) (i : BitVec 6) (s : State) :
    Host.Outcome State Fault Refusal := settle 1 (loadForm 4 true w g h a i s)

/-- LD_WU (R114). -/
def execLdWu (w : Bool) (g : BitVec 5) (h _c : BitVec 4) (a : BitVec 5) (i : BitVec 6) (s : State) :
    Host.Outcome State Fault Refusal := settle 1 (loadForm 4 false w g h a i s)

/-- LD_D (R114). -/
def execLdD (w : Bool) (g : BitVec 5) (h _c : BitVec 4) (a : BitVec 5) (i : BitVec 6) (s : State) :
    Host.Outcome State Fault Refusal := settle 1 (loadForm 8 false w g h a i s)

/-! ### Stores (R115) -/

/-- ST_B (R115). -/
def execStB (w : Bool) (g : BitVec 5) (h _c : BitVec 4) (a : BitVec 5) (i : BitVec 6) (s : State) :
    Host.Outcome State Fault Refusal := settle 1 (storeForm 1 false w g h a i s)

/-- ST_H (R115). -/
def execStH (w : Bool) (g : BitVec 5) (h _c : BitVec 4) (a : BitVec 5) (i : BitVec 6) (s : State) :
    Host.Outcome State Fault Refusal := settle 1 (storeForm 2 false w g h a i s)

/-- ST_W (R115). -/
def execStW (w : Bool) (g : BitVec 5) (h _c : BitVec 4) (a : BitVec 5) (i : BitVec 6) (s : State) :
    Host.Outcome State Fault Refusal := settle 1 (storeForm 4 false w g h a i s)

/-- ST_D (R115). -/
def execStD (w : Bool) (g : BitVec 5) (h _c : BitVec 4) (a : BitVec 5) (i : BitVec 6) (s : State) :
    Host.Outcome State Fault Refusal := settle 1 (storeForm 8 false w g h a i s)

/-- STNT_D (R115, R198). -/
def execStntD (w : Bool) (g : BitVec 5) (h _c : BitVec 4) (a : BitVec 5) (i : BitVec 6) (s : State) :
    Host.Outcome State Fault Refusal := settle 1 (storeForm 8 true w g h a i s)

/-! ### Atomics (R116 to R118) -/

/-- AMO_ADD (R116). -/
def execAmoAdd (w : Bool) (d : BitVec 5) (h : BitVec 4) (a : BitVec 5) (_c : BitVec 4) (_s : BitVec 2) (s : State) :
    Host.Outcome State Fault Refusal := settle 1 (amoForm 0 w d h a s)

/-- AMO_AND (R116). -/
def execAmoAnd (w : Bool) (d : BitVec 5) (h : BitVec 4) (a : BitVec 5) (_c : BitVec 4) (_s : BitVec 2) (s : State) :
    Host.Outcome State Fault Refusal := settle 1 (amoForm 1 w d h a s)

/-- AMO_OR (R116). -/
def execAmoOr (w : Bool) (d : BitVec 5) (h : BitVec 4) (a : BitVec 5) (_c : BitVec 4) (_s : BitVec 2) (s : State) :
    Host.Outcome State Fault Refusal := settle 1 (amoForm 2 w d h a s)

/-- AMO_XOR (R116). -/
def execAmoXor (w : Bool) (d : BitVec 5) (h : BitVec 4) (a : BitVec 5) (_c : BitVec 4) (_s : BitVec 2) (s : State) :
    Host.Outcome State Fault Refusal := settle 1 (amoForm 3 w d h a s)

/-- AMO_MIN (R116). -/
def execAmoMin (w : Bool) (d : BitVec 5) (h : BitVec 4) (a : BitVec 5) (_c : BitVec 4) (_s : BitVec 2) (s : State) :
    Host.Outcome State Fault Refusal := settle 1 (amoForm 4 w d h a s)

/-- AMO_MAX (R116). -/
def execAmoMax (w : Bool) (d : BitVec 5) (h : BitVec 4) (a : BitVec 5) (_c : BitVec 4) (_s : BitVec 2) (s : State) :
    Host.Outcome State Fault Refusal := settle 1 (amoForm 5 w d h a s)

/-- AMO_MINU (R116). -/
def execAmoMinu (w : Bool) (d : BitVec 5) (h : BitVec 4) (a : BitVec 5) (_c : BitVec 4) (_s : BitVec 2) (s : State) :
    Host.Outcome State Fault Refusal := settle 1 (amoForm 6 w d h a s)

/-- AMO_MAXU (R116). -/
def execAmoMaxu (w : Bool) (d : BitVec 5) (h : BitVec 4) (a : BitVec 5) (_c : BitVec 4) (_s : BitVec 2) (s : State) :
    Host.Outcome State Fault Refusal := settle 1 (amoForm 7 w d h a s)

/-- AMO_SWAP (R116). -/
def execAmoSwap (w : Bool) (d : BitVec 5) (h : BitVec 4) (a : BitVec 5) (_c : BitVec 4) (_s : BitVec 2) (s : State) :
    Host.Outcome State Fault Refusal := settle 1 (amoForm 8 w d h a s)

/-- CAS (R117): gD + 1 holds the new value and stays as it is. -/
def execCas (w : Bool) (d : BitVec 5) (h : BitVec 4) (a : BitVec 5) (_c : BitVec 4) (_s : BitVec 2) (s : State) :
    Host.Outcome State Fault Refusal :=
  settle 1 (s.ready w [a, d, d + 1] fun s =>
    atomicForm 9 d h a (s.core.g d.toNat) (s.core.g (d.toNat + 1)) s)

/-! ### Handles (R227 to R229) -/

/-- The unexpired translation that XLAT finds: the handle's, then the core TLB's, then the die TLB's (R227). -/
def State.xlatFinds (s : State) (h va : Nat) : Option Xlation :=
  let ctx := s.core.ctx
  match (s.core.handle h).tr with
  | some t => if t.covers ctx va && s.live t then some t else s.lookup ctx va
  | none => s.lookup ctx va

/-- The background walk of XLAT (R227): it fills the die TLB and raises nothing; it needs R (R215). It goes on where another package has sent
an entry that it lacked. -/
def State.backgroundWalk (s : State) (ctx va : Nat) : State :=
  (s.attemptBy (.walk s.core.id ctx va) fun s =>
    match s.walkTimed ctx va with
    | .leaf e level => if leafR e then s.cacheXlation (s.filled (dieOf s.core.id) ctx va e level) false else s
    | .pending a => s.wants (some va) a 8
    | _ => s).2

/-- The value XLAT gives, and the state after its look-up (R227). An address of 2^52 or more inside LIMIT matches no entry and is
walked by nothing: CODE 1, which the model chooses (log 113). -/
def State.xlatValue (s : State) (h : Nat) (off : Int) : Nat × State :=
  let y := s.core.handle h
  let va := y.vbase + off.toNat
  if y.kind = 0 ∨ y.kind = 3 then (flg true 63 + fld 3 60, s)
  else if off < 0 ∨ (y.limit : Int) ≤ off then (flg true 63 + fld 2 60, s)
  else if y.kind = 2 then (flg true 62 + flg true 61 + fld 7 58 + va % 2 ^ 52, s)
  else match (if va < 2 ^ 52 then s.xlatFinds h va else none) with
    | some x =>
        (flg (leafW x.leaf.toNat) 62 + flg (leafR x.leaf.toNat) 61 + fld (leafClass x.leaf.toNat) 58 + x.pa va, s)
    | none => (flg true 63 + fld 1 60, if va < 2 ^ 52 then s.backgroundWalk s.core.ctx va else s)

/-- XLAT (R227). -/
def execXlat (w : Bool) (d : BitVec 5) (h : BitVec 4) (a : BitVec 5) (s : State) : Host.Outcome State Fault Refusal :=
  settle 1 (s.ready w [a, d] fun s =>
    let r := s.xlatValue h.toNat (s.core.g a.toNat).toInt
    (r.2.writeGEm 24 d.toNat (w64 r.1)).ok)

/-- HREV (R228). -/
def execHrev (_w : Bool) (h : BitVec 4) (s : State) : Host.Outcome State Fault Refusal :=
  settle 1 (if (s.core.handle h.toNat).kind = 1 then
      (s.onHandle h.toNat fun y => { y with tr := none, rev := false, gv := false }).ok
    else s.ok)

/-- The description HINFO gives (R229). -/
def State.hinfo (s : State) (h : Nat) : Nat :=
  let y := s.core.handle h
  let base := flg y.rev 24 + flg y.w 3 + flg y.r 2 + y.kind
  match y.tr with
  | none => base + fld 3 4
  | some t =>
      let e := t.leaf.toNat
      let live := decide (s.dtb < t.exp)
      base + fld (if live then min ((t.exp - s.dtb) / 1024) (2 ^ 32 - 1) else 0) 32 + fld (leafRegion e) 12 +
        fld (leafClass e) 9 + flg (leafChk e) 8 + flg (leafNt e) 7 + flg live 6 + fld t.level 4

/-- HINFO (R229). -/
def execHinfo (w : Bool) (d : BitVec 5) (h : BitVec 4) (s : State) : Host.Outcome State Fault Refusal :=
  settle 1 (s.ready w [d] fun s => (s.writeG 1 d.toNat (w64 (s.hinfo h.toNat))).ok)

/-! ### Jump tables (R87) -/

/-- A fault of the entry load: PROT and ALIGN become JTAB_FETCH with the cause beside it (R87, R373). -/
def jtabFault (t : TrapInfo) : TrapInfo :=
  if t.cause = cProt ∨ t.cause = cAlign then { cause := cJtab, info := fld t.cause 8 } else t

/-- The target of an entry, where it is a bundle address (R87). -/
def State.tableTarget (s : State) (e : Word) : Option Nat :=
  let tgt := (s.core.seq.pc : Int) + signedOf 32 e.toNat
  if tgt < 0 ∨ (2 ^ 32 : Int) ≤ tgt then none else some tgt.toNat

/-- The entry load of a JTAB that has issued runs in the time of a scalar load: it lands as one would (R61, R87). -/
def State.tableLoad (s : State) (e : Word) (p : Path) : State :=
  let w : Waiting := { dst := [.table e], size := 4 }
  match p with
  | .pool => s.awaits (s.nearly 8 true w)
  | .hit l => (s.scalarUse [l / 512]).awaits (s.nearly 8 (!s.contended 2 [l / 512]) { w with banks := [l / 512] })
  | .far l => (s.scalarUse (lineBanks l.toList)).awaits w
  | .host => s.awaits { w with host := true }
  | .away a =>
      let r := s.newTag (paPkg a.pa)
      (r.2.send (paPkg a.pa) (.readRequest a.pa a.len r.1 s.fab.pkg)).awaits
        { w with holes := [{ tag := r.1, off := 0, len := 4, skip := a.skip, keep := a.keep, fill := if a.fill then some a.pa else none }] }

/-- JTAB (R87). The bundle issues, and its first delay bundle holds until the entry returns. An entry of another package is
asked for as the bundle issues: its target is known, and what the target or the load itself raises is taken at the JTAB, once it
has come (log 54). -/
def execJtab (a : BitVec 5) (h : BitVec 4) (l : BitVec 12) (s : State) : Host.Outcome State Fault Refusal :=
  settle 0 (s.ready true [a] fun s =>
    let i := min (s.gn a) l.toNat
    match s.scalarTarget h.toNat (4 * i) 4 .read with
    | .hold x s => .hold x s
    | .trap t s => .trap (jtabFault t) s
    | .ok t s =>
        let r := s.loadFrom t 4
        let e := w64 (leNat r.1)
        let s := r.2.2
        match r.2.1 with
        | .away _ => ((s.tableLoad e r.2.1).onSeq fun q => { q with table := some (.asked q.trapPc) }).ok
        | _ =>
            match s.tableTarget e with
            | none => s.raise cProt
            | some tgt => ((s.tableLoad e r.2.1).onSeq fun q => { q with table := some .timed }).branch tgt)

/-- The entry of a JTAB that has issued is there, from another package (R87): the branch, or the trap at the JTAB. -/
def State.tableDone (s : State) : State :=
  let fail (pc : Nat) (t : TrapInfo) (s : State) : State :=
    ((s.onSeq fun q => { q with table := none }).takeTrap { t with resume := some pc } 0).onSeq fun q => { q with moved := false }
  match s.core.seq.table with
  | some (.failed pc r) => fail pc (jtabFault (protTrap r 0)) s
  | some (.came pc e) =>
      (match s.tableTarget e with
       | none => fail pc { cause := cProt } s
       | some tgt =>
           match (s.onSeq fun q => { q with table := none }).branch tgt with
           | .ok _ t => t.advance
           | .trap t s => fail pc t s
           | .hold _ s => s)
  | _ => s

end Sys2Proof.Machine
end

