-- ==== Sys2Proof/Machine/Link.lean ====
section
/-! DEFINITION. The Rontil ports, messages between packages, and the domain time base (R19, R22, R224, R339 to R347,
R396). -/

namespace Sys2Proof.Machine

/-! ### Ports (R342 to R344) -/

/-- A port. -/
def State.port (s : State) (d j : Nat) : Port := Sparse.get {} (s.die d).ports j
/-- Change a port. -/
def State.onPort (s : State) (d j : Nat) (f : Port → Port) : State :=
  s.onDie d fun x => { x with ports := Sparse.set {} x.ports j (f (Sparse.get {} x.ports j)) }

/-- The opposite direction (R19). -/
def opposite (j : Nat) : Nat := if j % 2 = 0 then j + 1 else j - 1

/-- Enter a port state now. -/
def State.portState (s : State) (d j : Nat) (st : PortState) : State :=
  let now := (s.die d).dtb
  s.onPort d j fun p => { p with state := st, since := now }

/-- Messages that a port has not had acknowledged go back to the head of those to be sent, whole and in their order; what was partly
received is discarded (R343). -/
def State.recall (s : State) (d j : Nat) : State :=
  let p := s.port d j
  let back : List Parcel := p.sent.map Prod.snd ++ p.tails.map Prod.fst
  { s.onPort d j (fun p => { p with
      sent := [], tails := [], failed := [], rxFailed := none, rxGot := 0, ackNext := p.txSeq, wire := p.txSeq, credits := [] }) with
    fab := { s.fab with out := back ++ s.fab.out } }

/-- A port leaves UP or RETRAINING for DOWN. -/
def State.portDown (s : State) (d j : Nat) : State :=
  ((s.recall d j).onPort d j fun p => { p with downs := satAdd p.downs 1 65535 }).portState d j .down

/-- A port starts to retrain (R342, R343). -/
def State.portRetrain (s : State) (d j : Nat) : State :=
  (s.onPort d j fun p => { p with retrain := satAdd p.retrain 1 65535 }).portState d j .retraining

/-- EN (R343). -/
def State.portEnable (s : State) (d j : Nat) (on : Bool) : State :=
  let was := (s.port d j).state
  let s := s.onPort d j fun p => { p with en := on }
  if on then (if was = .disabled then s.portState d j .down else s)
  else (s.recall d j).portState d j .disabled

/-- EN (R343). -/
def execEn (d j : Nat) (on : Bool) (s : State) : Host.Outcome State Fault Refusal := happens (s.portEnable d j on)

/-- RETRAIN written (R344). -/
def State.portRetrainIfUp (s : State) (d j : Nat) : State :=
  if (s.port d j).state = .up then s.portRetrain d j else s

/-- RETRAIN (R344). -/
def execRetrain (d j : Nat) (s : State) : Host.Outcome State Fault Refusal := happens (s.portRetrainIfUp d j)

/-- Training starts, from DOWN (R343). -/
def State.portTrain (s : State) (d j : Nat) : State :=
  if (s.port d j).state = .down then s.portState d j .training else s

/-- TRAINING_START (R343). -/
def execTrainingStart (d j : Nat) (s : State) : Host.Outcome State Fault Refusal := happens (s.portTrain d j)

/-- A port after a handshake with port pj of die pd of package pp (R343, R344): on the right one, sequence numbers start anew and
the hop delay has been measured (R396), a free value of at most 140 ns (R347). -/
def Port.shaken (p : Port) (pp pd pj : Nat) (right : Bool) (measured : Nat) : Port :=
  let p := { p with peerPkg := pp, peerDie := pd, peerPort := pj, miswire := !right }
  if right then
    { p with txSeq := 0, ackNext := 0, wire := 0, rxSeq := 0, rxGot := 0, rxFailed := none, control := [], delay := measured % 141 }
  else p

/-- TRAINING_COMPLETE (R343): the handshake names the peer; the right one is the same die on the opposite direction. -/
def execTrainingComplete (d j pp pd pj : Nat) (s : State) : Host.Outcome State Fault Refusal :=
  happens (if (s.port d j).state ≠ .training then s
    else
      let right := pd == d && pj == opposite j
      let r := if right then s.draw else (0, s)
      (r.2.onPort d j fun p => p.shaken pp pd pj right r.1).portState d j (if right then .up else .down))

/-- TRAINING_TIMEOUT (R343). -/
def execTrainingTimeout (d j : Nat) (s : State) : Host.Outcome State Fault Refusal :=
  happens (if (s.port d j).state = .training then s.portState d j .down else s)

/-- RETRAIN_COMPLETE (R343): on success the replay buffer is kept, and sent again from the first flit not acknowledged. -/
def execRetrainComplete (d j : Nat) (ok : Bool) (s : State) : Host.Outcome State Fault Refusal :=
  happens (if (s.port d j).state ≠ .retraining then s
    else if ok then
      (s.onPort d j fun p => { p with failed := [], rxFailed := none, wire := p.ackNext }).portState d j .up
    else s.portDown d j)

/-! ### Acknowledgement and replay (R341, R342) -/

/-- Flits in the replay buffer: those sent and not acknowledged. -/
def Port.inFlight (p : Port) : Nat := (p.txSeq + 4096 - p.ackNext) % 4096

/-- SEQ q is that of a flit in the replay buffer. -/
def Port.holds (p : Port) (q : Nat) : Bool := decide ((q + 4096 - p.ackNext) % 4096 < p.inFlight)

/-- Of flits in the replay buffer: q was sent before r. -/
def Port.before (p : Port) (q r : Nat) : Bool := decide ((q + 4096 - p.ackNext) % 4096 < (r + 4096 - p.ackNext) % 4096)

/-- The receive credits that a control flit brings replace those of their classes. -/
def Port.credited (p : Port) (f : ControlFlit) : Port :=
  { p with credits := (f.credits.take 4).zipIdx.foldl (fun t c => Sparse.set none t c.2 (some c.1)) p.credits }

/-- Flits that failed once have passed on their replay (R342). -/
def Port.passed (p : Port) (ok : Nat → Bool) : Port :=
  { p with failed := p.failed.filter (fun q => !ok q), replay := satAdd p.replay (p.failed.filter ok).length (2 ^ 32 - 1) }

/-- ACK of a SEQ (R342): the flits up to it leave the replay buffer. -/
def Port.acked (p : Port) (seq : Nat) : Port :=
  if !p.holds seq then p
  else
    let gone (q : Nat) : Bool := !p.before seq q
    let t := { p.passed gone with sent := p.sent.filter fun m => !gone m.1, ackNext := (seq + 1) % 4096 }
    if p.holds p.wire && gone p.wire then { t with wire := (seq + 1) % 4096 } else t

/-- ACK (R342). -/
def execAck (d j : Nat) (f : ControlFlit) (s : State) : Host.Outcome State Fault Refusal :=
  happens (s.onPort d j fun p => (p.credited f).acked (f.seq % 4096))

/-- NAK of a SEQ (R342): the sender is to replay from there; the flits before it have passed. -/
def Port.naked (p : Port) (seq : Nat) : Port :=
  let p := p.passed fun q => p.before q seq
  { p with failed := if p.failed.contains seq then p.failed else p.failed ++ [seq], wire := seq }

/-- NAK (R342): one that names a SEQ which has failed before, after its replay, is a lasting fault. -/
def execNak (d j : Nat) (f : ControlFlit) (s : State) : Host.Outcome State Fault Refusal :=
  let q := f.seq % 4096
  let s := s.onPort d j fun p => p.credited f
  let p := s.port d j
  happens (if p.state ≠ .up ∨ !p.holds q then s
    else if p.failed.contains q && p.wire != q then s.portRetrain d j
    else s.onPort d j fun p => p.naked q)

/-- The replay of a port (R342): what is to be sent again goes out, before any new flit. -/
def State.replayNext (s : State) : Option State :=
  (List.range 8).findSome? fun d => ((s.die d).ports.map Prod.fst).findSome? fun j =>
    let p := s.port d j
    if p.state = .up ∧ p.wire ≠ p.txSeq then some (s.onPort d j fun p => { p with wire := p.txSeq }) else none

/-- The receiver answers: an ACK of the last flit in sequence, or a NAK of the SEQ it expects. -/
def Port.answers (p : Port) (ack : Bool) : Port :=
  { p with control := (ack, if ack then (p.rxSeq + 4095) % 4096 else p.rxSeq) :: p.control, rxGot := 0 }

/-- A data flit arrives (R342): one in sequence that passes CRC is accepted, and acknowledged with the thirty-second; any other is
discarded, and the first such is answered by a NAK. -/
def Port.receives (p : Port) (f : ReceivedFlit) (now : Nat) : Port :=
  if f.good ∧ f.seq % 4096 = p.rxSeq then
    let q := { p with rxSeq := (p.rxSeq + 1) % 4096, rxGot := p.rxGot + 1, rxFailed := none
                      rxSince := if p.rxGot = 0 then now else p.rxSince }
    if q.rxGot < 32 then q else q.answers true
  else if p.rxFailed = some p.rxSeq then p
  else { p with rxFailed := some p.rxSeq }.answers false

/-- CRC_FAILURE (R342): the check of a flit that a port receives. The expected SEQ that fails again on its replay is a lasting
fault. -/
def execCrcFailure (d j : Nat) (f : ReceivedFlit) (s : State) : Host.Outcome State Fault Refusal :=
  let p := s.port d j
  happens (if p.state ≠ .up then s
    else if !f.good ∧ f.seq % 4096 = p.rxSeq ∧ p.rxFailed = some p.rxSeq then s.portRetrain d j
    else s.onPort d j fun p => p.receives f (s.die d).dtb)

/-- A receiver acknowledges at the latest 100 ns after the first flit that it has not acknowledged (R342). -/
def State.acknowledgeNext (s : State) : Option State :=
  (List.range 8).findSome? fun d => ((s.die d).ports.map Prod.fst).findSome? fun j =>
    let p := s.port d j
    if p.state = .up ∧ 0 < p.rxGot ∧ p.rxSince + 100 ≤ (s.die d).dtb then some (s.onPort d j fun p => p.answers true) else none

/-! ### Routing (R19, R20, R345) -/

/-- The coordinate of a package in dimension k. -/
def coord (p k : Nat) : Nat := p / 4 ^ k % 4

/-- The ports toward a package in the first dimension in which it differs: the shorter way first. -/
def ways (src dst : Nat) : List Nat :=
  match ([0, 1, 2] : List Nat).find? fun k => coord src k != coord dst k with
  | some k => if (coord dst k + 4 - coord src k) % 4 = 3 then [2 * k + 1, 2 * k] else [2 * k, 2 * k + 1]
  | none => []

/-- The dies by which a message may leave a die: that die first, then the lowest-numbered (R345). -/
def diesFrom (die : Nat) : List Nat := die :: List.range 8

/-- The die and port by which a message leaves a die for a package: in the direction of its way, that die's port where it is UP, else
that of the lowest-numbered die (R345). -/
def State.routeTo (s : State) (die dst : Nat) : Option (Nat × Nat) :=
  (ways s.fab.pkg dst).findSome? fun j =>
    ((diesFrom die).find? fun d => (s.port d j).state == .up).map fun d => (d, j)

/-- Messages of one class from one die to one package, which keep their order and their path (R345; log 119). -/
def Parcel.together (m x : Parcel) : Bool := m.die == x.die && m.cls == x.cls && m.dst == x.dst

/-- The port that still holds unacknowledged messages of the same path. -/
def State.pathOf (s : State) (m : Parcel) : Option (Nat × Nat) :=
  (List.range 8).findSome? fun d => ((s.die d).ports.find? fun p =>
    (p.2.sent.map Prod.snd ++ p.2.tails.map Prod.fst).any m.together).map fun p => (d, p.1)

/-- The port by which a message leaves now: that of the messages before it, once that is UP, else by its route (R345). -/
def State.portFor (s : State) (m : Parcel) : Option (Nat × Nat) :=
  match s.pathOf m with
  | some p => if (s.port p.1 p.2).state = .up then some p else none
  | none => s.routeTo m.die m.dst

/-- The flits of a message: its fields, taken as 32 bytes, and its data (log 1). -/
def flits : Instr → Nat
  | .write _ _ _ _ _ _ _ bs => (95 + bs.length) / 64
  | .readResponse _ _ bs => (95 + bs.length) / 64
  | .ringPartial _ _ _ _ _ _ vs => (95 + 8 * vs.length) / 64
  | .ringResult _ _ _ _ bs => (95 + bs.length) / 64
  | _ => 1

/-! ### Traffic classes (R346) -/

/-- Flit times since DTB 0: 1606.25 Gb/s carry 6425 flits of 72 bytes in 2304 ns (R339, R340). -/
def flitTime (dtb : Nat) : Nat := dtb * 6425 / 2304

/-- Bellwether flits that the port has admitted in the last 4096 flit times. -/
def Port.belled (p : Port) (now : Nat) : Nat :=
  (p.bell.filter fun x => decide (now < x.1 + 4096)).foldl (fun n x => n + x.2) 0

/-- How many flits of a class a port may send at a flit time: as the replay buffer has room (R342), as the class has receive credits
(R341), and for the bellwether class as the limit of 512 flits in any 4096 flit times admits (R346). -/
def Port.allows (p : Port) (now cls : Nat) : Nat :=
  let room := 512 - p.inFlight
  let room := match Sparse.get none p.credits cls with | some n => min room n | none => room
  if cls = 3 then min room (512 - p.belled now) else room

/-- The round of the bulk classes: 4 : 2 : 1 for classes 2, 1 and 0, message by message (log 104). -/
def bulkRound : List Nat := [2, 2, 1, 2, 0, 2, 1]

/-- The class that a port serves next among those that have a message for it, and its place in the round after that: the
bellwether class first, then the round. -/
def Port.nextClass (p : Port) (cs : List Nat) : Nat × Nat :=
  if cs.contains 3 then (3, p.round)
  else match (List.range 7).find? fun k => cs.contains (bulkRound.getD ((p.round + k) % 7) 0) with
    | some k => (bulkRound.getD ((p.round + k) % 7) 0, (p.round + k + 1) % 7)
    | none => (0, p.round)

/-- A message that can leave by a port now: its place among those to be sent, none where it has begun to leave; the flits that it
has still to send. -/
structure Leaving where
  place : Option Nat
  parcel : Parcel
  die : Nat
  port : Nat
  flits : Nat
  deriving DecidableEq, Repr

/-- The messages that have begun to leave by a port. -/
def State.begun (s : State) (d j : Nat) : List Leaving :=
  (s.port d j).tails.map fun m => ⟨none, m.1, d, j, m.2⟩

/-- The messages that have not: of those that go together the first, where no message of its class has begun at that port, since
the flits of one message are contiguous within its class (R341). -/
def State.unsent (s : State) : List Leaving :=
  s.fab.out.zipIdx.filterMap fun m =>
    if (s.fab.out.take m.2).any m.1.together then none
    else match s.portFor m.1 with
      | some (d, j) =>
          if (s.port d j).tails.any fun x => x.1.cls == m.1.cls then none else some ⟨some m.2, m.1, d, j, flits m.1.msg⟩
      | none => none

/-- All that can leave now: by a port that is UP and has no replay to make, of a class that may send a flit. -/
def State.leaving (s : State) : List Leaving :=
  let now := flitTime (s.die 0).dtb
  let all := ((List.range 8).flatMap fun d => (s.die d).ports.flatMap fun p => s.begun d p.1) ++ s.unsent
  all.filter fun x =>
    let p := s.port x.die x.port
    p.state == .up && p.wire == p.txSeq && decide (0 < p.allows now x.parcel.cls)

/-- A port sends k flits of a message. -/
def Port.sends (p : Port) (now k round : Nat) (x : Leaving) : Port :=
  let m := { x.parcel with since := none }
  let last := (p.txSeq + k + 4095) % 4096
  let rest := x.flits - k
  let others := p.tails.filter fun y => y.1.cls != m.cls
  { p with
    txSeq := (p.txSeq + k) % 4096, wire := (p.txSeq + k) % 4096, round := round
    sent := if rest = 0 then p.sent ++ [(last, m)] else p.sent
    tails := if rest = 0 then others else others ++ [(m, rest)]
    bell := if m.cls = 3 then (now, k) :: p.bell.filter (fun y => decide (now < y.1 + 4096)) else p.bell
    credits := match Sparse.get none p.credits m.cls with
      | some n => Sparse.set none p.credits m.cls (some (n - k))
      | none => p.credits }

/-- A message leaves by its port, as many of its flits as may (R342, R346). -/
def State.launchOn (s : State) (x : Leaving) (round : Nat) : State :=
  let now := flitTime (s.die 0).dtb
  let k := min x.flits ((s.port x.die x.port).allows now x.parcel.cls)
  let s := s.onPort x.die x.port fun p => p.sends now k round x
  match x.place with
  | some i => { s with fab := { s.fab with out := s.fab.out.eraseIdx i } }
  | none => s

/-- The port of the first message that can leave sends, of the class whose turn it is. -/
def State.transmit (s : State) : Option State :=
  match s.leaving with
  | [] => none
  | y :: _ =>
      let here := s.leaving.filter fun x => x.die == y.die && x.port == y.port
      let c := (s.port y.die y.port).nextClass (here.map fun x => x.parcel.cls)
      (here.find? fun x => x.parcel.cls == c.1).map fun x => s.launchOn x c.2

/-- Send what can be sent, at most n times. -/
def State.transmitAll (s : State) : Nat → State
  | 0 => s
  | n + 1 => match s.transmit with | some t => t.transmitAll n | none => s

/-! ### Requests that other packages send here (R341) -/

/-- A message for a home in another package of the domain passes on (R345; log 119). -/
def State.transit (s : State) (pa : Nat) : Bool := paPkg pa != s.fab.pkg && s.fab.domain.contains (paPkg pa)

/-- An answer, from the die of the home. -/
def State.answerFrom (s : State) (pa cls dst : Nat) (m : Instr) : State := s.sendFrom (paDie pa) cls dst m

/-- A home of this package. -/
def State.homeHere (s : State) (pa len : Nat) : Bool :=
  paPkg pa == s.fab.pkg && paSpace pa == 0 && (s.paFault pa).isNone && decide (bits pa 0 36 + len ≤ 2 ^ 36)

/-- READ_REQUEST (R341). -/
def execReadRequest (pa len tag src : Nat) (s : State) : Host.Outcome State Fault Refusal :=
  happens (if s.transit pa then s.answerFrom pa 0 (paPkg pa) (.readRequest pa len tag src)
    else s.answerFrom pa 0 src (if s.homeHere pa len then .readResponse tag 0 (s.homeBytes pa len) else .readResponse tag 1 []))

/-- The status of a write that was a divergent duplicate: the wire names none for it (log 1). -/
def statusDiverged : Nat := 3

/-- A write that another package has sent, performed at its home: a reduction region's page or a core's pool among them. The
status of its answer comes with it. -/
def State.writeHere (s : State) (pa ctx reg va : Nat) (bs : List Byte) : Nat × State :=
  if 2 ^ 60 ≤ pa then
    let r := s.poolArrives ((pa - 2 ^ 60) / 2 ^ 40) ctx (pa % 2 ^ 40) bs
    (if r.1 then 0 else 1, r.2)
  else if !s.homeHere pa bs.length then (1, s)
  else if reg ≠ 0 then
    let r := s.regionWrite ctx reg va pa bs
    (if r.2 then statusDiverged else 0, r.1)
  else (0, s.storeMem (s.key pa) bs)

/-- WRITE (R341). Its answer travels in the class of the write (R346). -/
def execWrite (pa cls tag src ctx reg va : Nat) (bs : List Byte) (s : State) : Host.Outcome State Fault Refusal :=
  happens (if pa < 2 ^ 52 ∧ s.transit pa then s.answerFrom pa (min cls 3) (paPkg pa) (.write pa cls tag src ctx reg va bs)
    else s.orLater (.write pa cls tag src ctx reg va bs) fun s =>
      let r := s.writeHere pa ctx reg va bs
      r.2.answerFrom pa (min cls 3) src (.writeAck tag r.1))

/-- The bytes that an atomic of another package works on: eight, or an element of a grid operation's type (log 1). -/
def atomicWidth (op : Nat) : Nat :=
  if op < 16 then 8 else if op < 32 then typeBytes (op - 16) else if op = 32 then 8
  else if op < 48 then typeBytes (op - 32) else 8

/-- ATOMIC (R341): operations 0 to 9 of R70; by the codes of log 1 10 for CINC, 11 for CWAIT and 12 for its cancel, and from 16
on the updates of the fold unit that R70 does not number. -/
def execAtomic (pa op tag src : Nat) (x y : Word) (s : State) : Host.Outcome State Fault Refusal :=
  let answer (s : State) (status : Nat) (old : Word) : State := s.answerFrom pa 0 src (.atomicResponse tag status old)
  happens (
    if s.transit pa then s.answerFrom pa 0 (paPkg pa) (.atomic pa op tag src x y)
    else if !s.homeHere pa (atomicWidth op) ∨ (12 < op ∧ op < 16) ∨ 64 ≤ op then answer s 1 0
    else if op < 10 then
      let r := s.atomicAt pa op x y
      answer r.2 0 r.1
    else if op = 10 then answer (s.countUp pa x.toNat) 0 0
    else if op = 11 then
      let who := remoteWaiter tag src
      let id := bits y.toNat 0 12
      { s with fab := { s.fab with
        cwaits := s.fab.cwaits ++ [(pa, x.toNat, who)]
        cregions := if id = 0 then s.fab.cregions else s.fab.cregions ++ [(who, id, bits y.toNat 12 12)] } }
    else if op = 12 then
      let who := remoteWaiter y.toNat src
      answer (if s.fab.cwaits.any fun w => w.2.2 == who then { s with fab := s.fab.dropWait who } else s.countUp pa x.toNat) 0 0
    else answer (s.foldRequest pa op x y) 0 0)

/-! ### Answers of other packages (R341, R345, R363) -/

/-- A load or atomic that has already issued meets a status: PROT is taken at the core's next boundary, and its
destination fills with what it held. The entry load of a JTAB faults the JTAB where its target is not known yet (R87; log 54). -/
def State.lateFault (s : State) (k reason : Nat) : State :=
  match s.core.waiting[k]? with
  | none => s
  | some { dst := [.table _], .. } =>
      let s := s.onCore fun c => { c with waiting := c.waiting.eraseIdx k }
      (match s.core.seq.table with
       | some (.asked pc) => s.onSeq fun q => { q with table := some (.failed pc reason) }
       | some .timed => (s.onSeq fun q => { q with table := none }).raiseLate (jtabFault (protTrap reason 0))
       | _ => s)
  | some w =>
      let drop (c : Core) : Dest → Core
        | .g r _ _ => { c with sc := { c.sc with empty := dropNat r c.sc.empty } }
        | .v r _ _ _ _ => { c with vec := { c.vec with empty := dropNat r c.vec.empty } }
        | _ => c
      let s := s.onCore fun c => w.dst.foldl drop { c with waiting := c.waiting.eraseIdx k }
      s.raiseLate (protTrap reason 0)

/-- Forget a message that awaited an answer. -/
def State.answered (s : State) (tag : Nat) : State :=
  { s with fab := { s.fab with pending := s.fab.pending.filter fun p => p.1 != tag } }

/-- The core that awaits an answer. -/
def State.awaiting (s : State) (tag : Nat) : Option Nat := (s.fab.pending.find? fun p => p.1 == tag).map fun p => p.2.1

/-- The reason of a status (R345, R373). -/
def statusReason (status : Nat) : Nat := if status = 2 then 2 else 0

/-- The trap of a CWAIT whose region is FAILED at the home of its counter in another package (R358; log 24). -/
def failedTrap (old : Nat) : TrapInfo :=
  { cause := bits old 0 8, info := fld 4 60 + fld (bits old 16 12) 32 + fld (bits old 8 4) 28, slot := false }

/-- The bytes that an answer brings are in a result. -/
def Hole.fillIn (h : Hole) (bs l : List Byte) : List Byte :=
  l.zipIdx.map fun p =>
    if h.off ≤ p.2 ∧ p.2 < h.off + h.len ∧ p.2 - h.off ∉ h.keep then bs.getD (h.skip + (p.2 - h.off)) 0 else p.1

/-- The answer to a tag is in a result. -/
def Waiting.answered (w : Waiting) (tag : Nat) (bs : List Byte) : Waiting :=
  let fill (l : List Byte) : List Byte := (w.holes.filter fun h => h.tag == tag).foldl (fun l h => h.fillIn bs l) l
  { w with
    dst := match w.dst with
      | .g r v em :: t => .g r (loaded w.signed (fill (leBytes w.size v.toNat))) em :: t
      | .v r off l em e :: t => .v r off (fill l) em e :: t
      | .table v :: t => .table (w64 (leNat (fill (leBytes w.size v.toNat)))) :: t
      | l => l
    holes := w.holes.filter fun h => h.tag != tag }

/-- A sector that is filled uses the bank of its line (R145, R188). -/
def State.fillUse (s : State) (pa : Nat) : State :=
  match s.core.loc.line pa with | some x => s.useBanks 4 8 [s.core.sectorLine x pa / 512] | none => s

/-- An answer arrives at the current core for the result that awaits it; the result lands once it lacks nothing more. A sector
that the answer fills is filled (R189). -/
def State.arrive? (s : State) (tag status : Nat) (bs : List Byte) : State :=
  match s.core.waiting.findIdx? fun w => w.holes.any fun h => h.tag == tag with
  | none => s
  | some k =>
      if status ≠ 0 then s.lateFault k (statusReason status)
      else match s.core.waiting[k]? with
        | some w =>
            let s := (w.holes.filter fun h => h.tag == tag).foldl (fun s h =>
              match h.fill with | some pa => (s.fillSector pa bs).fillUse pa | none => s) s
            s.onCore fun c => Core.landWaiting { c with waiting := setAt c.waiting k (w.answered tag bs) } k
        | none => s

/-- A command whose write was acknowledged (R153), with a fault where the status says so (R345). -/
def Cmd.acked (c : Cmd) (tag status : Nat) : Cmd :=
  if !c.tags.contains tag then c
  else
    let f : Option CmdFault :=
      if status = 0 then none
      else if status = statusDiverged then some { cause := cDiverge, reason := 0 }
      else some { cause := cProt, reason := statusReason status }
    { c with tags := c.tags.filter (· != tag), fault := match c.fault with | some x => some x | none => f }

/-- A signal of a packet that its home has not performed is SIGFAULT; a lost store of ERRSIG is recorded in the slot only (R286,
R345). -/
def State.signalLost (s : State) (p : Nat) : Option Nat → State
  | some idx => s.queueError p 3 idx
  | none => s.onSlot p fun x => { x with errcode := 3 }

/-- What awaits a tag beside results: stores and commands of the current core, the front end's signals and status records, the
crook's writes. -/
def State.settleTag (s : State) (tag status : Nat) : State :=
  let failed : List (Nat × Option Nat) := if status = 0 then []
    else s.fe.slots.flatMap fun x => (x.2.tags.filter fun t => t.1 == tag).map fun t => (x.1, t.2)
  let s := s.onLoc fun l => { l with
    remote := l.remote.filter (· != tag), remoteNt := l.remoteNt.filter (· != tag) }
  let f (l : List Cmd) : List Cmd := l.map fun c => c.acked tag status
  let s := s.onEng fun g => { g with qm := f g.qm, q0 := f g.q0, q1 := f g.q1, qv := f g.qv }
  let s := { s with
    fe := { s.fe with
      kernels := s.fe.kernels.map fun k => { k with tags := k.tags.filter (· != tag) }
      slots := s.fe.slots.map fun x => (x.1, { x.2 with tags := x.2.tags.filter (·.1 != tag) }) }
    crook := { s.crook with tags := s.crook.tags.filter (· != tag) } }
  failed.foldl (fun s x => s.signalLost x.1 x.2) s

/-- Do something at the core that awaits a tag, which is answered. -/
def State.answer? (s : State) (tag : Nat) (f : State → State) : State :=
  match s.awaiting tag with
  | none => s
  | some c => (s.answered tag).asCore c f

/-- An operation goes on that was put off until an answer came: the others are tried again by themselves. -/
def State.resumeReader (s : State) (who : Reader) : State :=
  match who with
  | .event i => if s.asking who then s else s.push [i]
  | .walk c ctx va => s.asCore c fun s => s.backgroundWalk ctx va
  | _ => s

/-- An answer to a read that an operation has sent. It comes too late for a walk that has run for more than 2,000 ns, which is
abandoned (R219). -/
def State.askAnswered (s : State) (a : Ask) (status : Nat) (bs : List Byte) : State :=
  let s := match a.va with
    | some va => if a.since + 2000 < s.now a.who then s.abandon a.who va else
        { s with fab := { s.fab with asks := mapIf (fun x => x.tag == a.tag) (fun x => { x with answer := some (status, bs) }) s.fab.asks } }
    | none => { s with fab := { s.fab with asks := mapIf (fun x => x.tag == a.tag) (fun x => { x with answer := some (status, bs) }) s.fab.asks } }
  s.resumeReader a.who

/-- An answer of another package to a read (R341). -/
def State.readAnswered (s : State) (tag status : Nat) (bs : List Byte) : State :=
  match s.fab.asks.find? fun a => a.tag == tag with
  | some a => (s.answered tag).askAnswered a status bs
  | none => s.answer? tag fun s => (s.arrive? tag status bs).settleTag tag status

/-- READ_RESPONSE (R341). -/
def execReadResponse (tag status : Nat) (bs : List Byte) (s : State) : Host.Outcome State Fault Refusal :=
  happens (s.readAnswered tag status bs)

/-- An answer of another package to an atomic: an old value, the end of an add, or the grant of a CWAIT (R336). One that has
failed faults PROT (R345). -/
def State.atomicAnswered (s : State) (tag status : Nat) (old : Word) : State :=
  s.answer? tag fun s =>
    let added := s.core.loc.remote.contains tag
    let s := s.settleTag tag status
    let prot := protTrap (statusReason status) 0
    let mine := match s.core.sy.cwait with | some w => w.2.2 == tag && s.remote w.1 | none => false
    if mine then
      (if status = 0 then s.onSy fun y => { y with granted := true }
       else (s.onSy fun y => { y with cwait := none }).raiseLate (if status = statusFailed then failedTrap old.toNat else prot))
    else if added && status ≠ 0 && s.core.task.isSome then s.raiseLate prot
    else (s.arrive? tag status (leBytes 8 old.toNat)).tryEnd

/-- ATOMIC_RESPONSE (R341). -/
def execAtomicResponse (tag status : Nat) (old : Word) (s : State) : Host.Outcome State Fault Refusal :=
  happens (s.atomicAnswered tag status old)

/-- WRITE_ACK (R341): a lost scalar or vector store raises UE_CORE (R345). -/
def State.writeAcked (s : State) (tag status : Nat) : State :=
  s.answer? tag fun s =>
    let store := s.core.loc.remote.contains tag || s.core.loc.remoteNt.contains tag
    let s := s.settleTag tag status
    let s := if store && (status == 1 || status == 2) && s.core.task.isSome then
        (if s.core.seq.ext.isSome then s.onTr fun t => { t with ue := true }
         else s.asyncTrap { cause := cUe, slot := false })
      else s
    s.tryEnd

/-- WRITE_ACK (R341). -/
def execWriteAck (tag status : Nat) (s : State) : Host.Outcome State Fault Refusal := happens (s.writeAcked tag status)

/-! ### Messages without a route (R345, R358) -/

/-- The record of a region instance that the ring sequencers hold, by what a message names. -/
def State.heldBy (s : State) (id inst : Nat) : Option Region := s.fab.regions.find? fun r => r.id == id && r.inst == inst

/-- An instance fails here for a cause that arose here (R358). -/
def State.failHeld (s : State) (id inst cause reason : Nat) (tell : Bool) : State :=
  match s.heldBy id inst with
  | some r =>
      (match s.desc r.ctx id with
       | .ok d => s.regionFail d cause reason tell
       | .error e => s.unless e fun s => s.unheld r.ctx id)
  | none => s

/-- Every member has answered an ABORT: the region is IDLE (R359). -/
def State.abortDone (s : State) (r : Region) (d : Desc) : State :=
  if d.members.all fun m => r.acks.contains m then (s.setRegionState d r.inst 0 0 0).unheld r.ctx r.id else s

/-- A member has answered an ABORT. -/
def State.abortAcked (s : State) (id inst pkg : Nat) : State :=
  match s.heldBy id inst with
  | none => s
  | some r =>
      let r := { r with acks := insertNat pkg r.acks }
      let s := s.onHeld r.ctx id fun _ => r
      match s.desc r.ctx id with
      | .ok d => if d.rstate = 5 then s.abortDone r d else s
      | .error e => s.unless e fun s => s.unheld r.ctx id

/-- What becomes of a message that completes with status unreachable. -/
def State.unreachable (s : State) (dst : Nat) (m : Instr) : State :=
  match m with
  | .readRequest _ _ tag src => if src = s.fab.pkg then s.readAnswered tag 2 [] else s.send src (.readResponse tag 2 [])
  | .write _ cls tag src _ _ _ _ => if src = s.fab.pkg then s.writeAcked tag 2 else s.sendIn (min cls 3) src (.writeAck tag 2)
  | .atomic _ _ tag src _ _ => if src = s.fab.pkg then s.atomicAnswered tag 2 0 else s.send src (.atomicResponse tag 2 0)
  | .ringAbort id inst _ => s.abortAcked id inst dst
  | .launchHandOff k _ rec _ _ _ =>
      let s := s.onKernel k fun x => { x with parts := mapIf (fun p => p.1 == dst) (fun p => (p.1, true)) x.parts }
      if rec = 0 then s
      else if (s.kernel k).any fun x => x.state == .checking then s.onKernel k fun x => { x with fails := x.fails ++ [(0, cProt)] }
      else s.failKernel k [(0, cProt)] 0
  | m => match ringOf m with
      | some r => s.failHeld r.1 r.2 cProt 2 true
      | none => s

/-- Message k of those that are held completes with status unreachable, where it has no route. -/
def State.giveUp (s : State) (k : Nat) : Option State :=
  match s.fab.out[k]? with
  | none => none
  | some m =>
      if (s.routeTo m.die m.dst).isSome then none
      else some (({ s with fab := { s.fab with out := s.fab.out.eraseIdx k } }).unreachable m.dst m.msg)

/-- ROUTE_HOLD_TIMEOUT (R345): message k of those that are held. -/
def execRouteHoldTimeout (k : Nat) (s : State) : Host.Outcome State Fault Refusal :=
  happens ((s.byItself .crook fun s => s.giveUp k).getD s)

/-- Since when each message that has no route has had none. -/
def State.holdTimes (s : State) : State :=
  let now := (s.die 0).dtb
  { s with fab := { s.fab with out := s.fab.out.map fun m =>
      if (s.routeTo m.die m.dst).isSome then { m with since := none }
      else { m with since := some (m.since.getD now) } } }

/-- Times of held messages are noted, and one that has been held for 10 ms is given up (R345). -/
def State.heldNext (s : State) : Option State :=
  let t := s.holdTimes
  if t.fab.out != s.fab.out then some t
  else match s.fab.out.findIdx? fun m => match m.since with | some n => decide (n + 10000000 ≤ (s.die 0).dtb) | none => false with
    | some k => s.byItself .crook fun s => s.giveUp k
    | none => none

/-- The operation that an access of host memory is made for. -/
def hostReader (c : Nat) : HostAccess → Option Reader
  | .result _ => none
  | .command tok => some (.command c tok)
  | .segment h => some (.segment c h)
  | .packet p idx => some (.slot p idx)
  | .kernel k => some (.kernel k)

/-- COMPLETION_TIMEOUT (R363): a completion with UR or CA status, or none for 50 ms: the access of host memory faults PROT with
reason host. A result that core c awaits does so at once, another access as its operation makes it. -/
def execCompletionTimeout (c : Nat) (x : HostAccess) (s : State) : Host.Outcome State Fault Refusal :=
  happens (match x with
    | .result k => s.asCore c fun s =>
        (match s.core.waiting[k]? with | some w => if w.host then s.lateFault k 3 else s | none => s)
    | x => match hostReader c x with
        | some who => { s with host := { s.host with failed := who :: s.host.failed } }
        | none => s)

/-! ### The domain time base (R22, R224, R396) -/

/-- Cached translations of a die, those of handles and those that its walkers hold are dropped (R224). -/
def State.dropXlations (s : State) (d : Nat) : State :=
  let f (l : List Cmd) : List Cmd := l.map fun c => { c with pages := [], prev := [] }
  (s.onDie d fun x => { x with tlb := [] }).onDieCores d fun c =>
    { c with
      loc := { c.loc with tlb := [], victims := [] }
      st := { c.st with h := c.st.h.map fun p => (p.1, { p.2 with tr := none }) }
      eng := { c.eng with qm := f c.eng.qm, q0 := f c.eng.q0, q1 := f c.eng.q1, qv := f c.eng.qv } }

/-- A message that brings the reference time t to die d. -/
def State.synchronise (s : State) (d t : Nat) : State :=
  let x := s.die d
  if !x.set then s.onDie d fun x => { x with dtb := t, set := true, good := 0, slew := 0 }
  else
    let dev : Int := (x.dtb : Int) - t
    let s := s.onDie d fun x => { x with slew := -dev }
    if dev.natAbs ≤ 20 then
      s.onDie d fun x => { x with good := min 2 (x.good + 1), lease0 := x.lease0 && decide (x.good + 1 < 2) }
    else
      let s := s.onDie d fun x => { x with good := 0, lease0 := true }
      if dev.natAbs ≤ 100 then s.onDie d fun x => { x with skew := satAdd x.skew 1 (2 ^ 32 - 1) }
      else if s.ready? then
        (s.dropXlations d).onDieCores d fun c =>
          if c.task.isSome then { c with tr := { c.tr with skew := some dev } } else c
      else s.dropXlations d

/-- The time master: the package of the lowest number (R396). -/
def State.timeMaster (s : State) : Bool := s.fab.domain.all fun p => decide (s.fab.pkg ≤ p)

/-- DTB_SYNCHRONISATION (R396): the hop delay that the receiving port measured at training is taken into account, and the hops are
counted. The time master's D0 is the reference, which no message moves. -/
def execDtbSynchronisation (d : Nat) (m : SyncMessage) (s : State) : Host.Outcome State Fault Refusal :=
  happens (if d = 0 ∧ s.timeMaster then s
    else (s.onDie d fun x => { x with hops := m.hops + 1 }).synchronise d (m.dtb + (s.port d m.port).delay))

/-- Die d sends its DTB: to the peers of its ports that are UP, and, as D0, to the other dies of the package. -/
def State.sendSync (s : State) (d : Nat) : State :=
  let x := s.die d
  let s := (List.range 6).foldl (fun s j =>
    let p := s.port d j
    if p.state = .up then s.sendFrom d 3 p.peerPkg (.dtbSynchronisation p.peerDie ⟨p.peerPort, x.dtb, x.hops⟩) else s) s
  if d = 0 then
    (List.range 7).foldl (fun s k => (s.onDie (k + 1) fun y => { y with hops := x.hops }).synchronise (k + 1) x.dtb) s
  else s

/-- SYNC_RESEND (R396). -/
def execSyncResend (d : Nat) (s : State) : Host.Outcome State Fault Refusal :=
  happens (if (s.die d).set then s.sendSync d else s)

/-- One tick of a die's DTB: what is to be slewed is corrected by 1 ns in every 100. -/
def Die.tick (x : Die) : Die :=
  let edge := x.phase = 99
  let x := { x with phase := if edge then 0 else x.phase + 1 }
  if edge ∧ 0 < x.slew then { x with dtb := (x.dtb + 2) % 2 ^ 64, slew := x.slew - 1 }
  else if edge ∧ x.slew < 0 then { x with slew := x.slew + 1 }
  else { x with dtb := (x.dtb + 1) % 2 ^ 64 }

end Sys2Proof.Machine
end

