-- ==== Sys2Proof/Machine/Ring.lean ====
section
/-! DEFINITION. The ring sequencers: chunks, partials, results, and the states of a region instance (R47, R244, R248,
R350 to R361). -/

namespace Sys2Proof.Machine

/-! ### Values as they travel (R47, R355) -/

/-- The format in which data are carried between members: FP32 for 16 bits or fewer, else their own; none for INT32. -/
def carryFmt (f : Nat) : Option Fmt := if f = 2 then none else if f = 7 then some fp64 else some fp32

/-- A tile's codes as carried codes. -/
def carryOf (f : Nat) (codes : List Nat) : List Nat :=
  match carryFmt f with
  | none => codes
  | some g => codes.map fun c => ((elemNum f 0 c).rne g).1

/-- The value of a carried code. -/
def carryNum (f c : Nat) : Num := match carryFmt f with | some g => g.decode c | none => Num.ofInt (signedOf 32 c)

/-- One addition of the ring, rounded in the carried format; INT32 wraps. -/
def carryAdd (f a b : Nat) : Nat :=
  match carryFmt f with
  | some g => (((g.decode a).add (g.decode b)).1.rne g).1
  | none => (a + b) % 2 ^ 32

/-- One addition of vector entries, in the checksum format. -/
def entryAdd (f a b : Nat) : Nat :=
  match fmtSum f with
  | some g => (((g.decode a).add (g.decode b)).1.rne g).1
  | none => (a + b) % 2 ^ (8 * fmtEntry f)

/-- A carried tile: TAG, vectors, whether dense, and its carried codes of the carried rows; in sparse form the pairs of
index and code (R355). -/
structure Carried where
  tag : Nat
  vec : List Nat
  dense : Bool
  codes : List Nat
  pairs : List (Nat × Nat)

/-- The words of a partial message of tile k: on the wire the index of an element counts the tiles of the chunk (R355). -/
def Carried.words (x : Carried) (k : Nat) : List Word :=
  (x.tag :: x.vec ++ (if x.dense then x.codes else x.pairs.flatMap fun p => [4096 * k + p.1, p.2])).map w64

/-- The carried tile of a partial message of tile k. -/
def Carried.ofWords (k : Nat) (dense : Bool) (ws : List Word) : Carried :=
  let ns := ws.map BitVec.toNat
  let body := ns.drop 257
  { tag := ns.headD 0, vec := (ns.drop 1).take 256, dense := dense
    codes := if dense then body else []
    pairs := if dense then [] else (Sys2Proof.Machine.pairs body).map fun p => (p.1 - 4096 * k, p.2) }

/-- A dense list as the pairs of its nonzero elements. -/
def sparsified (f : Nat) (codes : List Nat) : List (Nat × Nat) :=
  codes.zipIdx.filterMap fun p => if (carryNum f p.1).isZero then none else some (p.2, p.1)

/-- Pairs as a dense list of n: an element without a pair is +0. -/
def densified (n : Nat) (ps : List (Nat × Nat)) : List Nat :=
  Sparse.read 0 (ps.foldl (fun (t : Sparse Nat) p => Sparse.set 0 t p.1 p.2) []) 0 n

/-- Two sorted lists of pairs merged, colliding indices added in ring order. -/
def mergePairs (f : Nat) (a b : List (Nat × Nat)) : List (Nat × Nat) :=
  let ks := unionNat' (a.map Prod.fst) (b.map Prod.fst)
  ks.filterMap fun k =>
    match a.find? fun p => p.1 == k, b.find? fun p => p.1 == k with
    | some x, some y => some (k, carryAdd f x.2 y.2)
    | some x, none => some x
    | none, some y => some y
    | none, none => none
where
  /-- Rising lists joined. -/
  unionNat' (a b : List Nat) : List Nat := b.foldl (fun l n => insertNat n l) a

/-! ### Staging reads (R237, R244, R248, R352) -/

/-- The KIND 7 entry of a comparison that found a mismatch, and its counter. -/
def State.logRing (s : State) (d : Desc) (chunk tile step kind i j : Nat) : State :=
  let next := d.members.getD ((d.mypos + 1) % d.nm) 0
  let port := (ways s.fab.pkg next).headD 0
  let die := chunk % 8
  (s.count die kind).logWord die (fld 7 60 + fld port 54 + fld d.id 42 + fld (tile % 64) 36 + fld chunk 24 + fld step 20 +
    fld i 14 + fld j 8 + fld kind 5)

/-- A failure of a sequencer's step: cause and reason. -/
abbrev Ring (α : Type) := Except (Nat × Nat × State) (α × State)

/-- A fault of a region object fails the instance. -/
def ringFault {α : Type} (s : State) (e : CmdFault) : Ring α := .error (e.cause, e.reason, s)

/-- What a staging read gives: the carried tile, and its stored form as checked, with CORR and NF. -/
structure Staged where
  codes : List Nat
  vec : List Nat
  head : Header
  corr : Bool
  nf : Bool

/-- Rows from TROWS on are not carried: they count as zero. -/
def Desc.rowsOnly (d : Desc) (codes : List Nat) : List Nat :=
  codes.take (64 * d.trows) ++ List.replicate (4096 - 64 * d.trows) 0

/-- Read staging tile `tile` of a chunk with a stored comparison; TOTAL comes as the comparison regenerates it. Where the region's
results are left open nothing is judged (R6). -/
def State.stagingRead (s : State) (d : Desc) (chunk tile step : Nat) : Ring Staged :=
  match s.regionRead d (d.staging (chunk * d.tpc + tile)) d.size with
  | .error e => ringFault s e
  | .ok bs =>
      let codes := d.rowsOnly (unpackCodes d.fmt (bs.take (fmtData d.fmt)))
      let vec := vecOf d.fmt ((bs.drop (fmtData d.fmt)).take d.vec)
      let hb := bs.drop (fmtData d.fmt + d.vec)
      let h := Header.ofBytes hb
      if s.leftOpen d then .ok ({ codes := codes, vec := vec, head := h, corr := false, nf := false }, s)
      else if h.fmt ≠ d.fmt then .error (cOpfmt, 0, s)
      else
        let v := verifyTile d.fmt 0 d.tol [] codes vec h.total (headerDirty hb)
        let s := if v.kind = 0 then s else s.logRing d chunk tile step v.kind v.i v.j
        if v.kind = 3 then .error (cTile, 3, s)
        else .ok ({ codes := v.codes, vec := v.vec, head := { h with total := v.total }, corr := v.kind != 0, nf := v.nf }, s)

/-! ### Results (R353, R356, R357) -/

/-- The carried tile after the final check, with CORR and NF: a drain comparison in which ZK is 64·N (R244). -/
def State.finalCheck (s : State) (d : Desc) (chunk tile : Nat) (x : Carried) : Ring (List Nat × Bool × Bool) :=
  let acc := if d.fmt = 2 then 0 else if d.fmt = 7 then 2 else 1
  let jd0 := drainJudge acc (64 * d.nm) d.tol
  let jd := match fmtSum d.fmt with | some g => { jd0 with cf := g } | none => jd0
  let full := x.codes ++ List.replicate (4096 - x.codes.length) 0
  let xs := full.map (carryNum d.fmt)
  let r := jd.compare xs x.vec
  let fixed (i j : Nat) (e : Num) : List Nat :=
    let y := ((xs.getD (64 * i + j) (.fin false 0 0)).add e).1
    setAt full (64 * i + j) (match carryFmt d.fmt with | some g => (y.rne g).1 | none => wrapTo 32 y.int)
  let log (kind i j : Nat) : State := s.logRing d chunk tile 2 kind i j
  if s.leftOpen d then .ok ((full, false, false), s)
  else match r.1 with
  | .pass => .ok ((full, false, r.2), s)
  | .correct i j e =>
      let ys := fixed i j e
      if jd.settled (ys.map (carryNum d.fmt)) x.vec i j then .ok ((ys, true, r.2), log 1 i j)
      else .error (cTile, 3, log 3 i j)
  | .regenRow i => .ok ((full, true, r.2), log 2 i 0)
  | .regenCol j => .ok ((full, true, r.2), log 2 0 j)
  | .bad i j _ => .error (cTile, 3, log 3 i j)

/-- The bytes of a result tile: rounded to FMT, its vectors regenerated. -/
def Desc.resultBytes (d : Desc) (inst : Nat) (tag : Nat) (codes : List Nat) (corr nf : Bool) : List Byte :=
  let out := d.rowsOnly (codes.map fun c =>
    match typeFmt d.fmt, carryFmt d.fmt with
    | some g, some h => ((h.decode c).rne g).1
    | _, _ => c)
  let xs := tileNums d.fmt 0 [] out
  packCodes d.fmt out ++ regenerated d.fmt xs
    { total := 0, row := bits tag 8 8, col := bits tag 0 8, fmt := d.fmt, corr := corr, nf := nf, nadd := d.nm, gen := inst }

/-- A result tile is contributed to NEXTREG as its staging tile t (R357). One that is left open leaves the results of that region
open too, and raises nothing there (R6). -/
def State.contributeNext (s : State) (d : Desc) (t : Nat) (wild : Bool) (bs : List Byte) : Ring Unit :=
  if d.next = 0 then .ok ((), s)
  else match s.desc d.ctx d.next with
    | .error e => ringFault s e
    | .ok n =>
        if n.fmt ≠ d.fmt ∨ n.trows ≠ d.trows then .error (cOpfmt, 0, s)
        else if n.nchunk * n.tpc ≤ t then .error (cProt, 0, s)
        else match s.mayWrite n (n.staging t) n.size with
          | .error e => ringFault s e
          | .ok () =>
              match (if wild then s.ringOpen n.ctx n.id else s).stagingWrite n t 0 bs with
              | .ok r => .ok ((), r.1)
              | .error e => ringFault s e

/-- Write result tile t: its bytes, its contribution to NEXTREG, then its counter; a fault leaves the counter as it was
(R353, R357, R358). A tile that is left open takes free bytes and its counter a free value (R348, R349, R356; log 8). -/
def State.writeResultAs (s : State) (d : Desc) (t : Nat) (wild : Bool) (bs : List Byte) : Ring Unit :=
  let r := if wild then s.drawBytes bs.length else (bs, s)
  let s := r.2
  let bs := r.1
  match s.regionStore d (d.result t) bs with
  | .error e => ringFault s e
  | .ok s =>
      match s.peek d.ctx (d.counter t) with
      | .error e => ringFault s e
      | .ok x =>
          if !(s.regionLeaf d.id x.1 x.2 && leafR x.2 && leafW x.2) then .error (cProt, 0, s)
          else match s.contributeNext d t wild bs with
            | .error e => .error e
            | .ok r =>
                if wild then
                  let n := r.2.drawBytes 8
                  .ok ((), n.2.storeMem x.1 n.1)
                else .ok ((), r.2.countUp x.1 1)

/-- A result tile of a region: left open where the region was stored to while software must not (R348, R349). -/
def State.writeResult (s : State) (d : Desc) (t : Nat) (bs : List Byte) : Ring Unit :=
  s.writeResultAs d t (s.leftOpen d) bs

/-! ### The states of an instance (R353, R361) -/

/-- Every member has reported DONE for the instance: IDLE, or ARMED again where one start is pending. -/
def State.allDone (s : State) (d : Desc) (r : Region) : State :=
  if !(d.members.all fun m => r.done.contains m) then s
  else if d.rstate = 2 then (s.setRegionState d r.inst 0 0 0).laidDown r
  else if d.rstate = 3 then s.armRegion { d with inst := r.inst } (r.next.getD r.kern)
  else s

/-- What this member has still to do for the instance: chunks to pass, results to write. -/
def Desc.localDone (d : Desc) (r : Region) : Bool :=
  let last (c : Nat) : Nat := (c % d.nm + d.nm - 1) % d.nm
  (List.range d.nchunk).all fun c =>
    r.chunks.contains c &&
      (d.mode == 2 || (d.mode == 1 && d.mypos != last c) ||
        (List.range d.tpc).all fun k => r.results.contains (c, k))

/-- The member is locally done: its masks are cleared, and DONE goes to every member (R353). -/
def State.doneHere (s : State) (d : Desc) : State :=
  match s.held d.ctx d.id with
  | none => s
  | some r =>
      if d.rstate != 1 || !d.localDone r then s
      else
        let s := (List.range d.nchunk).foldl (fun s c => tryState s (s.foldStore d (d.mask c) (leBytes 8 0))) s
        let s := s.setRegionState d r.inst 2 0 0
        let r := { r with done := insertNat s.fab.pkg r.done }
        let s := (s.onHeld d.ctx d.id fun _ => r).sendMembers d (.done d.id r.inst s.fab.pkg)
        s.allDone { d with rstate := 2 } r

/-- A step of the sequencer that met a fault fails the instance (R358). -/
def ringTry (d : Desc) (x : Ring Unit) : State :=
  match x with
  | .ok r => r.2.doneHere d
  | .error e => e.2.2.regionFail d e.1 e.2.1 true

/-- Note a chunk that has passed, and a result that is written. -/
def State.passed (s : State) (d : Desc) (c : Nat) : State :=
  s.onHeld d.ctx d.id fun r => { r with chunks := insertNat c r.chunks }
def State.wrote (s : State) (d : Desc) (c k : Nat) : State :=
  s.onHeld d.ctx d.id fun r => { r with results := if r.results.contains (c, k) then r.results else r.results ++ [(c, k)] }

/-! ### Chunks (R352, R353, R355, R356) -/

/-- The tiles of a chunk, one after another. -/
def ringTiles {α : Type} (n : Nat) (s : State) (f : State → Nat → Ring α) : Ring (List α) :=
  (List.range n).foldlM (m := Except (Nat × Nat × State)) (fun (p : List α × State) k => (f p.2 k).map fun q => (p.1 ++ [q.1], q.2)) ([], s)

/-- A stream's form after this member's pairs: dense once the pairs are too many. -/
def Desc.streamDense (d : Desc) (n : Nat) : Bool :=
  !d.sparse || decide (d.dthr * 64 * d.trows * d.tpc < 256 * n) || d.dthr == 0

/-- Send the partials of a chunk to the next member, from the die on which the chunk runs (R352). -/
def State.sendPartials (s : State) (d : Desc) (inst c hop : Nat) (xs : List Carried) : State :=
  let next := d.members.getD ((d.mypos + 1) % d.nm) 0
  xs.zipIdx.foldl (fun s p => s.sendFrom (c % 8) d.tc next (.ringPartial d.id inst c p.2 hop p.1.dense (p.1.words p.2))) s

/-- The carried rows of a staged tile. -/
def Desc.carried (d : Desc) (x : Staged) : List Nat := (carryOf d.fmt x.codes).take (64 * d.trows)

/-- Chunk c starts at its first member. -/
def State.ringStart (s : State) (d : Desc) (inst c : Nat) : Ring Unit :=
  (ringTiles d.tpc s fun s k => s.stagingRead d c k 0).map fun r =>
    let n := (r.1.map fun x => (sparsified d.fmt (d.carried x)).length).foldl (· + ·) 0
    let dense := d.streamDense n
    let xs : List Carried := r.1.map fun x =>
      { tag := fld x.head.row 8 + x.head.col, vec := x.vec, dense := dense
        codes := if dense then d.carried x else [], pairs := if dense then [] else sparsified d.fmt (d.carried x) }
    ((), (r.2.sendPartials d inst c 1 xs).passed d c)

/-- One tile of a chunk at a later member: the incoming partial and this member's tile. -/
def Desc.addTile (d : Desc) (x : Carried) (y : Staged) : Carried :=
  let mine := d.carried y
  let vec := (x.vec.zip y.vec).map fun p => entryAdd d.fmt p.1 p.2
  if x.dense then { x with vec := vec, codes := (x.codes.zip mine).map fun p => carryAdd d.fmt p.1 p.2 }
  else { x with vec := vec, pairs := mergePairs d.fmt x.pairs (sparsified d.fmt mine) }

/-- The dense form of a carried tile. -/
def Desc.dense (d : Desc) (x : Carried) : Carried :=
  if x.dense then x else { x with dense := true, codes := densified (64 * d.trows) x.pairs, pairs := [] }

/-- The last member of a chunk finishes it: check, rounding, the result, and in MODE 0 the tile goes on. -/
def State.ringFinish (s : State) (d : Desc) (inst c : Nat) (xs : List (Carried × Staged)) : Ring Unit :=
  let next := d.members.getD ((d.mypos + 1) % d.nm) 0
  (xs.zipIdx.foldlM (m := Except (Nat × Nat × State)) (fun (q : Unit × State) p =>
    let x := d.dense p.1.1
    match q.2.finalCheck d c p.2 x with
    | .error e => .error e
    | .ok r =>
        let bs := d.resultBytes inst x.tag r.1.1 (r.1.2.1 || p.1.2.corr) (r.1.2.2 || p.1.2.nf)
        match r.2.writeResult d (c * d.tpc + p.2) bs with
        | .error e => .error e
        | .ok t =>
            let s := t.2.wrote d c p.2
            .ok ((), if d.mode = 0 then s.sendFrom (c % 8) d.tc next (.ringResult d.id inst c p.2 bs) else s)) ((), s)).map fun q =>
    ((), q.2.passed d c)

/-- Chunk c at a later member: its partials added to this member's tiles, and forwarded or finished. -/
def State.ringStep (s : State) (d : Desc) (inst c hop : Nat) (xs : List Carried) : Ring Unit :=
  match ringTiles d.tpc s fun s k => s.stagingRead d c k 1 with
  | .error e => .error e
  | .ok r =>
      let ys := (xs.zip r.1).map fun p => d.addTile p.1 p.2
      if hop + 1 = d.nm then r.2.ringFinish d inst c (ys.zip r.1)
      else
        let n := (ys.map fun x => x.pairs.length).foldl (· + ·) 0
        let ys := if d.streamDense n then ys.map d.dense else ys
        .ok ((), (r.2.sendPartials d inst c (hop + 1) ys).passed d c)

/-- MODE 2: tiles that this instance has delivered here so far are noted as (slot, 2·tile), or (slot, 2·tile + 1) where
they came from another package. A tile that comes again has a second sender, but where both came from this package
(R356). -/
def State.secondSender (s : State) (d : Desc) (slot tile : Nat) (here : Bool) : Bool :=
  match s.held d.ctx d.id with
  | some r => r.results.contains (slot, 2 * tile + 1) || (!here && r.results.contains (slot, 2 * tile))
  | none => false

/-- MODE 2: a tile delivered here, from this package or another: GEN := INST, NADD := 1; from a second sender it leaves
the result tile open. -/
def State.haloResult (s : State) (d : Desc) (inst slot tile : Nat) (here : Bool) (bs : List Byte) : Ring Unit :=
  let t := slot * d.tpc + tile
  if d.nchunk * d.tpc ≤ t then .error (cProt, 0, s)
  else
    let h := Header.ofBytes (bs.drop (fmtData d.fmt + d.vec))
    let out := bs.take (fmtData d.fmt + d.vec) ++ ({ h with gen := inst, nadd := 1 } : Header).bytes
    (s.writeResultAs d t (s.secondSender d slot tile here || s.leftOpen d) out).map fun r =>
      ((), r.2.wrote d slot (2 * tile + if here then 0 else 1))

/-- MODE 2: chunk c goes to its destination (R356). -/
def State.ringHalo (s : State) (d : Desc) (inst c : Nat) : Ring Unit :=
  let dst := d.hdest.getD c 0
  let slot := d.hslot.getD c 0
  ((List.range d.tpc).foldlM (m := Except (Nat × Nat × State)) (fun (q : Unit × State) k =>
    match q.2.stagingRead d c k 0 with
    | .error e => .error e
    | .ok r =>
        let bs := packCodes d.fmt r.1.codes ++ vecBytes d.fmt r.1.vec ++
          ({ r.1.head with corr := r.1.head.corr || r.1.corr, nf := r.1.head.nf || r.1.nf } : Header).bytes
        if dst = s.fab.pkg then r.2.haloResult d inst slot k true bs
        else .ok ((), r.2.sendFrom (c % 8) d.tc dst (.ringResult d.id inst slot k bs))) ((), s)).map fun q => ((), q.2.passed d c)

/-- Every bit of a chunk's mask is set. -/
def State.maskFull (s : State) (d : Desc) (c : Nat) : Bool :=
  match s.maskOf d c with | .ok m => m % 2 ^ d.tpc == 2 ^ d.tpc - 1 | .error _ => false

/-- The region with its descriptor, where it is ARMED. -/
def State.armedRegion (s : State) (r : Region) : Option Desc :=
  match s.desc r.ctx r.id with | .ok d => if d.rstate = 1 then some d else none | .error _ => none

/-- Chunk c may launch here now. -/
def State.mayLaunch (s : State) (d : Desc) (r : Region) (c : Nat) : Bool :=
  decide (c < d.nchunk) && !r.chunks.contains c && (d.mode == 2 || d.mypos == c % d.nm) && s.maskFull d c

/-- Launch chunk c of a region. -/
def State.launchChunk (s : State) (r : Region) (c : Nat) : Option State :=
  match s.armedRegion r with
  | none => none
  | some d =>
      if s.mayLaunch d r c then
        some (ringTry d (if d.mode = 2 then s.ringHalo d r.inst c else s.ringStart d r.inst c))
      else none

/-- CHUNK_LAUNCH (R352). -/
def execChunkLaunch (id chunk : Nat) (s : State) : Host.Outcome State Fault Refusal :=
  happens (match s.fab.regions.find? fun r => r.id == id with
    | some r => (s.byItself (.region r.ctx id) fun s => s.launchChunk r chunk).getD s
    | none => s)

/-! ### Messages of the ring (R352, R353, R358 to R361) -/

/-- Instances lost in a reset are answered FAIL, to every package of the domain (R358; log 1). -/
def State.refuseRing (s : State) (id inst : Nat) (armed : Bool) : Option State :=
  let lost := s.fab.lost.contains (id, inst)
  let seen := Sparse.get none s.fab.refused id
  let newer := armed && seen.isSome && seen != some inst
  let cold := s.fab.coldLost && !s.fab.known.contains id && !(s.fab.regions.any fun r => r.id == id)
  if cold && newer then none
  else if lost || cold then
    let s := { s with fab := { s.fab with refused := Sparse.set none s.fab.refused id (some inst) } }
    some ((s.fab.domain.filter (· != s.fab.pkg)).foldl
      (fun s p => s.send p (.fail id inst s.fab.pkg cProt 5)) s)
  else none

/-- After a cold reset an ARMED message for a newer instance ends that answer (R358). -/
def State.ringKnown (s : State) (id : Nat) : State :=
  if s.fab.coldLost then { s with fab := { s.fab with known := insertNat id s.fab.known } } else s

/-- Park a message until the member is ARMED in its instance. -/
def State.park (s : State) (m : Instr) : State := { s with fab := { s.fab with parked := s.fab.parked ++ [m] } }

/-- An instance of a region is over here. -/
def State.isPast (s : State) (id inst : Nat) : Bool := s.fab.past.any fun r => r.id == id && r.inst == inst

/-- RING_PARTIAL (R352): it waits in the sequencer's buffer until its chunk can be added here; one of an instance that is over is
discarded. -/
def execRingPartial (id inst chunk tile hop : Nat) (dense : Bool) (vals : List Word) (s : State) :
    Host.Outcome State Fault Refusal :=
  happens ((s.refuseRing id inst false).getD
    (if s.isPast id inst then s else s.park (.ringPartial id inst chunk tile hop dense vals)))

/-- RING_RESULT (R353). -/
def execRingResult (id inst chunk tile : Nat) (bs : List Byte) (s : State) : Host.Outcome State Fault Refusal :=
  happens ((s.refuseRing id inst false).getD (s.park (.ringResult id inst chunk tile bs)))

/-- ARMED (R360). -/
def execArmed (id inst _pkg : Nat) (s : State) : Host.Outcome State Fault Refusal :=
  happens ((s.refuseRing id inst true).getD (s.ringKnown id))

/-- DONE (R361): of an instance that is not held yet it counts once that is armed. -/
def execDone (id inst pkg : Nat) (s : State) : Host.Outcome State Fault Refusal :=
  happens (s.orLater (.done id inst pkg) fun s => (s.refuseRing id inst false).getD (match s.heldBy id inst with
    | none =>
        if s.isPast id inst then s
        else { s with fab := { s.fab with early := s.fab.early ++ [(id, inst, pkg)] } }
    | some r =>
        let r := { r with done := insertNat pkg r.done }
        let s := s.onHeld r.ctx id fun _ => r
        match s.desc r.ctx id with
        | .ok d => s.allDone d r
        | .error e => s.unless e fun s => s))

/-- FAIL (R358). -/
def execFail (id inst pkg cause reason : Nat) (s : State) : Host.Outcome State Fault Refusal :=
  happens (s.orLater (.fail id inst pkg cause reason) fun s => s.failHeld id inst cause reason false)

/-- The context in which a region id is a region here. -/
def State.regionCtx (s : State) (id : Nat) : Option Nat :=
  match s.fab.regions.find? fun r => r.id == id with
  | some r => some r.ctx
  | none => (s.crook.ctx.find? fun p => p.2.state == .live && (match s.desc p.1 id with | .ok _ => true | .error _ => false)).map
      Prod.fst

/-- An instance ends here by an ABORT (R359): its partials are discarded, masks and records cleared, and the region is IDLE with
CAUSE 0, whether it was held, over, or not armed yet. One that is in a later instance already keeps that. -/
def State.abortHere (s : State) (id inst : Nat) : State :=
  let s := s.unpark id inst
  match s.regionCtx id with
  | none => s
  | some ctx =>
      match s.desc ctx id with
      | .error e => s.unless e fun s => s.unheld ctx id
      | .ok d =>
          let held := s.held ctx id
          let now := match held with | some r => r.inst | none => d.inst
          if now = inst ∨ (held.isNone ∧ (now + 1) % 256 = inst) then
            ((s.clearRegion d).setRegionState d now 0 0 0).unheld ctx id
          else s

/-- RING_ABORT (R359), answered by ABORT-ACK. -/
def execRingAbort (id inst pkg : Nat) (s : State) : Host.Outcome State Fault Refusal :=
  happens (s.orLater (.ringAbort id inst pkg) fun s => (s.abortHere id inst).send pkg (.abortAck id inst s.fab.pkg))

/-- ABORT_ACK (R359). -/
def execAbortAck (id inst pkg : Nat) (s : State) : Host.Outcome State Fault Refusal :=
  happens (s.orLater (.abortAck id inst pkg) fun s => s.abortAcked id inst pkg)

/-- The partials of a chunk that have arrived, in tile order. -/
def State.partials (s : State) (id inst c : Nat) : List (Nat × Nat × Carried) :=
  s.fab.parked.filterMap fun m => match m with
    | .ringPartial i n ch k hop dense vs => if i = id ∧ n = inst ∧ ch = c then some (k, hop, Carried.ofWords k dense vs) else none
    | _ => none

/-- The partials of one chunk leave the buffer. -/
def State.takePartials (s : State) (id inst c : Nat) : State :=
  { s with fab := { s.fab with parked := s.fab.parked.filter fun m => match m with
      | .ringPartial i n ch _ _ _ _ => !(i == id && n == inst && ch == c)
      | _ => true } }

/-- A chunk whose partials have all arrived, and whose mask is full here, is added. -/
def State.addChunk (s : State) (r : Region) (d : Desc) (c : Nat) : Option State :=
  let ps := s.partials r.id r.inst c
  let xs := (List.range d.tpc).filterMap fun k => (ps.find? fun p => p.1 == k).map fun p => p.2
  if xs.length < d.tpc ∨ d.tpc = 0 ∨ d.nchunk ≤ c ∨ r.chunks.contains c ∨ !s.maskFull d c then none
  else
    let t := s.takePartials r.id r.inst c
    some (ringTry d (t.ringStep d r.inst c ((xs.head?.map Prod.fst).getD 1) (xs.map Prod.snd)))

/-- A result message is for this instance, or in MODE 2 for one before it (R356). -/
def Region.takes (r : Region) (d : Desc) (inst : Nat) : Bool :=
  if d.mode = 2 then decide ((r.inst + 256 - inst % 256) % 256 < 128) else inst == r.inst

/-- A result tile that has arrived is written, counted and, in MODE 0, sent on (R353). -/
def State.takeResult (s : State) (r : Region) (d : Desc) : Option State :=
  match s.fab.parked.find? fun m => match m with | .ringResult i n _ _ _ => i == r.id && r.takes d n | _ => false with
  | some (.ringResult i n c k bs) =>
      let parked := s.fab.parked.erase (.ringResult i n c k bs)
      let t := { s with fab := { s.fab with parked := parked } }
      if d.mode = 2 then some (ringTry d (t.haloResult d n c k false bs))
      else
        let x := match t.writeResult d (c * d.tpc + k) bs with
          | .error e => .error e
          | .ok q =>
              let s := q.2.wrote d c k
              let next := d.members.getD ((d.mypos + 1) % d.nm) 0
              let last := (c % d.nm + d.nm - 2) % d.nm
              .ok ((), if d.mypos = last then s else s.sendFrom (c % 8) d.tc next (.ringResult i n c k bs))
        some (ringTry d x)
  | _ => none

/-- Table entries of another package that a region's objects need are asked for before its sequencers go on (R190). -/
def State.regionReady (s : State) (r : Region) (f : State → Option State) : Option State :=
  s.byItself (.region r.ctx r.id) fun s =>
    match s.regionLacks r.ctx r.id with
    | some e => some (s.unless e id)
    | none => f s

/-- The next thing that the sequencers of a region can do here: chunks while it is ARMED; results, in MODE 2 also those that come
once this member is locally done, or once the region is IDLE (R356). -/
def State.regionTurn (s : State) (r : Region) : Option State :=
  match s.desc r.ctx r.id with
  | .error _ => none
  | .ok d =>
      let results := if d.rstate = 1 ∨ (d.mode = 2 ∧ d.rstate < 4) then s.takeResult r d else none
      match results with
      | some t => some t
      | none =>
          if d.rstate = 1 then
            (List.range d.nchunk).findSome? fun c => match s.addChunk r d c with | some t => some t | none => s.launchChunk r c
          else none

/-- The next thing that the ring sequencers can do here. -/
def State.regionStep (s : State) : Option State :=
  (s.fab.regions ++ s.fab.past).findSome? fun r => s.regionReady r fun s => s.regionTurn r

/-- STAGING_ARRIVAL (R350): staging tile `tile` of a region arrives; not in FAILED or ABORTING, nor where it has
arrived already. -/
def execStagingArrival (id tile : Nat) (s : State) : Host.Outcome State Fault Refusal :=
  happens (s.orLater (.stagingArrival id tile) fun s => match s.regionCtx id with
    | none => s
    | some ctx =>
        match s.desc ctx id with
        | .error e => s.unless e fun s => s
        | .ok d =>
            let st := s.regionState d
            match s.maskOf d (tile / d.tpc) with
            | .error e => s.unless e fun s => s
            | .ok m =>
                if st = 4 ∨ st = 5 ∨ d.nchunk * d.tpc ≤ tile ∨ bit m (tile % d.tpc) then s
                else tryState s (s.arrived d tile))

end Sys2Proof.Machine
end

