-- ==== Sys2Proof/Machine/HostEv.lean ====
section
/-! DEFINITION. The host's side: the two windows onto HBM, and the device-register space (R8, R207, R247 to R249, R267,
R276, R282, R344, R362 to R364, R387, R392 to R395). -/

namespace Sys2Proof.Machine

/-! ### Answers (R364, R393) -/

/-- A completion: 0 with data, 1 Completer Abort, 2 Unsupported Request. -/
def State.complete (s : State) (kind : Nat) (bs : List Byte) : State :=
  { s with host := { s.host with answers := (kind, bs) :: s.host.answers } }

/-! ### Windows (R207, R362) -/

/-- The physical address of a window offset (R362). -/
def State.windowPa (s : State) (off : Nat) : Nat := fld s.fab.pkg 46 + off % 2 ^ 41

/-- The bytes of a window that a request names exist: within 2 TiB, and on stacks that work (R362, R393). -/
def State.windowOk (s : State) (off n : Nat) : Bool :=
  decide (off + n ≤ 2 ^ 41) && (s.paFault (s.windowPa off)).isNone && (s.paFault (s.windowPa (off + n - 1))).isNone

/-- A read at the home die cache. -/
def State.windowRead (s : State) (off n : Nat) : State :=
  if !s.ready? then s.complete 1 []
  else if !s.windowOk off n then s.complete 2 []
  else s.complete 0 (Memory.bytes s.mem (s.windowPa off) n)

/-- A write at the home, where one of a staging tile arrives or is diverted (R350, R351); before READY it is discarded. -/
def State.windowWrite (s : State) (off : Nat) (bs : List Byte) : State :=
  if s.ready? && s.windowOk off bs.length then (s.landAt (s.windowPa off) bs).1 else s

/-- What the read-ahead buffer holds of a range, where it holds all of it. -/
def HostSide.buffered (h : HostSide) (off n : Nat) : Option (List Byte) :=
  match h.ahead with
  | some (b, bs) => if b ≤ off ∧ off + n ≤ b + bs.length then some ((bs.drop (off - b)).take n) else none
  | none => none

/-- Read ahead from the home: the 64-byte lines that a range touches, and the next one. -/
def State.readAhead (s : State) (off n : Nat) : State :=
  let b := off / 64 * 64
  let m := ((off + n + 127) / 64 * 64 - b) |> min (2 ^ 41 - b)
  { s with host := { s.host with ahead := some (b, Memory.bytes s.mem (s.windowPa b) m) } }

/-- HOST_RELAXED_READ (R207): what the buffer holds may answer; whether it does is a free value. -/
def execHostRelaxedRead (off len : Nat) (s : State) : Host.Outcome State Fault Refusal :=
  happens (match s.host.buffered off len with
    | some bs =>
        if s.ready? && s.windowOk off len then
          let r := s.draw
          if r.1 % 2 = 1 then r.2.complete 0 bs else (r.2.readAhead off len).windowRead off len
        else s.windowRead off len
    | none => if s.ready? && s.windowOk off len then (s.readAhead off len).windowRead off len else s.windowRead off len)

/-- HOST_RELAXED_WRITE (R207). -/
def execHostRelaxedWrite (off : Nat) (bytes : List Byte) (s : State) : Host.Outcome State Fault Refusal :=
  happens (s.windowWrite off bytes)

/-- The new value of a host AtomicOp on a field of 8·n bits: 0 FetchAdd, 1 Swap, 2 CAS (compare x, write y). -/
def hostOp (op n old x y : Nat) : Nat :=
  (if op = 0 then old + x else if op = 1 then x else if old = x % 2 ^ (8 * n) then y else old) % 2 ^ (8 * n)

/-- HOST_ATOMICOP (R364). -/
def execHostAtomicop (off op size : Nat) (x y : Word) (s : State) : Host.Outcome State Fault Refusal :=
  happens (
    if !s.ready? then s.complete 1 []
    else if (size ≠ 4 ∧ size ≠ 8) ∨ off % size ≠ 0 ∨ !s.windowOk off size then s.complete 2 []
    else
      let a := s.windowPa off
      let old := Memory.bytes s.mem a size
      (s.landAt a (leBytes size (hostOp op size (leNat old) x.toNat y.toNat))).1.complete 0 old)

/-! ### Device registers, read (R394) -/

/-- A word of a cluster's repair map (R249). -/
def Cluster.repairWord (x : Cluster) (w : Nat) : Nat :=
  let four (l : List Nat) : Nat := (l.take 4).zipIdx.foldl (fun n p => n + fld (p.1 + 2 ^ 15) (16 * p.2)) 0
  if w = 0 then flg x.failed 8 + fld x.cols.length 4 + x.rows.length
  else if w = 1 then four x.rows
  else if w = 2 then four (x.rows.drop 4)
  else four x.cols

/-- A word of a port's block (R344). -/
def Port.word (p : Port) (w : Nat) : Nat :=
  let st := match p.state with | .disabled => 0 | .down => 1 | .training => 2 | .up => 3 | .retraining => 4
  if w = 0 then fld p.peerPkg 58 + fld p.peerDie 55 + fld p.peerPort 52 + flg p.miswire 3 + st
  else if w = 1 then fld p.replay 32 + fld p.retrain 16 + p.downs
  else if w = 2 then flg p.en 0
  else 0

/-- The code of a slot state (R290). -/
def SlotState.code : SlotState → Nat
  | .free => 0
  | .binding => 1
  | .active => 2
  | .held => 3
  | .error => 4
  | .unbinding => 5
  | .resetting => 6

/-- A word of a slot's block (R282). -/
def Slot.word (x : Slot) (w : Nat) : Nat :=
  if w = 0 then x.qcb
  else if w = 1 then
    fld x.state.code 60 + fld x.ctx 44 + fld x.nidx 32 + fld x.status 24 + fld x.rqctx 12 + fld x.rqprio 8
  else if w = 2 then fld x.fetch 32 + x.rdidx
  else fld x.errcode 32 + x.erridx

/-- Every die of the package is synchronised (R396). -/
def State.synced (s : State) : Bool := (List.range 8).all fun d => !(s.die d).lease0

/-- BOOTSTAT (R395). -/
def State.bootstat (s : State) : Nat := fld s.host.svn 32 + fld s.host.err 12 + flg s.synced 8 + s.host.stage

/-- A word of a core's debug block, but for DATA, whose read has an effect (R387). -/
def Core.debugWord (c : Core) (w : Nat) : Nat :=
  if w = 0 then flg c.dbg.stopped 1 else if w = 2 then c.dbg.sel.toNat else 0

/-- A register of D0 that no other die has. -/
def State.registerD0 (s : State) (o : Nat) : Nat :=
  if o = 0x30000 then s.bootstat
  else if 0x30008 ≤ o ∧ o < 0x30028 then bits s.crook.retired.toNat (64 * ((o - 0x30008) / 8)) 64
  else if o = 0x30028 then s.host.hwbase.toNat
  else if o = 0x30030 then s.host.savebase.toNat
  else if 0x100000 ≤ o ∧ o < 0x100400 then (Sparse.get 0 s.crook.mail ((o - 0x100000) / 8)).toNat
  else if o = 0x100400 then s.crook.head
  else if o = 0x100408 then s.crook.tail
  else if 0x101000 ≤ o ∧ o < 0x101200 then
    let n := (o - 0x101000) / 8
    (s.fe.pend.filter fun i => i / 64 == n).foldl (fun v i => v + 2 ^ (i % 64)) 0
  else if 0x102000 ≤ o ∧ o < 0x102800 then (s.slot ((o - 0x102000) / 32)).word (o / 8 % 4)
  else if o = 0x103000 then s.host.arm0.toNat
  else if o = 0x103008 then s.host.arm1.toNat
  else 0

/-- The register at an offset of BAR 0 (R394): die and offset; the recovery window above them reads byte by byte; what is
not listed reads 0. -/
def State.register (s : State) (off : Nat) : Nat :=
  let d := off / 0x800000
  let o := off % 0x800000
  if off % 8 ≠ 0 then 0
  else if 0x4000000 ≤ off then
    (if off < 0x4800000 then leNat (Sparse.read 0 s.host.window (off - 0x4000000) 8) else 0)
  else if o < 0x20 then [(s.die d).corr, (s.die d).regen, (s.die d).tchk, (s.die d).skew].getD (o / 8) 0
  else if o = 0x20 then (s.die d).logHead
  else if 0x100 ≤ o ∧ o < 0x300 then
    let e := Sparse.get (0, 0) (s.die d).log ((o - 0x100) / 16)
    (if o / 8 % 2 = 0 then e.1 else e.2).toNat
  else if 0x400 ≤ o ∧ o < 0x500 then (s.cluster (8 * d + (o - 0x400) / 32)).repairWord (o / 8 % 4)
  else if o = 0x1000 then (s.die d).postdrop
  else if 0x10000 ≤ o ∧ o < 0x100C0 then (s.port d ((o - 0x10000) / 32)).word (o / 8 % 4)
  else if 0x20000 ≤ o ∧ o < 0x20400 then (s.coreAt (32 * d + (o - 0x20000) / 32)).debugWord (o / 8 % 4)
  else if d = 0 then s.registerD0 o
  else 0

/-! ### Reads of BAR 0, and configuration space (R394, R399; log 121) -/

/-- From this offset on an ordered access is one of BAR 0, and from twice that one of configuration space: the model's own numbering
(log 121). -/
def barZero : Nat := 2 ^ 42

/-- A read of the word at an offset of BAR 0: its value, and what the read does: DATA advances (R387), and that a port's first word has
been read is noted (R399). -/
def State.readRegister (s : State) (off : Nat) : State :=
  let d := off / 0x800000
  let o := off % 0x800000
  let port := (o - 0x10000) / 32
  if off < 0x4000000 ∧ 0x20000 ≤ o ∧ o < 0x20400 ∧ o % 32 = 24 then s.asCore (32 * d + (o - 0x20000) / 32) State.readData
  else
    let t := s.complete 0 (leBytes 8 (s.register off))
    if off < 0x4000000 ∧ 0x10000 ≤ o ∧ o < 0x100C0 ∧ o % 32 = 0 then
      { t with host := { t.host with portsRead := insertNat (6 * d + port) t.host.portsRead } }
    else t

/-- HOST_ORDERED_READ (R207, R393), and reads of BAR 0 in words. -/
def execHostOrderedRead (off len : Nat) (s : State) : Host.Outcome State Fault Refusal :=
  happens (if off < barZero then s.windowRead off len
    else if off < barZero + 2 ^ 27 ∧ len = 8 ∧ off % 8 = 0 then s.readRegister (off - barZero)
    else s.complete 2 [])

/-- Bus Master of the command register, byte 4 of configuration space, bit 2 (R399). -/
def State.writeConfig (s : State) (off : Nat) (bs : List Byte) : State :=
  if off ≤ 4 ∧ 4 < off + bs.length then { s with host := { s.host with master := (bs.getD (4 - off) 0).getLsbD 2 } } else s

/-- HOST_ORDERED_WRITE (R207), and writes of configuration space. -/
def execHostOrderedWrite (off : Nat) (bytes : List Byte) (s : State) : Host.Outcome State Fault Refusal :=
  happens (if off < 2 * barZero then s.windowWrite off bytes else s.writeConfig (off - 2 * barZero) bytes)

/-! ### Device registers, written (R8, R394) -/

/-- A write of a port's block (R344): the counters take the value, EN and RETRAIN act. -/
def State.writePort (s : State) (d j w v : Nat) : State :=
  if w = 1 then s.onPort d j fun p => { p with replay := bits v 32 32, retrain := bits v 16 16, downs := bits v 0 16 }
  else if w = 2 then
    let t := s.portEnable d j (bit v 0)
    if bit v 1 then t.portRetrainIfUp d j else t
  else s

/-- Write DATA of the current core, while it is stopped (R387). -/
def State.writeData (s : State) (v : Word) : State :=
  s.onCore fun x => if x.dbg.stopped then let y := x.debugWrite v; { y with dbg := y.dbg.advance } else x

/-- A write of a core's debug block (R387): RUN, REQ, the selection, whose reserved KIND is not written (R8), DATA. -/
def State.writeDebug (s : State) (c w v : Nat) : State :=
  s.asCore c fun s =>
    if w = 0 then s.onCore fun x => if bit v 0 && x.dbg.stopped then x.resumeStop else x
    else if w = 1 then s.onCore fun x => if x.task.isSome then x.askStop 0 else x
    else if w = 2 then s.onDbg fun d =>
      { d with sel := w64 (fld (if bits v 62 2 = 3 then bits d.sel.toNat 62 2 else bits v 62 2) 62 + bits v 0 12), dix := 0 }
    else s.writeData (w64 v)

/-- A write of SCTL (R282): RQCTX, PRIO, and a request, which sets STATUS to 0. -/
def Slot.control (x : Slot) (v : Nat) : Slot :=
  let r := bits v 0 4
  { x with rqctx := bits v 12 12, rqprio := bits v 8 3
           status := if r = 0 then x.status else 0
           req := if r = 0 then x.req else r }

/-- The first write of SAVEBASE counts (R399). -/
def State.setSavebase (s : State) (v : Word) : State :=
  if s.host.saveSet then s else { s with host := { s.host with savebase := v, saveSet := true } }

/-- QPEND's bits are cleared where 1 is written (R276). -/
def State.clearPending (s : State) (n v : Nat) : State :=
  { s with fe := { s.fe with pend := s.fe.pend.filter fun i => !(i / 64 == n && bit v (i % 64)) } }

/-- SAVEBASE (R399). -/
def execSavebase (v : Word) (s : State) : Host.Outcome State Fault Refusal := happens (s.setSavebase v)

end Sys2Proof.Machine
end

