-- ==== Sys2Proof/Machine/BootEv.lean ====
section
/-! DEFINITION. Resets, the boot, management, register writes, and the crook's frame (R8, R288, R358, R389 to R399). -/

namespace Sys2Proof.Machine

/-! ### The image (R390 to R392, R395; log 7, log 120) -/

/-- A field of n bytes at an offset of an image. -/
def imageField (f : Sparse Byte) (o n : Nat) : Nat := leNat (Sparse.read 0 f o n)

/-- The section table of the header (R391): offset, length and kind of each entry. Its place in the header and the codes of the kinds
are the model's own (log 120). -/
def imageSections (f : Sparse Byte) : List (Nat × Nat × Nat) :=
  (List.range (min 64 (imageField f 12 4))).map fun k =>
    (imageField f (16 + 24 * k) 8, imageField f (24 + 24 * k) 8, imageField f (32 + 24 * k) 8)

/-- The kind of a section that holds monitor signing keys. -/
def kindKeys : Nat := 2

/-- The header has the layout of R391: the magic number, at most 64 sections, each 4 KiB aligned, from 8192 on and within the
flash. -/
def imageFormed (f : Sparse Byte) : Bool :=
  imageField f 0 4 == 0x58463848 && decide (imageField f 12 4 ≤ 64) &&
    (imageSections f).all fun x => decide (x.1 % 4096 = 0 ∧ 8192 ≤ x.1 ∧ x.1 + x.2.1 ≤ 2 ^ 26)

/-- The bytes that both signatures are of: the header and every section (R390). -/
def imageBytes (f : Sparse Byte) : List Byte :=
  Sparse.read 0 f 0 4096 ++ (imageSections f).flatMap fun x => Sparse.read 0 f x.1 x.2.1

/-- The SVN in the header. -/
def imageSvn (f : Sparse Byte) : Nat := imageField f 8 4

/-- The sections of monitor signing keys. -/
def imageKeys (f : Sparse Byte) : List Byte :=
  ((imageSections f).filter fun x => x.2.2 == kindKeys).flatMap fun x => Sparse.read 0 f x.1 x.2.1

/-- What R390 finds wrong with an image: the code of BOOTSTAT.ERR, 0 when it is accepted. One without the layout of R391 has no bytes
that a signature could be of, and fails as the first of them does (log 120). -/
def HostSide.verdict (h : HostSide) (x : Flash) : Nat :=
  let f := x.bytes
  if !x.readable then 4
  else if !imageFormed f || !Config.ecdsaPasses h.ecdsaKey (imageBytes f) (Sparse.read 0 f 4096 96) then 1
  else if !Config.lmsPasses h.lmsKey (imageBytes f) (Sparse.read 0 f 4192 2508) then 2
  else if imageSvn f < h.fuse then 3
  else 0

/-- An image that is accepted runs: its SVN, its monitor signing keys, its digest, and the identity key that the crook derives
(R391, R398). -/
def HostSide.accept (h : HostSide) : HostSide :=
  let f := h.flash.bytes
  let digest := Config.sha384 (imageBytes f)
  { h with err := 0, svn := imageSvn f, monKeys := imageKeys f, digest := digest, identity := Config.identityKey digest }

/-- Enter a boot stage. -/
def State.enterStage (s : State) (n : Nat) : State := { s with host := { s.host with stage := n } }

/-- Stage VERIFY: the flash image is accepted, or the boot stops in RECOVERY (R390, R392). -/
def State.verifyFlash (s : State) : State :=
  let e := s.host.verdict s.host.flash
  if e = 0 then ({ s with host := s.host.accept }).enterStage 3
  else ({ s with host := { s.host with err := e } }).enterStage 2

/-- The image in the recovery window. -/
def HostSide.replacement (h : HostSide) : Flash where
  readable := true
  bytes := h.window

/-- RECOVER (R392): in RECOVERY the window's image is verified; one that passes is written to flash and the boot goes on at
its verification. -/
def State.recover (s : State) : State :=
  if s.host.stage ≠ 2 then s
  else
    let e := s.host.verdict s.host.replacement
    if e = 0 then ({ s with host := { s.host with flash := s.host.replacement } }).enterStage 1
    else { s with host := { s.host with err := e } }

/-- RECOVER (R392). -/
def execRecover (s : State) : Host.Outcome State Fault Refusal := happens s.recover

/-! ### The stages (R393, R396) -/

/-- Stage HBM: the 32 stacks are trained; which of them fail is a free value. One that fails is marked, and its address range
faults PROT from then on (R393); ERR tells of it (R395). -/
def State.trainStacks (s : State) : State :=
  let r := s.draw
  let lost := (List.range 32).foldl (fun l k => if bit r.1 k then insertNat k l else l) r.2.crook.lostStacks
  let s := { r.2 with crook := { r.2.crook with lostStacks := lost } }
  if lost.isEmpty then s else { s with host := { s.host with err := 5 } }

/-- Stage LINKS: every enabled port starts to train (R343). -/
def State.trainPorts (s : State) : State :=
  (List.range 8).foldl (fun s d => (List.range 6).foldl (fun s j =>
    if (s.port d j).en then (s.portEnable d j true).portTrain d j else s) s) s

/-- Stage TIME: the master's D0 is the reference; then D0 sends its time to the other dies. -/
def State.syncTime (s : State) : State :=
  let s := if s.timeMaster then
      s.onDie 0 fun d => { d with set := true, good := 2, lease0 := false, slew := 0 }
    else s
  if (s.die 0).set then s.sendSync 0 else s

/-- What the boot does next: none in RECOVERY, where it waits for RECOVER, and none when it is READY. -/
def State.bootNext (s : State) : Option State :=
  match s.host.stage with
  | 0 => some (s.enterStage 1)
  | 1 => some s.verifyFlash
  | 3 => some (s.trainStacks.enterStage 4)
  | 4 => some (s.enterStage 5)
  | 5 => some (s.trainPorts.enterStage 6)
  | 6 => if s.synced then some (s.enterStage 7) else some s.syncTime
  | _ => none

/-! ### Resets (R358, R389) -/

/-- Only what is sent now leaves: nothing else of the package's work appears any more (R389). -/
def State.silenced (s : State) : State :=
  { s with
    fab := { s.fab with out := [] }
    dies := s.dies.map fun x => (x.1, { x.2 with ports := x.2.ports.map fun p => (p.1, { p.2 with tails := [] }) }) }

/-- The instances that the ring sequencers hold fail with reason member reset: while the ports are still UP, FAIL leaves for the other
members, and word 2 of the descriptor says so where HBM survives (R358). -/
def State.failRegions (s : State) (keep : Bool) : State :=
  let s := s.fab.regions.foldl (fun s r => match s.desc r.ctx r.id with
    | .error _ => s
    | .ok d =>
        if d.rstate = 1 ∨ d.rstate = 2 ∨ d.rstate = 3 then
          let s := if keep then s.setRegionState d r.inst 4 cProt 5 else s
          d.members.foldl (fun s p =>
            if p = s.fab.pkg then s else s.sendFrom 0 3 p (.fail d.id r.inst s.fab.pkg cProt 5)) s
        else s) s.silenced
  (s.transmitAll s.fab.out.length).silenced

/-- Memory after a cold reset: what is not this package's HBM stays. -/
def State.coldMem (s : State) : List Host.Cell :=
  s.mem.filter fun c => decide (2 ^ 52 ≤ c.1) || paPkg c.1 != s.fab.pkg

/-- A FAIL message. -/
def Parcel.isFail (m : Parcel) : Bool := match m.msg with | .fail .. => true | _ => false

/-- A port after a reset: its counters are zero; its training stays in a management reset only, and with it the FAILs that it has
sent (R358). -/
def Port.afterReset (keep : Bool) (p : Port) : Port :=
  if keep then { p with replay := 0, retrain := 0, downs := 0, tails := [], sent := p.sent.filter fun m => m.2.isFail } else {}

/-- A die after a reset: the error record is zero; the DTB stays but for a cold reset, and is synchronised anew. -/
def Die.afterReset (cold ports : Bool) (x : Die) : Die :=
  let p := x.ports.map fun y => (y.1, y.2.afterReset ports)
  if cold then {} else { dtb := x.dtb, set := x.set, phase := x.phase, ports := if ports then p else [] }

/-- A cluster after a reset: the repair map stays. -/
def Cluster.afterReset (x : Cluster) : Cluster := { rows := x.rows, cols := x.cols, failed := x.failed }

/-- The largest power limit in W (R397): of an HX8-M-2T, or the board's figure of an HX8-P-2T. -/
def HostSide.maxPower (h : HostSide) : Nat := h.board.getD 5400

/-- A reset (R389): `cold` loses HBM and the DTB, `ports` keeps the ports' training. All work is gone; the boot begins at
its ROM. Repair maps, the retired-core map and the SVN fuse stay, and so does what was already answered to the host. -/
def State.resetAs (s : State) (cold ports : Bool) : State :=
  let s := s.failRegions (!cold)
  let lost : List (Nat × Nat) := s.fab.regions.map fun r => (r.id, r.inst)
  { agenda := s.agenda
    turn := s.turn
    core := { id := s.core.id }
    others := []
    mem := if cold then s.coldMem else s.mem
    dies := (s.dies.map fun p => (p.1, p.2.afterReset cold ports)).filter fun p => p.2 != {}
    clusters := (s.clusters.map fun p => (p.1, p.2.afterReset)).filter fun p => p.2 != {}
    fe := { msix := s.fe.msix }
    crook := { retired := s.crook.retired, lostStacks := s.crook.lostStacks, replaced := s.crook.replaced }
    fab :=
      { pkg := s.fab.pkg, domain := s.fab.domain, nextTag := s.fab.nextTag
        lost := if cold then [] else s.fab.lost ++ lost
        coldLost := cold || s.fab.coldLost
        known := if cold then [] else s.fab.known }
    host :=
      { fuse := s.host.fuse, ecdsaKey := s.host.ecdsaKey, lmsKey := s.host.lmsKey, flash := s.host.flash
        board := s.host.board, power := s.host.maxPower, answers := s.host.answers, spdm := s.host.spdm }
    free := s.free }

/-- COLD_RESET (R389). -/
def execColdReset (s : State) : Host.Outcome State Fault Refusal := happens (s.resetAs true false)
/-- WARM_RESET (R389). -/
def execWarmReset (s : State) : Host.Outcome State Fault Refusal := happens (s.resetAs false false)
/-- RESETPKG (R389, R398). -/
def execResetpkg (s : State) : Host.Outcome State Fault Refusal := happens (s.resetAs false true)

/-! ### Management (R392, R397, R398) -/

/-- SVNCOMMIT (R392): the fuse is only ever raised. -/
def execSvncommit (svn : Nat) (s : State) : Host.Outcome State Fault Refusal :=
  happens { s with host := { s.host with fuse := max s.host.fuse (svn % 2 ^ 32) } }

/-- POWER_LIMIT (R397): the limit is stored; the arithmetic clock that enforces it is timing (log 12). -/
def execPowerLimit (w : Nat) (s : State) : Host.Outcome State Fault Refusal :=
  happens { s with host := { s.host with power := min w s.host.maxPower } }

/-- PLDM_SENSOR_READ (R398): temperatures, rail power, throttle state; each reading is a free value. -/
def execPldmSensorRead (n : Nat) (s : State) : Host.Outcome State Fault Refusal :=
  happens (({ s with free := s.free + 1 }).complete 0 (leBytes 4 (Config.sensor n s.free).toNat))

/-- An SPDM request is answered (R398): what SPDM 1.2 and the identity key make of it is left open. -/
def State.spdmAnswer (s : State) (request : Nat) (args : List Byte) : State :=
  ({ s with host := { s.host with spdm := s.host.spdm + 1 } }).complete 0 (Config.spdm request s.host.spdm s.host.identity args)

/-- GET_VERSION (R398). -/
def execGetVersion (s : State) : Host.Outcome State Fault Refusal := happens (s.spdmAnswer 0 [])
/-- GET_CAPABILITIES (R398). -/
def execGetCapabilities (s : State) : Host.Outcome State Fault Refusal := happens (s.spdmAnswer 1 [])
/-- NEGOTIATE_ALGORITHMS (R398). -/
def execNegotiateAlgorithms (s : State) : Host.Outcome State Fault Refusal := happens (s.spdmAnswer 2 [])
/-- GET_DIGESTS (R398). -/
def execGetDigests (s : State) : Host.Outcome State Fault Refusal := happens (s.spdmAnswer 3 [])
/-- GET_CERTIFICATE (R398). -/
def execGetCertificate (s : State) : Host.Outcome State Fault Refusal := happens (s.spdmAnswer 4 [])
/-- CHALLENGE (R398). -/
def execChallenge (nonce : List Byte) (s : State) : Host.Outcome State Fault Refusal := happens (s.spdmAnswer 5 nonce)

/-- The measurements (R398): 1 the boot ROM, 2 the firmware image's digest, 3 SVN and fuses, 4 the repair and retired-core maps. -/
def State.measurements (s : State) : List (List Byte) :=
  [Config.romDigest, s.host.digest, leBytes 4 s.host.svn ++ leBytes 4 s.host.fuse,
   (List.range 64).flatMap (fun k => (List.range 4).flatMap fun w => leBytes 8 ((s.cluster k).repairWord w)) ++
     leBytes 32 s.crook.retired.toNat ++ leBytes 4 (s.crook.lostStacks.foldl (fun n k => n + 2 ^ k) 0)]

/-- GET_MEASUREMENTS (R398). -/
def execGetMeasurements (s : State) : Host.Outcome State Fault Refusal := happens (s.spdmAnswer 6 s.measurements.flatten)

/-! ### Register writes (R8, R394) -/

/-- A write of a register that only D0 has. A mailbox entry's words are stored whole: the bits that must be 0 are RW (R267). -/
def State.writeD0 (s : State) (o v : Nat) : State :=
  if o = 0x30000 then (if bit v 16 then s.recover else s)
  else if o = 0x30028 then { s with host := { s.host with hwbase := w64 v, hwSet := true } }
  else if o = 0x30030 then s.setSavebase (w64 v)
  else if 0x100000 ≤ o ∧ o < 0x100400 then
    { s with crook := { s.crook with mail := Sparse.set 0 s.crook.mail ((o - 0x100000) / 8) (w64 v) } }
  else if o = 0x100400 then { s with crook := { s.crook with head := v % 2 ^ 32 } }
  else if 0x101000 ≤ o ∧ o < 0x101200 then s.clearPending ((o - 0x101000) / 8) v
  else if 0x102000 ≤ o ∧ o < 0x102800 then
    (if o / 8 % 4 = 0 then s.onSlot ((o - 0x102000) / 32) fun x => { x with sqcb := w64 (fld (bits v 7 45) 7) }
     else if o / 8 % 4 = 1 then s.onSlot ((o - 0x102000) / 32) fun x => x.control v
     else s)
  else if o = 0x103000 then
    { s with host := { s.host with arm0 := w64 (fld (bits v 32 32) 32 + fld (bits v 20 12) 20 + bits v 0 1) } }
  else if o = 0x103008 then { s with host := { s.host with arm1 := w64 v } }
  else s

/-- A write at an offset of BAR 0 (R394): its writable fields take the value, a field with an action acts; a read-only
register or an offset that is not listed ignores it. -/
def State.writeRegister (s : State) (off v : Nat) : State :=
  let d := off / 0x800000
  let o := off % 0x800000
  if off % 8 ≠ 0 then s
  else if 0x4000000 ≤ off then
    (if off < 0x4800000 then
       { s with host := { s.host with window := Sparse.write 0 s.host.window (off - 0x4000000) (leBytes 8 v) } }
     else s)
  else if o = 0 then s.onDie d fun x => { x with corr := v % 2 ^ 32 }
  else if o = 8 then s.onDie d fun x => { x with regen := v % 2 ^ 32 }
  else if o = 0x10 then s.onDie d fun x => { x with tchk := v % 2 ^ 32 }
  else if o = 0x18 then s.onDie d fun x => { x with skew := v % 2 ^ 32 }
  else if 0x10000 ≤ o ∧ o < 0x100C0 then s.writePort d ((o - 0x10000) / 32) (o / 8 % 4) v
  else if 0x20000 ≤ o ∧ o < 0x20400 then s.writeDebug (32 * d + (o - 0x20000) / 32) (o / 8 % 4) v
  else if d = 0 then s.writeD0 o v
  else s

/-- REGISTER_WRITE (R8). -/
def execRegisterWrite (off : Nat) (v : Word) (s : State) : Host.Outcome State Fault Refusal :=
  happens (s.writeRegister off v.toNat)

/-! ### The crook's frame (R288) -/

/-- The service of a polling position: a slot's request and what waits of it, a mailbox entry and the statuses that are
owed, or management: the time of a die. -/
def State.poll (s : State) (p : Nat) : State :=
  if p < 64 then
    (firstState [fun _ => s.bindStep p, fun _ => s.unbindDone p, fun _ => s.resetStep p]).getD (s.serveStep p)
  else if p < 72 then
    match s.payNext with
    | some t => (t.serveMail).getD t
    | none => (s.serveMail).getD s
  else
    let d := p - 72
    if (s.die d).set then s.sendSync d else s

/-- POLLING_POSITION (R288). -/
def execPollingPosition (p : Nat) (s : State) : Host.Outcome State Fault Refusal := happens (s.poll p)

end Sys2Proof.Machine
end

