-- ==== Sys2Proof/Machine/Dispatch.lean ====
section
/-! DEFINITION. What each instruction does: one arm per constructor, each a call of its meaning. -/

namespace Sys2Proof.Machine

def exec (i : Instr) (s : State) : Host.Outcome State Fault Refusal :=
  match i with
  | .br d => Sys2Proof.Machine.execBr d s
  | .brp p d => Sys2Proof.Machine.execBrp p d s
  | .brn p d => Sys2Proof.Machine.execBrn p d s
  | .call d => Sys2Proof.Machine.execCall d s
  | .calli a im => Sys2Proof.Machine.execCalli a im s
  | .jmpi a im => Sys2Proof.Machine.execJmpi a im s
  | .jtab a h l => Sys2Proof.Machine.execJtab a h l s
  | .loop l a e => Sys2Proof.Machine.execLoop l a e s
  | .loopi l n e => Sys2Proof.Machine.execLoopi l n e s
  | .lpipe l a sc e => Sys2Proof.Machine.execLpipe l a sc e s
  | .lbrk l => Sys2Proof.Machine.execLbrk l s
  | .trap im => Sys2Proof.Machine.execTrap im s
  | .exit im => Sys2Proof.Machine.execExit im s
  | .abort im => Sys2Proof.Machine.execAbort im s
  | .brk im => Sys2Proof.Machine.execBrk im s
  | .segb sc => Sys2Proof.Machine.execSegb sc s
  | .syscall im => Sys2Proof.Machine.execSyscall im s
  | .add w d a b => Sys2Proof.Machine.execAdd w d a b s
  | .sub w d a b => Sys2Proof.Machine.execSub w d a b s
  | .and w d a b => Sys2Proof.Machine.execAnd w d a b s
  | .or w d a b => Sys2Proof.Machine.execOr w d a b s
  | .xor w d a b => Sys2Proof.Machine.execXor w d a b s
  | .andn w d a b => Sys2Proof.Machine.execAndn w d a b s
  | .shl w d a b => Sys2Proof.Machine.execShl w d a b s
  | .shr w d a b => Sys2Proof.Machine.execShr w d a b s
  | .sar w d a b => Sys2Proof.Machine.execSar w d a b s
  | .rol w d a b => Sys2Proof.Machine.execRol w d a b s
  | .mul w d a b => Sys2Proof.Machine.execMul w d a b s
  | .mulh w d a b => Sys2Proof.Machine.execMulh w d a b s
  | .mulhu w d a b => Sys2Proof.Machine.execMulhu w d a b s
  | .div w d a b => Sys2Proof.Machine.execDiv w d a b s
  | .divu w d a b => Sys2Proof.Machine.execDivu w d a b s
  | .rem w d a b => Sys2Proof.Machine.execRem w d a b s
  | .remu w d a b => Sys2Proof.Machine.execRemu w d a b s
  | .min w d a b => Sys2Proof.Machine.execMin w d a b s
  | .max w d a b => Sys2Proof.Machine.execMax w d a b s
  | .minu w d a b => Sys2Proof.Machine.execMinu w d a b s
  | .maxu w d a b => Sys2Proof.Machine.execMaxu w d a b s
  | .clz w d a => Sys2Proof.Machine.execClz w d a s
  | .ctz w d a => Sys2Proof.Machine.execCtz w d a s
  | .popc w d a => Sys2Proof.Machine.execPopc w d a s
  | .sextb w d a => Sys2Proof.Machine.execSextb w d a s
  | .sexth w d a => Sys2Proof.Machine.execSexth w d a s
  | .sextw w d a => Sys2Proof.Machine.execSextw w d a s
  | .addi w d a im => Sys2Proof.Machine.execAddi w d a im s
  | .andi w d a im => Sys2Proof.Machine.execAndi w d a im s
  | .ori w d a im => Sys2Proof.Machine.execOri w d a im s
  | .xori w d a im => Sys2Proof.Machine.execXori w d a im s
  | .shli w d a im => Sys2Proof.Machine.execShli w d a im s
  | .shri w d a im => Sys2Proof.Machine.execShri w d a im s
  | .sari w d a im => Sys2Proof.Machine.execSari w d a im s
  | .muli w d a im => Sys2Proof.Machine.execMuli w d a im s
  | .movi d im => Sys2Proof.Machine.execMovi d im s
  | .cmp w p a b c => Sys2Proof.Machine.execCmp w p a b c s
  | .cmpi w p a c im => Sys2Proof.Machine.execCmpi w p a c im s
  | .pand d a b => Sys2Proof.Machine.execPand d a b s
  | .por d a b => Sys2Proof.Machine.execPor d a b s
  | .pxor d a b => Sys2Proof.Machine.execPxor d a b s
  | .pandn d a b => Sys2Proof.Machine.execPandn d a b s
  | .pnot d a => Sys2Proof.Machine.execPnot d a s
  | .sel w d a b p => Sys2Proof.Machine.execSel w d a b p s
  | .fadd w d a b => Sys2Proof.Machine.execFadd w d a b s
  | .fsub w d a b => Sys2Proof.Machine.execFsub w d a b s
  | .fmul w d a b => Sys2Proof.Machine.execFmul w d a b s
  | .fdiv w d a b => Sys2Proof.Machine.execFdiv w d a b s
  | .fsqrt w d a => Sys2Proof.Machine.execFsqrt w d a s
  | .fmin w d a b => Sys2Proof.Machine.execFmin w d a b s
  | .fmax w d a b => Sys2Proof.Machine.execFmax w d a b s
  | .fabs w d a => Sys2Proof.Machine.execFabs w d a s
  | .fneg w d a => Sys2Proof.Machine.execFneg w d a s
  | .fcvtid w d a r => Sys2Proof.Machine.execFcvtid w d a r s
  | .fcvtdi w d a r => Sys2Proof.Machine.execFcvtdi w d a r s
  | .fcmp w p a b r => Sys2Proof.Machine.execFcmp w p a b r s
  | .ffmaD w d a b c => Sys2Proof.Machine.execFfmaD w d a b c s
  | .ldB w g h c a im => Sys2Proof.Machine.execLdB w g h c a im s
  | .ldBu w g h c a im => Sys2Proof.Machine.execLdBu w g h c a im s
  | .ldH w g h c a im => Sys2Proof.Machine.execLdH w g h c a im s
  | .ldHu w g h c a im => Sys2Proof.Machine.execLdHu w g h c a im s
  | .ldW w g h c a im => Sys2Proof.Machine.execLdW w g h c a im s
  | .ldWu w g h c a im => Sys2Proof.Machine.execLdWu w g h c a im s
  | .ldD w g h c a im => Sys2Proof.Machine.execLdD w g h c a im s
  | .stB w g h c a im => Sys2Proof.Machine.execStB w g h c a im s
  | .stH w g h c a im => Sys2Proof.Machine.execStH w g h c a im s
  | .stW w g h c a im => Sys2Proof.Machine.execStW w g h c a im s
  | .stD w g h c a im => Sys2Proof.Machine.execStD w g h c a im s
  | .stntD w g h c a im => Sys2Proof.Machine.execStntD w g h c a im s
  | .amoAdd w d h a c sc => Sys2Proof.Machine.execAmoAdd w d h a c sc s
  | .amoAnd w d h a c sc => Sys2Proof.Machine.execAmoAnd w d h a c sc s
  | .amoOr w d h a c sc => Sys2Proof.Machine.execAmoOr w d h a c sc s
  | .amoXor w d h a c sc => Sys2Proof.Machine.execAmoXor w d h a c sc s
  | .amoMin w d h a c sc => Sys2Proof.Machine.execAmoMin w d h a c sc s
  | .amoMax w d h a c sc => Sys2Proof.Machine.execAmoMax w d h a c sc s
  | .amoMinu w d h a c sc => Sys2Proof.Machine.execAmoMinu w d h a c sc s
  | .amoMaxu w d h a c sc => Sys2Proof.Machine.execAmoMaxu w d h a c sc s
  | .amoSwap w d h a c sc => Sys2Proof.Machine.execAmoSwap w d h a c sc s
  | .cas w d h a c sc => Sys2Proof.Machine.execCas w d h a c sc s
  | .xlat w d h a => Sys2Proof.Machine.execXlat w d h a s
  | .hrev w h => Sys2Proof.Machine.execHrev w h s
  | .hinfo w d h => Sys2Proof.Machine.execHinfo w d h s
  | .movx w e x a => Sys2Proof.Machine.execMovx w e x a s
  | .movsr w g sc => Sys2Proof.Machine.execMovsr w g sc s
  | .movrs w g sc => Sys2Proof.Machine.execMovrs w g sc s
  | .titw w g t n => Sys2Proof.Machine.execTitw w g t n s
  | .titr w g t n => Sys2Proof.Machine.execTitr w g t n s
  | .ext im => Sys2Proof.Machine.execExt im s
  | .vsetm e w t m sc b => Sys2Proof.Machine.execVsetm e w t m sc b s
  | .vadd e w d a b => Sys2Proof.Machine.execVadd e w d a b s
  | .vsub e w d a b => Sys2Proof.Machine.execVsub e w d a b s
  | .vmul e w d a b => Sys2Proof.Machine.execVmul e w d a b s
  | .vfma e w d a b => Sys2Proof.Machine.execVfma e w d a b s
  | .vfms e w d a b => Sys2Proof.Machine.execVfms e w d a b s
  | .vnfma e w d a b => Sys2Proof.Machine.execVnfma e w d a b s
  | .vdiv e w d a b => Sys2Proof.Machine.execVdiv e w d a b s
  | .vsqrt e w d a => Sys2Proof.Machine.execVsqrt e w d a s
  | .vrcpe e w d a => Sys2Proof.Machine.execVrcpe e w d a s
  | .vrsqe e w d a => Sys2Proof.Machine.execVrsqe e w d a s
  | .vexp2e e w d a => Sys2Proof.Machine.execVexp2e e w d a s
  | .vlog2e e w d a => Sys2Proof.Machine.execVlog2e e w d a s
  | .vmin e w d a b => Sys2Proof.Machine.execVmin e w d a b s
  | .vmax e w d a b => Sys2Proof.Machine.execVmax e w d a b s
  | .vabs e w d a => Sys2Proof.Machine.execVabs e w d a s
  | .vneg e w d a => Sys2Proof.Machine.execVneg e w d a s
  | .vand e w d a b => Sys2Proof.Machine.execVand e w d a b s
  | .vor e w d a b => Sys2Proof.Machine.execVor e w d a b s
  | .vxor e w d a b => Sys2Proof.Machine.execVxor e w d a b s
  | .vshl e w d a b => Sys2Proof.Machine.execVshl e w d a b s
  | .vshr e w d a b => Sys2Proof.Machine.execVshr e w d a b s
  | .vsar e w d a b => Sys2Proof.Machine.execVsar e w d a b s
  | .vcmpeq e w d a b => Sys2Proof.Machine.execVcmpeq e w d a b s
  | .vcmplt e w d a b => Sys2Proof.Machine.execVcmplt e w d a b s
  | .vcmple e w d a b => Sys2Proof.Machine.execVcmple e w d a b s
  | .vcmpne e w d a b => Sys2Proof.Machine.execVcmpne e w d a b s
  | .vsel e w d a b => Sys2Proof.Machine.execVsel e w d a b s
  | .vcvt e w d a t m sc => Sys2Proof.Machine.execVcvt e w d a t m sc s
  | .vadds e w d a b => Sys2Proof.Machine.execVadds e w d a b s
  | .vmuls e w d a b => Sys2Proof.Machine.execVmuls e w d a b s
  | .vbcast e w d b => Sys2Proof.Machine.execVbcast e w d b s
  | .viota e w d b => Sys2Proof.Machine.execViota e w d b s
  | .vperm e w d a b => Sys2Proof.Machine.execVperm e w d a b s
  | .vslideUp e w d a b => Sys2Proof.Machine.execVslideUp e w d a b s
  | .vslideDn e w d a b => Sys2Proof.Machine.execVslideDn e w d a b s
  | .vrsum e w d a => Sys2Proof.Machine.execVrsum e w d a s
  | .vrmax e w d a => Sys2Proof.Machine.execVrmax e w d a s
  | .vrmin e w d a => Sys2Proof.Machine.execVrmin e w d a s
  | .vpart e w d a => Sys2Proof.Machine.execVpart e w d a s
  | .vextr e w d a b => Sys2Proof.Machine.execVextr e w d a b s
  | .vld e w d h c a => Sys2Proof.Machine.execVld e w d h c a s
  | .vst e w d h c a => Sys2Proof.Machine.execVst e w d h c a s
  | .vlds e w d h c a => Sys2Proof.Machine.execVlds e w d h c a s
  | .vsts e w d h c a => Sys2Proof.Machine.execVsts e w d h c a s
  | .vgath e w d im h c => Sys2Proof.Machine.execVgath e w d im h c s
  | .vscat e w d im h c => Sys2Proof.Machine.execVscat e w d im h c s
  | .vscata e w d im h c => Sys2Proof.Machine.execVscata e w d im h c s
  | .vstnt e w d h c a => Sys2Proof.Machine.execVstnt e w d h c a s
  | .vldp e w d a => Sys2Proof.Machine.execVldp e w d a s
  | .vstp e w d a => Sys2Proof.Machine.execVstp e w d a s
  | .vldtRow e w d t a => Sys2Proof.Machine.execVldtRow e w d t a s
  | .vldtCol e w d t a => Sys2Proof.Machine.execVldtCol e w d t a s
  | .hgld e w d a h => Sys2Proof.Machine.execHgld e w d a h s
  | .hgscat e w d a h o t => Sys2Proof.Machine.execHgscat e w d a h o t s
  | .mlease t => Sys2Proof.Machine.execMlease t s
  | .mfree t => Sys2Proof.Machine.execMfree t s
  | .mldw t a v => Sys2Proof.Machine.execMldw t a v s
  | .mmul t z a v => Sys2Proof.Machine.execMmul t z a v s
  | .mmulb t z a v => Sys2Proof.Machine.execMmulb t z a v s
  | .mrsa t z a b v => Sys2Proof.Machine.execMrsa t z a b v s
  | .mrsd t z a b v => Sys2Proof.Machine.execMrsd t z a b v s
  | .mdrn t z a m c => Sys2Proof.Machine.execMdrn t z a m c s
  | .mdrnr t z a m c => Sys2Proof.Machine.execMdrnr t z a m c s
  | .mzero t z => Sys2Proof.Machine.execMzero t z s
  | .fgemv t a b c => Sys2Proof.Machine.execFgemv t a b c s
  | .cpy e t a b c f => Sys2Proof.Machine.execCpy e t a b c f s
  | .cpy2 e t a b c f => Sys2Proof.Machine.execCpy2 e t a b c f s
  | .ctile e t a b c k f => Sys2Proof.Machine.execCtile e t a b c k f s
  | .cxpose e t a b c k f => Sys2Proof.Machine.execCxpose e t a b c k f s
  | .cconv e t a b c k f => Sys2Proof.Machine.execCconv e t a b c k f s
  | .csend e t a c f => Sys2Proof.Machine.execCsend e t a c f s
  | .cfill e t b c k f => Sys2Proof.Machine.execCfill e t b c k f s
  | .cgath e t a b c k f => Sys2Proof.Machine.execCgath e t a b c k f s
  | .cpref e t a c => Sys2Proof.Machine.execCpref e t a c s
  | .cprefL1 e t a c => Sys2Proof.Machine.execCprefL1 e t a c s
  | .coptmSgdm e t a b c k f => Sys2Proof.Machine.execCoptmSgdm e t a b c k f s
  | .coptmAdam e t a b c k f => Sys2Proof.Machine.execCoptmAdam e t a b c k f s
  | .csparsePack e t a b c f => Sys2Proof.Machine.execCsparsePack e t a b c f s
  | .csparseUnpack e t a b c f => Sys2Proof.Machine.execCsparseUnpack e t a b c f s
  | .hgfold e t c f => Sys2Proof.Machine.execHgfold e t c f s
  | .hgfoldAdd e t c f => Sys2Proof.Machine.execHgfoldAdd e t c f s
  | .fwait f n => Sys2Proof.Machine.execFwait f n s
  | .fpost f n => Sys2Proof.Machine.execFpost f n s
  | .fpostr f g n => Sys2Proof.Machine.execFpostr f g n s
  | .twait g => Sys2Proof.Machine.execTwait g s
  | .twaita g => Sys2Proof.Machine.execTwaita g s
  | .barv b => Sys2Proof.Machine.execBarv b s
  | .barw b => Sys2Proof.Machine.execBarw b s
  | .bars b => Sys2Proof.Machine.execBars b s
  | .fence m => Sys2Proof.Machine.execFence m s
  | .rel sc => Sys2Proof.Machine.execRel sc s
  | .acq sc => Sys2Proof.Machine.execAcq sc s
  | .cwait h g n => Sys2Proof.Machine.execCwait h g n s
  | .cinc h g n => Sys2Proof.Machine.execCinc h g n s
  | .rgo g => Sys2Proof.Machine.execRgo g s
  | .wadd a b => Sys2Proof.Machine.execWadd a b s
  | .readRequest pa len tag src => Sys2Proof.Machine.execReadRequest pa len tag src s
  | .readResponse tag status bytes => Sys2Proof.Machine.execReadResponse tag status bytes s
  | .write pa cls tag src ctx reg va bytes => Sys2Proof.Machine.execWrite pa cls tag src ctx reg va bytes s
  | .writeAck tag status => Sys2Proof.Machine.execWriteAck tag status s
  | .atomic pa op tag src x y => Sys2Proof.Machine.execAtomic pa op tag src x y s
  | .atomicResponse tag status old => Sys2Proof.Machine.execAtomicResponse tag status old s
  | .flagPost c f n ctx => Sys2Proof.Machine.execFlagPost c f n ctx s
  | .barrierCombine kern b phase pkg => Sys2Proof.Machine.execBarrierCombine kern b phase pkg s
  | .launchHandOff kern g rec ctx src args => Sys2Proof.Machine.execLaunchHandOff kern g rec ctx src args s
  | .dtbSynchronisation d t => Sys2Proof.Machine.execDtbSynchronisation d t s
  | .ringPartial id inst chunk tile hop dense vals => Sys2Proof.Machine.execRingPartial id inst chunk tile hop dense vals s
  | .ringResult id inst chunk tile bytes => Sys2Proof.Machine.execRingResult id inst chunk tile bytes s
  | .armed id inst pkg => Sys2Proof.Machine.execArmed id inst pkg s
  | .done id inst pkg => Sys2Proof.Machine.execDone id inst pkg s
  | .fail id inst pkg cause reason => Sys2Proof.Machine.execFail id inst pkg cause reason s
  | .ringAbort id inst pkg => Sys2Proof.Machine.execRingAbort id inst pkg s
  | .abortAck id inst pkg => Sys2Proof.Machine.execAbortAck id inst pkg s
  | .packagePartComplete kern pkg fails => Sys2Proof.Machine.execPackagePartComplete kern pkg fails s
  | .spillFill c => Sys2Proof.Machine.execSpillFill c s
  | .segmentCopyComplete c h => Sys2Proof.Machine.execSegmentCopyComplete c h s
  | .variableResultLanding c k => Sys2Proof.Machine.execVariableResultLanding c k s
  | .commandStart c q => Sys2Proof.Machine.execCommandStart c q s
  | .productStep c => Sys2Proof.Machine.execProductStep c s
  | .copyStepBoundary c q k => Sys2Proof.Machine.execCopyStepBoundary c q k s
  | .tokenRetire c t => Sys2Proof.Machine.execTokenRetire c t s
  | .leaseGrant cl => Sys2Proof.Machine.execLeaseGrant cl s
  | .arrayRepair cl => Sys2Proof.Machine.execArrayRepair cl s
  | .barrierPhaseComplete c b => Sys2Proof.Machine.execBarrierPhaseComplete c b s
  | .preemption c => Sys2Proof.Machine.execPreemption c s
  | .resumption k => Sys2Proof.Machine.execResumption k s
  | .taskAbort c cause => Sys2Proof.Machine.execTaskAbort c cause s
  | .kernelComplete k => Sys2Proof.Machine.execKernelComplete k s
  | .chunkLaunch id chunk => Sys2Proof.Machine.execChunkLaunch id chunk s
  | .stagingArrival id tile => Sys2Proof.Machine.execStagingArrival id tile s
  | .cwaitGrant pa => Sys2Proof.Machine.execCwaitGrant pa s
  | .packetFetch p => Sys2Proof.Machine.execPacketFetch p s
  | .launch p => Sys2Proof.Machine.execLaunch p s
  | .unbindComplete p => Sys2Proof.Machine.execUnbindComplete p s
  | .arrivalInterrupt c => Sys2Proof.Machine.execArrivalInterrupt c s
  | .ueCore c => Sys2Proof.Machine.execUeCore c s
  | .notify n v => Sys2Proof.Machine.execNotify n v s
  | .priorityPreemption p => Sys2Proof.Machine.execPriorityPreemption p s
  | .holdRelease c => Sys2Proof.Machine.execHoldRelease c s
  | .fixedResultLanding c => Sys2Proof.Machine.execFixedResultLanding c s
  | .faultHistoryExpiry cl => Sys2Proof.Machine.execFaultHistoryExpiry cl s
  | .step c => Sys2Proof.Machine.execStep c s
  | .traceSample c => Sys2Proof.Machine.execTraceSample c s
  | .debugStop c => Sys2Proof.Machine.execDebugStop c s
  | .debugStopForce c => Sys2Proof.Machine.execDebugStopForce c s
  | .stop c => Sys2Proof.Machine.execStop c s
  | .run c => Sys2Proof.Machine.execRun c s
  | .req c => Sys2Proof.Machine.execReq c s
  | .data c v => Sys2Proof.Machine.execData c v s
  | .hbind c n k v => Sys2Proof.Machine.execHbind c n k v s
  | .taskDispatch => Sys2Proof.Machine.execTaskDispatch s
  | .pageWalk c va => Sys2Proof.Machine.execPageWalk c va s
  | .walkTimeout c => Sys2Proof.Machine.execWalkTimeout c s
  | .leaseExpiry d => Sys2Proof.Machine.execLeaseExpiry d s
  | .foldAtomicApply pa op x y => Sys2Proof.Machine.execFoldAtomicApply pa op x y s
  | .cincApply pa n => Sys2Proof.Machine.execCincApply pa n s
  | .syncResend d => Sys2Proof.Machine.execSyncResend d s
  | .ack d j seq => Sys2Proof.Machine.execAck d j seq s
  | .nak d j seq => Sys2Proof.Machine.execNak d j seq s
  | .en d j on => Sys2Proof.Machine.execEn d j on s
  | .retrain d j => Sys2Proof.Machine.execRetrain d j s
  | .trainingStart d j => Sys2Proof.Machine.execTrainingStart d j s
  | .trainingComplete d j pp pd pj => Sys2Proof.Machine.execTrainingComplete d j pp pd pj s
  | .trainingTimeout d j => Sys2Proof.Machine.execTrainingTimeout d j s
  | .retrainComplete d j ok => Sys2Proof.Machine.execRetrainComplete d j ok s
  | .routeHoldTimeout k => Sys2Proof.Machine.execRouteHoldTimeout k s
  | .apertureUngate n => Sys2Proof.Machine.execApertureUngate n s
  | .qpend n v => Sys2Proof.Machine.execQpend n v s
  | .invalid p => Sys2Proof.Machine.execInvalid p s
  | .nopPacket p => Sys2Proof.Machine.execNopPacket p s
  | .waitsig p => Sys2Proof.Machine.execWaitsig p s
  | .waitsigPoll p => Sys2Proof.Machine.execWaitsigPoll p s
  | .ffence p => Sys2Proof.Machine.execFfence p s
  | .notifyPacket p => Sys2Proof.Machine.execNotifyPacket p s
  | .map p => Sys2Proof.Machine.execMap p s
  | .unmap p => Sys2Proof.Machine.execUnmap p s
  | .queueReset p => Sys2Proof.Machine.execQueueReset p s
  | .setprio p => Sys2Proof.Machine.execSetprio p s
  | .resume p => Sys2Proof.Machine.execResume p s
  | .create k => Sys2Proof.Machine.execCreate k s
  | .setmask k => Sys2Proof.Machine.execSetmask k s
  | .setbudget k => Sys2Proof.Machine.execSetbudget k s
  | .setpool k => Sys2Proof.Machine.execSetpool k s
  | .contextReset k => Sys2Proof.Machine.execContextReset k s
  | .destroy k => Sys2Proof.Machine.execDestroy k s
  | .deadline ctx => Sys2Proof.Machine.execDeadline ctx s
  | .query k => Sys2Proof.Machine.execQuery k s
  | .clrrepair k => Sys2Proof.Machine.execClrrepair k s
  | .hostOrderedRead off len => Sys2Proof.Machine.execHostOrderedRead off len s
  | .hostOrderedWrite off bytes => Sys2Proof.Machine.execHostOrderedWrite off bytes s
  | .hostRelaxedRead off len => Sys2Proof.Machine.execHostRelaxedRead off len s
  | .hostRelaxedWrite off bytes => Sys2Proof.Machine.execHostRelaxedWrite off bytes s
  | .hostAtomicop off op size x y => Sys2Proof.Machine.execHostAtomicop off op size x y s
  | .completionTimeout c k => Sys2Proof.Machine.execCompletionTimeout c k s
  | .coldReset => Sys2Proof.Machine.execColdReset s
  | .warmReset => Sys2Proof.Machine.execWarmReset s
  | .resetpkg => Sys2Proof.Machine.execResetpkg s
  | .recover => Sys2Proof.Machine.execRecover s
  | .svncommit svn => Sys2Proof.Machine.execSvncommit svn s
  | .powerLimit w => Sys2Proof.Machine.execPowerLimit w s
  | .pldmSensorRead n => Sys2Proof.Machine.execPldmSensorRead n s
  | .getVersion => Sys2Proof.Machine.execGetVersion s
  | .getCapabilities => Sys2Proof.Machine.execGetCapabilities s
  | .negotiateAlgorithms => Sys2Proof.Machine.execNegotiateAlgorithms s
  | .getDigests => Sys2Proof.Machine.execGetDigests s
  | .getCertificate => Sys2Proof.Machine.execGetCertificate s
  | .challenge nonce => Sys2Proof.Machine.execChallenge nonce s
  | .getMeasurements => Sys2Proof.Machine.execGetMeasurements s
  | .savebase v => Sys2Proof.Machine.execSavebase v s
  | .registerWrite off v => Sys2Proof.Machine.execRegisterWrite off v s
  | .softError zc a bit => Sys2Proof.Machine.execSoftError zc a bit s
  | .pageResidentReport ctx va => Sys2Proof.Machine.execPageResidentReport ctx va s
  | .pollingPosition p => Sys2Proof.Machine.execPollingPosition p s
  | .crcFailure d j seq => Sys2Proof.Machine.execCrcFailure d j seq s
  | .apertureGate n => Sys2Proof.Machine.execApertureGate n s
  | .nop => Sys2Proof.Machine.execNop s
  | .ret => Sys2Proof.Machine.execRet s
  | .tret => Sys2Proof.Machine.execTret s
  | .iwait => Sys2Proof.Machine.execIwait s
  | .iret => Sys2Proof.Machine.execIret s
  | .mret => Sys2Proof.Machine.execMret s
  | .drainnt => Sys2Proof.Machine.execDrainnt s
  | .wclr => Sys2Proof.Machine.execWclr s
  | .wresume => Sys2Proof.Machine.execWresume s

end Sys2Proof.Machine
end

