-- ==== Sys2Proof/Machine/Issue.lean ====
section
/-! DEFINITION. The issue of bundles: fetch, the checks of R59, holds, the effect of the slots, boundary events (R56 to
R65, R94, R299, R366). -/

namespace Sys2Proof.Machine

/-! ### Fetch (R56, R294, R299, R370) -/

/-- A bundle in a store, as a 256-bit number. -/
def bundleIn (l : Sparse Byte) (n : Nat) : Nat := leNat (Sparse.read 0 l (32 * n) 32)

/-- The bundle at PC: of the monitor store, or of the segment that covers it (R299). -/
def State.fetch (s : State) : Act Nat :=
  let pc := s.core.seq.pc
  if s.core.tr.mlvl then
    (if pc < 512 then .ok (bundleIn s.core.loc.mon pc) s else .trap { cause := cProt, stage := 0, slot := false } s)
  else match s.myKernel with
    | none => .trap { cause := cProt, stage := 0, slot := false } s
    | some k =>
        match k.segAt pc with
        | none => .trap { cause := cProt, stage := 0, slot := false } s
        | some (n, g) =>
            let load : Act Nat := .hold (.segment g.half) (s.loadHalf g.half n)
            match s.core.loc.half g.half with
            | .resident m =>
                if m = n then .ok (bundleIn s.core.loc.imem (4096 * g.half + (pc - g.sb))) s else load
            | .faulted m c r va =>
                if m = n then
                  .trap { cause := c, stage := 0, info := fld 3 60 + fld n 32 + fld r 28, slot := false, addr := va } s
                else load
            | .loading m => if m = n then .hold (.segment g.half) s else load
            | .empty => load

/-! ### What a bundle names -/

/-- The G register that a scalar, VEXTR or call instruction names as its destination (R59, R83, R139). -/
def gDest : Instr → Option Nat
  | .add _ d _ _ => some d.toNat
  | .sub _ d _ _ => some d.toNat
  | .and _ d _ _ => some d.toNat
  | .or _ d _ _ => some d.toNat
  | .xor _ d _ _ => some d.toNat
  | .andn _ d _ _ => some d.toNat
  | .shl _ d _ _ => some d.toNat
  | .shr _ d _ _ => some d.toNat
  | .sar _ d _ _ => some d.toNat
  | .rol _ d _ _ => some d.toNat
  | .mul _ d _ _ => some d.toNat
  | .mulh _ d _ _ => some d.toNat
  | .mulhu _ d _ _ => some d.toNat
  | .div _ d _ _ => some d.toNat
  | .divu _ d _ _ => some d.toNat
  | .rem _ d _ _ => some d.toNat
  | .remu _ d _ _ => some d.toNat
  | .min _ d _ _ => some d.toNat
  | .max _ d _ _ => some d.toNat
  | .minu _ d _ _ => some d.toNat
  | .maxu _ d _ _ => some d.toNat
  | .clz _ d _ => some d.toNat
  | .ctz _ d _ => some d.toNat
  | .popc _ d _ => some d.toNat
  | .sextb _ d _ => some d.toNat
  | .sexth _ d _ => some d.toNat
  | .sextw _ d _ => some d.toNat
  | .addi _ d _ _ => some d.toNat
  | .andi _ d _ _ => some d.toNat
  | .ori _ d _ _ => some d.toNat
  | .xori _ d _ _ => some d.toNat
  | .shli _ d _ _ => some d.toNat
  | .shri _ d _ _ => some d.toNat
  | .sari _ d _ _ => some d.toNat
  | .muli _ d _ _ => some d.toNat
  | .movi d _ => some d.toNat
  | .sel _ d _ _ _ => some d.toNat
  | .fadd _ d _ _ => some d.toNat
  | .fsub _ d _ _ => some d.toNat
  | .fmul _ d _ _ => some d.toNat
  | .fdiv _ d _ _ => some d.toNat
  | .fsqrt _ d _ => some d.toNat
  | .fmin _ d _ _ => some d.toNat
  | .fmax _ d _ _ => some d.toNat
  | .fabs _ d _ => some d.toNat
  | .fneg _ d _ => some d.toNat
  | .fcvtid _ d _ _ => some d.toNat
  | .fcvtdi _ d _ _ => some d.toNat
  | .ffmaD _ d _ _ _ => some d.toNat
  | .ldB _ d _ _ _ _ => some d.toNat
  | .ldBu _ d _ _ _ _ => some d.toNat
  | .ldH _ d _ _ _ _ => some d.toNat
  | .ldHu _ d _ _ _ _ => some d.toNat
  | .ldW _ d _ _ _ _ => some d.toNat
  | .ldWu _ d _ _ _ _ => some d.toNat
  | .ldD _ d _ _ _ _ => some d.toNat
  | .amoAdd _ d _ _ _ _ => some d.toNat
  | .amoAnd _ d _ _ _ _ => some d.toNat
  | .amoOr _ d _ _ _ _ => some d.toNat
  | .amoXor _ d _ _ _ _ => some d.toNat
  | .amoMin _ d _ _ _ _ => some d.toNat
  | .amoMax _ d _ _ _ _ => some d.toNat
  | .amoMinu _ d _ _ _ _ => some d.toNat
  | .amoMaxu _ d _ _ _ _ => some d.toNat
  | .amoSwap _ d _ _ _ _ => some d.toNat
  | .cas _ d _ _ _ _ => some d.toNat
  | .xlat _ d _ _ => some d.toNat
  | .hinfo _ d _ => some d.toNat
  | .movrs _ d _ => some d.toNat
  | .titr _ d _ _ => some d.toNat
  | .vextr _ _ d _ _ => some d.toNat
  | .call _ => some 31
  | .calli _ _ => some 31
  | _ => none

/-- Opcodes whose S-slot words take an EXT prefix, whatever their fields: formats SI but for the shifts, SM, SCI and SL
(R64, R69). -/
def extOpcodes : List Nat :=
  [0x02, 0x03, 0x04, 0x05, 0x09, 0x0A, 0x0D, 0x18, 0x19, 0x1A, 0x1B, 0x1C, 0x1D, 0x1E, 0x20, 0x21, 0x22, 0x23, 0x25]

/-- An S-slot word that takes an EXT prefix. -/
def takesExt (w : Nat) : Bool := extOpcodes.contains (w / 2 ^ 25)

/-- A K-slot word that a delay bundle may not hold: one of an opcode of R67 other than SEGB's, whatever its fields
(R60; log 40). -/
def delayIllegal (w : Nat) : Bool := decide (1 ≤ w / 2 ^ 25 ∧ w / 2 ^ 25 ≤ 0x15) && w / 2 ^ 25 != 0x11

/-- The privileged slot words (R67, R120). -/
def privileged : Instr → Bool
  | .mret => true
  | .movsr _ _ n => decide (0x100 ≤ n.toNat)
  | .movrs _ _ n => decide (0x100 ≤ n.toNat)
  | _ => false

/-- A V-slot word that writes its vd field as a vector register (R72). -/
def vWrites (w : Nat) : Bool := !([1, 0x28, 0x31, 0x33, 0x35, 0x36, 0x37, 0x39, 0x41].contains (w / 2 ^ 25))

/-- One slot of a bundle: its number, its word, what it decodes to, and whether LPIPE gates it off (R94). -/
structure SlotIn where
  k : Nat
  w : Nat
  i : Option Instr
  gated : Bool

/-- The vector registers that a V slot writes (R15). -/
def State.vDests (s : State) (x : SlotIn) : List Nat :=
  match x.i with
  | some (.vpart e _ d _) => if x.gated then [d.toNat] else indexSpan d.toNat (s.mode e).vl
  | some (.hgld e _ d a h) => if x.gated then [d.toNat] else (s.gridSpans e d a h.toNat).2
  | some .nop => []
  | some _ => if (x.k = 2 ∨ x.k = 3) ∧ vWrites x.w then [bits x.w 16 8] else []
  | none => []

/-- The token a slot produces (R150). -/
def SlotIn.token (x : SlotIn) : Option Nat :=
  match x.i with
  | none => none
  | some .nop => none
  | some (.hgscat _ _ _ _ _ _ t) => some (56 + t.toNat)
  | some _ => if x.k = 4 ∨ x.k = 5 ∨ x.k = 6 then some (bits x.w 19 6) else none

/-- What a slot claims for itself: G destinations (0), vector destinations (1), tokens (2). -/
def State.claims (s : State) (x : SlotIn) : List (Nat × Nat) :=
  (match x.i with
   | some i => (match gDest i with | some g => [(0, g)] | none => [])
   | none => []) ++
    (s.vDests x).map (fun r => (1, r)) ++ (match x.token with | some t => [(2, t)] | none => [])

/-- A slot is gated off while PV = 1, by its nibble of the stage map (R94). -/
def Core.gated (c : Core) (k : Nat) : Bool :=
  let l := c.lp
  let x := l.set l.ps
  let b := c.seq.pc - x.beg
  let n := bits (Sparse.get 0xFFFFFFFF l.lsm (b % 16)) (4 * k) 4
  l.pv && !c.tr.mlvl && x.holds c.seq.pc && n != 15 && (decide (l.lstg ≤ n) || !l.sv.getLsbD n)

/-- The slots of a bundle. -/
def Core.slots (c : Core) (b : Nat) : List SlotIn :=
  (List.range 8).map fun k => ⟨k, bits b (32 * k) 32, decodeSlot k (BitVec.ofNat 32 (bits b (32 * k) 32)), c.gated k⟩

/-- The slot holds something to do. -/
def SlotIn.live (x : SlotIn) : Bool := !x.gated && x.i != some .nop

/-! ### The checks of R59 that need no registers -/

/-- A V register field of 160 or more (R71). -/
def SlotIn.badReg (x : SlotIn) : Bool :=
  match x.i with
  | some i => (x.k == 2 || x.k == 3) && i.fields.any fun f => f.1 == 8 && decide (160 ≤ f.2)
  | none => false

/-- The next bundle is a delay bundle. -/
def Seq.delay (q : Seq) : Bool := q.xfer.isSome

/-- Checks 1 to 3: the whole bundle, and slots K and S. -/
def Core.checkBundle (c : Core) (b : Nat) (xs : List SlotIn) : Option (Nat × Nat) :=
  if b = 2 ^ 256 - 1 then some (cIllegal, 0)
  else if c.seq.delay && xs.any (fun x => x.k == 0 && delayIllegal x.w) then some (cIllegalDelay, 0)
  else if c.seq.ext.isSome && !xs.any (fun x => x.k == 1 && takesExt x.w) then some (cPrefix, 1)
  else none

/-- Check 4 for one slot. -/
def Core.checkSlot (c : Core) (x : SlotIn) : Option (Nat × Nat) :=
  match x.i with
  | none => some (cIllegal, x.k)
  | some i =>
      if x.badReg then some (cRegfield, x.k)
      else if privileged i && !c.tr.mlvl then some (cPriv, x.k)
      else none

/-- Check 5: the lowest slot that claims what a lower-numbered slot claims. -/
def State.checkPairs (s : State) : List SlotIn → List (Nat × Nat) → Option (Nat × Nat)
  | [], _ => none
  | x :: rest, seen =>
      let cs := s.claims x
      if cs.any seen.contains then some (cIllegal, x.k) else s.checkPairs rest (seen ++ cs)

/-! ### Trying the slots -/

/-- A bundle that traps takes no effect (R10, R366): what its accesses screened is not counted (R382). -/
def State.uncount (s t : State) : State :=
  match t.core.seq.last with
  | .trapped _ _ => t.onDbg fun d => { d with fpcnt := s.core.dbg.fpcnt }
  | _ => t

/-- How an instruction ends by itself, and the state it leaves; one that has found bytes of another package lacking is held
for them (R190; log 103). -/
def State.attempt (s : State) (i : Instr) : Issue × State :=
  match exec i s with
  | .next t =>
      (match t.fab.wanted with
       | some w => (.held (.remote w.1 w.2.1 w.2.2), (s.ask s.me w.1 w.2.1 w.2.2).ended (.held (.remote w.1 w.2.1 w.2.2)))
       | none => (t.core.seq.last, s.uncount t))
  | _ => (.issued, s)

/-- K-slot instructions whose effect or trap follows the other slots (R98, R100, R320). -/
def actsAfter : Instr → Bool
  | .trap _ => true
  | .syscall _ => true
  | .abort _ => true
  | _ => false

/-- Y-slot instructions that act behind the other slots of their bundle: a post, and changes of the watch filter
(R324, R383). -/
def actsLate : Instr → Bool
  | .fpost _ _ => true
  | .wadd _ _ => true
  | .wclr => true
  | .wresume => true
  | _ => false

/-- The token check of a gated engine command (R94, R150). -/
def State.gatedToken (s : State) (x : SlotIn) : Issue × State :=
  match x.token with
  | none => (.issued, s)
  | some t =>
      match s.produce t with
      | .ok _ s => (.issued, s.retire t none)
      | .trap u s => (.trapped u.cause u.stage, (s.takeTrap u x.k).ended (.trapped u.cause u.stage))
      | .hold _ s => (.issued, s)

/-- What slot x does on its own in state s. -/
def State.try (s : State) (x : SlotIn) : Issue × State :=
  match x.i with
  | none => (.issued, s)
  | some i =>
      if x.gated then s.gatedToken x
      else if i = .nop ∨ actsAfter i then (.issued, s)
      else s.attempt i

/-- Of the reasons that hold a bundle, the one that a sample reports (R378). -/
def holdOf (rs : List (SlotIn × Issue × State)) : Option Hold :=
  (rs.foldl (fun (o : Option (Nat × Hold)) r =>
    match r.2.1 with
    | .held h =>
        let c := r.2.1.holdCode
        (match o with | some p => if p.1 ≤ c then o else some (c, h) | none => some (c, h))
    | _ => o) none).map Prod.snd

/-- The first slot whose attempt trapped at a stage. -/
def trappedAt (rs : List (SlotIn × Issue × State)) (stage : Nat) : Option State :=
  rs.findSome? fun r => match r.2.1 with | .trapped _ n => if n = stage then some r.2.2 else none | _ => none

/-- A trap that a wait raises while it holds, whatever else holds the bundle: of TWAIT or TWAITA on a faulted token, and of
a CWAIT that has asked, on a FAILED region (R57, R200, R358). -/
def State.waitTrap (s : State) (rs : List (SlotIn × Issue × State)) : Option State :=
  rs.findSome? fun r => match r.1.i, r.2.1 with
    | some (.twait _), .trapped _ _ => some r.2.2
    | some (.twaita _), .trapped _ _ => some r.2.2
    | some (.cwait ..), .trapped _ _ => if s.core.sy.cwait.isSome then some r.2.2 else none
    | _, _ => none

/-- The verdict on a bundle: held, trapped, or free to issue. -/
inductive Verdict where
  | hold (s : State)
  | trap (s : State)
  | go

/-- A trap that the checks find. -/
def State.checked (s : State) (x : Nat × Nat) : State :=
  (s.takeTrap { cause := x.1, stage := 0 } x.2).ended (.trapped x.1 0)

/-- Stages of R59 and R366 when nothing holds the bundle: checks 1 to 3, then 4 slot by slot together with what the
slots themselves find at decode, then 5, then FE_EMPTY, then execution. -/
def State.judge (s : State) (b : Nat) (xs : List SlotIn) (rs : List (SlotIn × Issue × State)) : Option State :=
  match s.core.checkBundle b xs with
  | some x => some (s.checked x)
  | none =>
      match rs.findSome? (fun r =>
          match s.core.checkSlot r.1 with
          | some x => some (s.checked x)
          | none => trappedAt [r] 0) with
      | some t => some t
      | none =>
          match s.checkPairs xs [] with
          | some x => some (s.checked x)
          | none => (match trappedAt rs 1 with | some t => some t | none => trappedAt rs 2)

/-- The barrier at which a BARV of the bundle arrives in this attempt, or has arrived (R330). -/
def State.arrivedAt (s : State) (r : SlotIn × Issue × State) : Option Nat :=
  match r.1.i with
  | some (.barv b) => if r.2.2.core.waitsAt b.toNat || s.core.waitsAt b.toNat then some b.toNat else none
  | _ => none

/-- This attempt is the arrival itself. -/
def State.arrives (s : State) (r : SlotIn × Issue × State) : Bool :=
  match s.arrivedAt r with | some b => !s.core.waitsAt b | none => false

/-- The translations that an attempt has walked for stay cached, though it is held (R218). -/
def State.keepWalks (s t : State) : State :=
  (s.onDie (dieOf s.core.id) fun y => { y with tlb := (t.die (dieOf s.core.id)).tlb }).onCore fun c =>
    { c with loc := { c.loc with tlb := t.core.loc.tlb, victims := t.core.loc.victims } }

/-- What a held slot's attempt leaves: for a Y slot all of it (a request sent, lines written back), for any other the
messages it has sent and the translations it has found. -/
def State.heldProgress (s : State) (x : SlotIn) : State :=
  match s.try x with
  | (.held _, t) => if x.k = 7 then t else State.keepWalks { s with fab := t.fab } t
  | _ => s

/-- A held bundle: what its held slots have under way goes on, and nothing else of it takes effect (R57, R195, R336). While its Y
slot waits, the other slots send nothing: their accesses follow a REL or ACQ of the bundle (R195, R196). -/
def State.holds (s : State) (rs : List (SlotIn × Issue × State)) (h : Hold) : State :=
  let held := (rs.filter fun r => !s.arrives r).filter fun r => match r.2.1 with | .held _ => true | _ => false
  let waits := held.filter fun r => r.1.k == 7
  let t := (if waits.isEmpty then held else waits).foldl (fun t r => t.heldProgress r.1) s
  (t.onSeq fun q => { q with iwait := rs.any fun r => r.2.1 == .held .iwait }).ended (.held h)

/-- The translations with which the other slots of a bundle have been judged stand for it once its BARV has arrived (R330). A page
with a lease of 0 is in none of them, and is walked again (log 117). -/
def State.keepJudged (s : State) (rs : List (SlotIn × Issue × State)) : State :=
  let xs := rs.flatMap fun r => r.2.2.core.st.h.filterMap (fun p => p.2.tr) ++ r.2.2.core.loc.tlb
  s.onSy fun y => { y with judged := some (s.core.level, s.core.seq.pc, xs) }

/-- Hold, trap or issue. A BARV arrives only once nothing else holds the bundle and every check of it has passed; from then
on the checks are not judged again (R330). -/
def State.verdict (s : State) (b : Nat) (xs : List SlotIn) : Verdict :=
  let rs := xs.map fun x => (x, s.try x)
  let others := rs.filter fun r => !s.arrives r
  match holdOf others with
  | some h => (match s.waitTrap rs with | some t => .trap t | none => .hold (s.holds rs h))
  | none =>
      if rs.any fun r => (s.arrivedAt r).isSome && !s.arrives r then .go
      else match s.judge b xs others with
        | some t => .trap t
        | none => (match rs.find? s.arrives with | some r => .hold (r.2.2.keepJudged others) | none => .go)

/-! ### The effect of a bundle -/

/-- Entries of a token table that a slot changed. -/
def changedTokens (pre t : Sparse Token) : List Nat :=
  (List.range 64).filter fun n => Sparse.get {} pre n != Sparse.get {} t n

/-- A token table with what a slot changed in it. -/
def joinTokens (pre t l : Sparse Token) : Sparse Token :=
  (changedTokens pre t).foldl (fun l n => Sparse.set {} l n (Sparse.get {} t n)) l

/-- A handle table with what a slot changed in it. -/
def joinHandles (pre t l : Sparse Handle) : Sparse Handle :=
  ((List.range 16).filter fun n => Sparse.get {} pre n != Sparse.get {} t n).foldl
    (fun l n => Sparse.set {} l n (Sparse.get {} t n)) l

/-- A list of numbers with the numbers of another one in it. -/
def unionNat (a b : List Nat) : List Nat := b.foldl (fun l n => insertNat n l) a

/-- Run one slot: it sees full and empty registers, tokens and handles as they stood before the bundle (R57, R151), and
what it changes of them joins what the other slots changed. -/
def State.runSlot (pre s : State) (f : State → State) : State :=
  let p := pre.core
  let c := s.core
  let t := f (s.onCore fun c => { c with
    sc := { c.sc with empty := p.sc.empty }
    vec := { c.vec with empty := p.vec.empty }
    eng := { c.eng with tok := p.eng.tok }
    st := { c.st with h := p.st.h } })
  t.onCore fun d => { d with
    st := { d.st with h := joinHandles p.st.h d.st.h c.st.h }
    sc := { d.sc with empty := unionNat c.sc.empty d.sc.empty }
    vec := { d.vec with empty := unionNat c.vec.empty d.vec.empty }
    eng := { d.eng with tok := joinTokens p.eng.tok d.eng.tok c.eng.tok } }

/-- What a slot does when the bundle issues. -/
def SlotIn.effect (x : SlotIn) (s : State) : State :=
  match x.i with
  | none => s
  | some (.exit n) => if x.gated then s else s.exits n.toNat
  | some i => if x.gated then (s.gatedToken x).2 else if i = .nop then s else (s.attempt i).2

/-- The order in which the slots take effect: a Y slot that waits, S, V0, V1, M, C0, C1, a Y slot that acts behind them,
K (R57, R141, R366). An S-slot conversion that draws a stochastic word draws after V0 (R35). -/
def bundleOrder (xs : List SlotIn) : List SlotIn :=
  let pick (k : Nat) (f : SlotIn → Bool) : List SlotIn := xs.filter fun x => x.k == k && f x
  let isLate (x : SlotIn) : Bool := match x.i with | some i => actsLate i | none => false
  let draws (x : SlotIn) : Bool := match x.i with
    | some (.fcvtid _ _ _ r) => r == 4
    | some (.fcvtdi _ _ _ r) => r == 4
    | _ => false
  pick 7 (fun x => !isLate x) ++ pick 1 (fun x => !draws x) ++ pick 2 (fun _ => true) ++ pick 1 draws ++
    pick 3 (fun _ => true) ++ pick 4 (fun _ => true) ++ pick 5 (fun _ => true) ++ pick 6 (fun _ => true) ++
    pick 7 isLate

/-- The bundle holds an EXT. -/
def isExt (xs : List SlotIn) : Bool :=
  xs.any fun x => x.k == 1 && !x.gated && (match x.i with | some (.ext _) => true | _ => false)

/-- The watch filter, and what goes with it, as it stands in other debug state. -/
def State.watchAs (s : State) (d : Debug) : State :=
  s.onDbg fun e => { e with filter := d.filter, exact := d.exact, ovf := d.ovf, skip := d.skip, unscr := d.unscr }

/-- The K slot, behind the others. EXIT looks at the tokens that its own bundle produced (R319). An access of a JTAB and a BREAK
see the watch filter and SKIP as they stood before a WADD, WCLR or WRESUME of the bundle (R383, R385, R386). -/
def State.effectK (pre s : State) (x : SlotIn) : State :=
  match x.i with
  | some (.exit _) => x.effect s
  | _ => (State.runSlot pre (s.watchAs pre.core.dbg) x.effect).watchAs s.core.dbg

/-- The slot traps or aborts behind the others: its trap is the bundle's own effect (R98, R100, R320). -/
def SlotIn.acts (x : SlotIn) : Bool := match x.i with | some i => actsAfter i | none => false

/-- The slots take effect in an order, each on what the ones before it left; where one ends otherwise than by issuing, it
and what it left are the answer. -/
def State.runSlots (pre : State) (f : State → SlotIn → State) : List SlotIn → State → Except (SlotIn × State) State
  | [], s => .ok s
  | x :: xs, s =>
      let t := f (s.ended .issued) x
      match t.core.seq.last with
      | .issued => pre.runSlots f xs t
      | _ => if x.acts then .ok t else .error (x, t)

/-- A MOVSR of a copy engine's stochastic state in the bundle of a conversion that draws on that engine waits for its last
draw (R36). -/
def State.lateState (xs : List SlotIn) (s : State) : State :=
  xs.foldl (fun s x => match x.i with
    | some (.movsr _ g n) =>
        let e := n.toNat - 0x52
        let new : Bool := (xs.any fun y => y.k == 5 + e && !y.gated && (match y.i with | some (.cconv ..) => true | _ => false)) &&
          (match (s.core.eng.queue (e + 1)).getLast? with | some c => c.draws | none => false)
        if x.gated || !(n == 0x52 || n == 0x53) || !new then s
        else s.onCore fun c => { c with
          flight := c.flight.filter fun l => !(l.due == c.seq.cyc + 1 && l.dst == .sr n.toNat (s.core.g g.toNat))
          eng := c.eng.onQueue (e + 1) fun l => l.dropLast ++ (l.getLast?.toList.map fun k =>
            { k with crs := some (stochWrite (s.gn g)) }) }
    | _ => s) s

/-- The bundle issues: every slot takes effect, an EXT prefix that stood before it is used up, the K slot last. -/
def State.effects (s : State) (xs : List SlotIn) : Except (SlotIn × State) State := do
  let t ← s.runSlots (fun t x => s.runSlot t x.effect) (bundleOrder xs) s
  let t := (t.lateState xs).onSeq fun q => { q with lastCyc := q.cyc, iwait := false, ext := if isExt xs then q.ext else none }
  s.runSlots (fun t x => s.effectK t x) (xs.filter fun x => x.k == 0) t

/-- SKIP is used up by a bundle outside monitor level that issues or traps (R386). -/
def State.unskip (pre s : State) : State :=
  if pre.core.tr.mlvl then s else s.onDbg fun d => { d with
    skip := if pre.core.dbg.skip then false else d.skip }

/-- A cycle has passed. -/
def State.tick (s : State) : State := s.onSeq fun q => { q with cyc := q.cyc + 1 }

/-- What the bundle has asked other packages for serves no other (log 103). -/
def State.asksOver (s : State) : State := s.forget (.issue s.core.id)

/-- After a bundle that issued: the next address, STEP (R384), the cycle. A task that ended with its EXIT has no next
address. -/
def State.completed (pre s : State) : State :=
  let s := (State.unskip pre s).asksOver
  let s := match s.core.task with | some _ => s.waitsLeft.advance | none => s
  let s := s.onTr fun t => { t with
    step := t.step || (pre.core.dbg.step && !pre.core.tr.mlvl) }
  s.tick

/-- After a trap: what a granted CWAIT took is given back (R337), SKIP is used up (R386), and a BREAK or WATCH is disposed of
(R384). -/
def State.trapped (pre s : State) : State :=
  let s := State.unskip pre s.cancelWait.asksOver
  let s := match s.core.seq.last with
    | .trapped c _ => if (c = cBreak ∨ c = cWatch) ∧ !pre.core.tr.mlvl then s.disposed c else s
    | _ => s
  (s.onSeq fun q => { q with moved := false, iwait := false, wadd := none }).tick

/-- The trap that a core has just taken, as a bundle in the same place would take it. -/
def Core.retrap (c : Core) (cause stage : Nat) : TrapInfo :=
  let m := monitorCause cause || c.tr.tvec == 0
  { cause := cause, stage := stage, slot := false
    info := (if m then c.tr.minfo else c.tr.tinfo).toNat
    addr := if m then c.tr.maddr.toNat else 0
    bytes := if m then c.tr.mbytes.toNat else 0 }

/-- A slot that could not take effect behind the other slots of its bundle: the bundle traps, or is held, and no slot of it
takes effect (R57; log 53). -/
def State.turnedBack (s : State) (x : SlotIn × State) : State :=
  match x.2.core.seq.last with
  | .trapped cause stage =>
      State.trapped s ((s.takeTrap (x.2.core.retrap cause stage) x.1.k).ended (.trapped cause stage))
  | .held h => ({ s with fab := x.2.fab }.ended (.held h)).tick
  | .issued => s.tick

/-- A bundle reaches issue. -/
def State.issue (s : State) (b : Nat) : State :=
  let xs := s.core.slots b
  match s.verdict b xs with
  | .hold t => t.tick
  | .trap t => State.trapped s t
  | .go => match s.effects xs with
    | .ok t => State.completed s t
    | .error x => s.turnedBack x

/-! ### A cycle of a core -/

/-- The first boundary event that is pending, taken (R366). -/
def State.boundary (s : State) : Option State :=
  let c := s.core
  if c.seq.ext.isSome then none
  else if c.tr.ue then some ((s.onTr fun t => { t with ue := false }).asyncTrap { cause := cUe, slot := false })
  else if !c.between then none
  else match c.tr.late, c.tr.mlvl, c.tr.gang, c.tr.skew with
    | (cause, info, addr, bytes) :: rest, _, _, _ =>
        some ((s.onTr fun t => { t with late := rest }).asyncTrap
          { cause := cause, info := info, addr := addr, bytes := bytes, slot := false })
    | [], true, _, _ => none
    | [], false, some g, _ =>
        some ((s.onTr fun t => { t with gang := none }).asyncTrap { cause := cGang, info := g, slot := false })
    | [], false, none, some d =>
        some ((s.onTr fun t => { t with skew := none }).asyncTrap { cause := cSkew, info := wrapTo 64 d, slot := false })
    | [], false, none, none =>
        if c.tr.pre && s.saveFree then some s.preempt
        else if c.tr.step then some s.takeStep
        else if c.stopForced && !c.stopPoint then some s.stopForce
        else if c.stopPoint then some (s.stopNow c.dbg.reason)
        else if c.interruptible then some s.takeInterrupt
        else none

/-- The spill engine has to finish before a target issues, and a JTAB's entry before its first delay bundle
(R84, R87). -/
def Core.busyFor (c : Core) : Option Hold :=
  if c.seq.table.isSome then some .table
  else match c.seq.spill, c.seq.xfer with
    | some (_, _, t), none => if c.seq.cyc < t then some .spill else none
    | _, _ => none

/-- The spill engine's move is complete by now. -/
def Core.settleSpill (c : Core) : Core :=
  match c.seq.spill with
  | some (_, _, t) => if t ≤ c.seq.cyc then c.spilled else c
  | none => c

/-- The next bundle of the current core, fetched and tried. -/
def State.nextBundle (s : State) : State :=
  match s.fetch with
  | .ok b s => s.issue b
  | .hold h s => ((s.await h).ended (.held h)).tick
  | .trap t s' => State.trapped s ((s'.takeTrap t 0).ended (.trapped t.cause t.stage))

/-- Of a hold and what holds the next bundle itself, the reason that a sample reports (R378). -/
def State.lowest (s : State) (h : Hold) : Hold :=
  let lower (g : Hold) : Hold := if (Issue.held g).holdCode < (Issue.held h).holdCode then g else h
  match s.fetch with
  | .ok b s => (match holdOf ((s.core.slots b).map fun x => (x, s.try x)) with | some g => lower g | none => h)
  | .hold g _ => lower g
  | .trap _ _ => h

/-- GANG_ABORT of a task that issues nothing: one that is ENDING or in a debug stop (R318, R321, R380). At monitor level it
aborts the task without a trap. -/
def State.gangNow (s : State) : Option State :=
  match s.core.tr.gang with
  | none => none
  | some g =>
      let s := s.onTr fun t => { t with gang := none }
      some (if s.core.tr.mlvl then s.push [.taskAbort s.core.id cGang]
        else s.asyncTrap { cause := cGang, info := g, slot := false })

/-- A resumed task whose next bundle waits for its segment cannot issue yet (R313): the load goes on. -/
def State.resuming (s : State) : Option State :=
  if !s.core.seq.resumed || s.boundary.isSome then none
  else match s.fetch with
    | .hold h t => some ((t.await h).ended (.held h)).tick
    | _ => none

/-- The next bundle of a task that may issue: what was captured counts from this cycle (R313), and the entry of a JTAB or the
spill engine may hold it. -/
def State.cycleTask (s : State) : State :=
  let s := s.onCore fun c => c.rejoin.landDue
  match s.core.busyFor with
  | some h => (s.ended (.held (s.lowest h))).tick
  | none => s.nextBundle

/-- The cycle that the array's product unit spends for the lease holder (R379): with a started product it counts for that one, else as
DEPEND where a product waits in the queue and as IDLE where none does. -/
def State.countArray (s : State) : State :=
  let k := clusterOf s.core.id
  let plus (n : Nat) : Nat := satAdd n 1 (2 ^ 32 - 1)
  if (s.cluster k).holder ≠ some s.core.id then s
  else if s.core.eng.qm.any fun c => c.product && c.running then
    s.onEng fun g => { g with qm := mapIf (fun c => c.product && c.running) (fun c => c.charge 2 1) g.qm }
  else if s.core.eng.qm.any fun c => c.product && !c.started then s.onCluster k fun x => { x with depend := plus x.depend }
  else s.onCluster k fun x => { x with idle := plus x.idle }

/-- One cycle of the current core: a boundary event is taken before anything lands in the cycle (R313, R406; log 36), or results
land and the next bundle is tried. -/
def State.cycle (s : State) : State :=
  let s := s.countArray.tableDone
  match s.core.task with
  | none => (s.onCore fun c => c.landDue.settleSpill).tick
  | some t =>
      if t.ending.isSome then
        let s := s.sample.onCore fun c => c.landDue.settleSpill
        s.gangNow.getD s.tryEnd.tick
      else if s.core.dbg.stopped then
        let s := s.sample.onCore fun c => c.landDue.settleSpill
        s.gangNow.getD (if s.core.tr.pre && s.saveFree then s.preempt else (s.ended (.held .stopped)).tick)
      else if s.core.tr.mstop then (s.onCore fun c => c.landDue.settleSpill).tick
      else match s.boundary with
        | some s => s
        | none =>
            let s := s.sample.onCore fun c => c.landDue.settleSpill
            match s.resuming with
            | some s => s
            | none => s.cycleTask

end Sys2Proof.Machine
end

