-- ==== Sys2Proof/Machine/Auto.lean ====
section
/-! DEFINITION. What the machine does on its own beside the issue of bundles, and in which order the model lets it come
about (log 2): landings, engines, the front end, the rings, the links, the boot, and the crook's frame. -/

namespace Sys2Proof.Machine

/-- The first of some attempts that comes about. -/
def firstOf (s : State) : List (State → Option State) → Option State
  | [] => none
  | f :: rest => match f s with | some t => some t | none => firstOf s rest

/-! ### Around the current core -/

/-- The first result of variable latency that may land does (R62). -/
def State.landNext (s : State) : Option State :=
  (s.core.waiting.findIdx? fun w => w.ready s.core.seq.cyc).map fun k => s.onCore fun c => c.landWaiting k

/-- A segment copy that is under way ends (R300). -/
def State.segmentNext (s : State) : Option State :=
  ([0, 1] : List Nat).findSome? fun h => match s.core.loc.half h with
    | .loading _ => s.byItself (.segment s.core.id h) fun s => some (s.segmentLoaded h)
    | _ => none

/-- A token that may retire does (R54). -/
def State.retireNext (s : State) : Option State := s.core.eng.retirable.bind s.retireTok

/-- A queue's first waiting command starts (R149). -/
def State.startNext (s : State) : Option State := ([0, 1, 2] : List Nat).findSome? s.startHead

/-- A copy engine takes a step (R186). -/
def State.copyNext (s : State) : Option State :=
  ([0, 1] : List Nat).findSome? fun e => (List.range 8).findSome? fun k => s.copyStep e k

/-- The array of the core's cluster changes hands, or is repaired (R158, R242). -/
def State.arrayNext (s : State) : Option State :=
  let k := clusterOf s.core.id
  let t := s.leasePass k
  if t.core.eng.lease ≠ s.core.eng.lease ∨ (t.cluster k).holder ≠ (s.cluster k).holder then some t
  else if (s.cluster k).holder.isNone ∧ (s.leaseNext k).isSome then some (s.leaseGrant k)
  else if (s.cluster k).repair.isSome then
    let t := s.arrayRepair k
    if (t.cluster k).repair.isNone then some t else none
  else none

/-! ### Around the package -/

/-- A kernel that can end does (R297). -/
def State.kernelNext (s : State) : Option State := s.fe.kernels.findSome? s.kernelStep

/-- Saved tasks that can resume do, and tasks that can be placed are, by PRIO and turn of their slots (R287, R296, R310). -/
def State.placeNext (s : State) : Option State := s.nextPlacing.map s.place

/-- A slot goes on (R275 to R285). -/
def State.slotNext (s : State) : Option State := (s.fe.slots.map Prod.fst).findSome? s.slotStep

/-- A counter is granted (R336). -/
def State.grantNext (s : State) : Option State := s.grantable.map s.grant

/-- A port whose time in its state is over: training starts again after 1 ms, fails after 100 ms; retraining fails after
50 µs (R343). -/
def State.portNext (s : State) : Option State :=
  (List.range 8).findSome? fun d => ((s.die d).ports.map Prod.fst).findSome? fun j =>
    let p := s.port d j
    let after (n : Nat) : Bool := decide (p.since + n ≤ (s.die d).dtb)
    match p.state with
    | .down => if p.en && after 1000000 then some (s.portState d j .training) else none
    | .training => if after 100000000 then some (s.portState d j .down) else none
    | .retraining => if after 50000 then some (s.portDown d j) else none
    | _ => none

/-- The next thing that comes about beside the issue of bundles, if there is one (log 2, log 10). -/
def State.progress (s : State) : Option State :=
  firstOf s [State.landNext, State.segmentNext, State.retireNext, State.startNext, State.productStep, State.copyNext,
    State.arrayNext, State.barrierNext, State.grantNext, State.refuseNext, State.replayNext, State.acknowledgeNext, State.transmit,
    State.heldNext, State.wakeNext, State.slotNext,
    State.kernelNext, State.placeNext, State.regionStep, State.portNext, State.bootNext]

/-- The slots whose WAITSIGs are read at polling position p: each every 1.6 µs of DTB (R278). -/
def pollers (p : Nat) : List Nat := ([0, 1, 2, 3] : List Nat).map fun j => 16 * j + p % 16

/-- The crook's frame (R288): once D0's DTB stands in the next polling position and the executive runs (R393), its service, the
WAITSIGs that are read with it, and, with a slot's position, that slot's priority (R311). -/
def State.frame (s : State) : State :=
  let n := (s.die 0).dtb / 100
  if n = s.crook.pos then s
  else
    let s := { s with crook := { s.crook with pos := n } }
    if !s.ready? then s
    else
      let p := n % 80
      let s := (pollers p).foldl State.pollSlot (s.poll p)
      if p < 64 then s.priorityPreempt p else s

/-! ### Time and turns -/

/-- Every die's DTB counts (R22). -/
def State.tickDies (s : State) : State :=
  { s with dies := Sparse.write {} [] 0 ((List.range 8).map fun d => (s.die d).tick) }

/-- A core has something to run. -/
def Core.active (c : Core) : Bool := c.task.isSome

/-- The core whose turn comes after the current one: the next higher number with a task, else the lowest. -/
def State.nextCore (s : State) : Nat :=
  let l := (s.others.filter Core.active).map fun c => c.id
  let least (l : List Nat) : Option Nat := l.foldl (fun o x => match o with | some y => some (min x y) | none => some x) none
  match least (l.filter fun n => decide (s.core.id < n)), least l with
  | some n, _ => n
  | none, some n => n
  | none, none => s.core.id

/-- The current core has no bundle to issue in this cycle. -/
def Core.waits (c : Core) : Bool :=
  c.task.isNone || (match c.seq.last with | .held _ => true | _ => false) || c.tr.mstop ||
    (match c.task with | some t => t.ending.isSome | none => false)

/-- What follows the current core's cycle: where the core waits, something else comes about or another core has its turn;
every 64 cycles both do (log 2). -/
def State.others? (s : State) : State :=
  if s.core.waits then
    (match s.progress with
     | some t => t
     | none => s.focus s.nextCore)
  else if s.core.seq.cyc % 64 = 0 then ((s.progress).getD s).focus s.nextCore
  else s

/-- One cycle: the DTBs count, what is DRAINING and over its deadline is FREE (R270), the crook's frame, a cycle of the current
core, and what follows it. -/
def State.advance? (s : State) : State :=
  let s := s.tickDies.deadlines.frame.cycle
  if s.agenda.isEmpty then s.others? else s

/-- The core whose turn the schedule names next, if it names one (log 2). -/
def State.takeTurn (s : State) : State :=
  match s.turn with
  | [] => s
  | n :: rest => ({ s with turn := rest }).focus (n % 256)

end Sys2Proof.Machine
end

