-- ==== Sys2Proof/Machine/Step.lean ====
section
/-! DEFINITION. One step of the machine, and how a table word is placed where the next step fetches. -/

namespace Sys2Proof.Machine

/-- One step (log 2): the next event of the agenda; without one, a cycle of the core whose turn it is. -/
def step (s : State) : Host.Outcome State Fault Refusal :=
  match s.agenda with
  | e :: rest =>
      if e.isEvent && e.wellFormed then exec e { s with agenda := rest } else .fault .illFormedEvent
  | [] => .next s.takeTurn.advance?

/-- The kernel under which a placed word runs: one segment of one bundle, one task (log 2). -/
def fetchKernel : Kernel where
  id := 1
  slot := 0
  packet := 0
  ctx := 1
  lrec := 0
  arg := 0
  idem := false
  seed := 0
  entry := 0
  b1 := 0
  b2 := 0
  b3 := 0
  levels := [{ count := 1, gang := false, scope := 0, dom := 0 }]
  handles := []
  tits := []
  segs := [{ va := 0, sb := 0, half := 0, len := 1 }]
  next := 0
  stat := 0
  state := .running
  first := 0
  count := 1
  nextTask := 1
  ended := []
  again := []
  blocked := []
  bound := []
  fails := []
  home := 0
  parts := []

/-- The bundle that holds a table word in its slot, NOP elsewhere. -/
def fetchBundle (w : Nat) : List Byte :=
  let k := match tableReading (w % 2 ^ 32) with | some (_, i) => i.slot.getD 0 | none => 0
  leBytes 32 (w % 2 ^ 32 * 2 ^ (32 * k))

/-- `s` with a table word as the bundle that the next step fetches and runs: a task of `fetchKernel` at bundle address 0
of a resident segment, nothing pending before it. -/
def State.withFetchWord (s : State) (_nbits w : Nat) : State :=
  { s with
    agenda := []
    turn := []
    fe := { s.fe with kernels := [fetchKernel] }
    core := { s.core with
      task := some { kern := 1, idx := 0, ctx := 1, gang := none, placed := 0, born := s.core.seq.cyc, runs := 0,
                     runCause := 0, ending := none }
      seq := { s.core.seq with pc := 0, xfer := none, ext := none, table := none, spill := none, moved := false, iwait := false, resumed := false, wadd := none }
      lp := { s.core.lp with pv := false }
      tr := { s.core.tr with
        mlvl := false, mstop := false, late := [], ue := false, gang := none, skew := none, pre := false, step := false, aip := false }
      dbg := { s.core.dbg with stop := false, stopped := false }
      loc := { s.core.loc with half0 := .resident 0, imemKern := 1, imem := Sparse.write 0 s.core.loc.imem 0 (fetchBundle w) } } }

end Sys2Proof.Machine
end

