-- ==== Sys2Proof/Safety.lean ====
section
/-! DEFINITION. What counts as a safe run. -/

namespace Sys2Proof

/-- A run of `n` steps from `s` is safe: no step of it stops the machine. -/
def SafeRun : Nat → Machine.State → Prop
  | 0, _ => True
  | n + 1, s => ∃ t, core.step s = .next t ∧ SafeRun n t

/-- An agenda that the machine accepts: events, each naming what exists. -/
def Machine.State.agendaOk (s : Machine.State) : Bool := s.agenda.all fun e => e.isEvent && e.wellFormed

end Sys2Proof
end

