-- ==== Sys2Proof/Certificates/Slice0/Obligations.lean ====
section
/-! DEFINITION. The statements for the provers. -/

/-! ### Words the statements use -/

namespace Sys2Proof.Claims

open Sys2Proof Sys2Proof.Machine

/-- Every scalar register named is full. -/
def Full (s : State) (gs : List (BitVec 5)) : Prop := ∀ g ∈ gs, s.core.gEmpty g.toNat = false

/-- The instruction issues, and `t` is the state it leaves. -/
def Issues (i : Instr) (s t : State) : Prop := exec i s = .next (t.ended .issued)

/-- No active loop among `l` ends in one of the two delay bundles of a transfer at `pc`. -/
def NoDelayEnd (l : Loops) (pc : Nat) : Prop :=
  (l.l0.act = true → l.l0.fin ≠ pc + 1 ∧ l.l0.fin ≠ pc + 2) ∧ (l.l1.act = true → l.l1.fin ≠ pc + 1 ∧ l.l1.fin ≠ pc + 2)

/-- `s` with a transfer to `tgt` begun and the loops `l`: two more bundles issue before the target. -/
def going (s : State) (l : Loops) (tgt : Nat) (arr : Arrive) : State :=
  { s with core := { s.core with lp := l, seq := { s.core.seq with xfer := some ⟨tgt, 3, arr⟩ } } }

/-- `s` with the spill that R84 gives a call: of slot d − 13, where d is 13 or more and that slot is in the file. -/
def spilling (s : State) : State :=
  if 13 ≤ s.core.sc.depth ∧ s.core.sc.low ≤ s.core.sc.depth - 13 then
    s.onSeq fun q => { q with spill := some (false, s.core.sc.depth - 13, s.core.seq.cyc + 8) }
  else s

/-- `s` with the fill that R84 gives a return: of slot d − 1, where that slot is not in the file. -/
def filling (s : State) : State :=
  if s.core.sc.depth - 1 < s.core.sc.low then
    s.onSeq fun q => { q with spill := some (true, s.core.sc.depth - 1, s.core.seq.cyc + 8) }
  else s

/-- What R88 gives the set-up of loop set `n` by instruction `i` for a count and an `end` field. -/
def SetUp (i : Instr) (n count e : Nat) (s : State) : Prop :=
  let pc := s.core.seq.pc
  NoDelayEnd (s.core.lp.onSet n fun x => { x with act := decide (count ≠ 0), fin := pc + 2 + e }) pc →
  ∃ l tgt, Issues i s (going s l tgt .none) ∧ (l.set n).beg = pc + 3 ∧ (l.set n).fin = pc + 2 + e ∧
    l.set (1 - n) = s.core.lp.set (1 - n) ∧ l.pv = s.core.lp.pv ∧
    (count = 0 → tgt = pc + 3 + e ∧ (l.set n).act = false) ∧
    (count ≠ 0 → tgt = pc + 3 ∧ (l.set n).act = true ∧ (l.set n).cnt = count ∧
      ((s.core.lp.set (1 - n)).act = true → l.inner = n))

/-- Nothing but the current core's `seq`, loops, trap state and agenda differs. -/
def SameButControl (s t : State) : Prop :=
  t = { s with agenda := t.agenda, core := { s.core with seq := t.core.seq, lp := t.core.lp, tr := t.core.tr } }

/-- `mk` of two sources computes `f` of them into `d`, at latency `lat` (R61). -/
def Gives2 (mk : Bool → BitVec 5 → BitVec 5 → BitVec 5 → Instr) (lat : Nat) (f : Word → Word → Word) : Prop :=
  ∀ (w : Bool) (d a b : BitVec 5) (s : State), Full s [a, b, d] →
    Issues (mk w d a b) s (s.writeG lat d.toNat (f (s.core.g a.toNat) (s.core.g b.toNat)))

/-- The same for a result that makes `d` empty until it lands (R61, R62). -/
def GivesEm (mk : Bool → BitVec 5 → BitVec 5 → BitVec 5 → Instr) (lat : Nat) (f : Word → Word → Word) : Prop :=
  ∀ (w : Bool) (d a b : BitVec 5) (s : State), Full s [a, b, d] →
    Issues (mk w d a b) s (s.writeGEm lat d.toNat (f (s.core.g a.toNat) (s.core.g b.toNat)))

/-- `mk` of one source leaves in `d`, at latency 1, a word that `p` relates to the source. -/
def Gives1 (mk : Bool → BitVec 5 → BitVec 5 → Instr) (p : Word → Word → Prop) : Prop :=
  ∀ (w : Bool) (d a : BitVec 5) (s : State), Full s [a, d] →
    ∃ v, Issues (mk w d a) s (s.writeG 1 d.toNat v) ∧ p (s.core.g a.toNat) v

/-- The immediate of R64: the field sign-extended, or the EXT prefix above the field sign-extended. -/
def wide (s : State) {n : Nat} (i : BitVec n) : Word :=
  match s.core.seq.ext with
  | none => i.signExtend 64
  | some x => (x.imm ++ i).signExtend 64

/-- An immediate form computes `f` of its source and the immediate. -/
def GivesImm (mk : Bool → BitVec 5 → BitVec 5 → BitVec 14 → Instr) (lat : Nat) (f : Word → Word → Word) : Prop :=
  ∀ (w : Bool) (d a : BitVec 5) (i : BitVec 14) (s : State), Full s [a, d] →
    Issues (mk w d a i) s (s.writeG lat d.toNat (f (s.core.g a.toNat) (wide s i)))

/-- A shift by an immediate amount. -/
def GivesAmt (mk : Bool → BitVec 5 → BitVec 5 → BitVec 6 → Instr) (f : Word → Nat → Word) : Prop :=
  ∀ (w : Bool) (d a : BitVec 5) (i : BitVec 6) (s : State), Full s [a, d] →
    Issues (mk w d a i) s (s.writeG 1 d.toNat (f (s.core.g a.toNat) i.toNat))

/-- CMP and CMPI with condition code `c` set their predicate to `f`. -/
def Compares (c : BitVec 3) (f : Word → Word → Bool) : Prop :=
  (∀ (w : Bool) (p : BitVec 4) (a b : BitVec 5) (s : State), Full s [a, b] →
    Issues (.cmp w p a b c) s (s.writeP 1 p (f (s.core.g a.toNat) (s.core.g b.toNat)))) ∧
  (∀ (w : Bool) (p : BitVec 4) (a : BitVec 5) (i : BitVec 12) (s : State), Full s [a] →
    Issues (.cmpi w p a c i) s (s.writeP 1 p (f (s.core.g a.toNat) (wide s i))))

/-- An FP64 form: the operands are read as FP64, and the exact result of `f` is rounded once in RNE. -/
def GivesFp (mk : Bool → BitVec 5 → BitVec 5 → BitVec 5 → Instr) (em : Bool) (f : Machine.Num → Machine.Num → Machine.Num × FFlags) : Prop :=
  ∀ (w : Bool) (d a b : BitVec 5) (s : State), Full s [a, b, d] →
    let r := f (fp64.decode (s.gn a)) (fp64.decode (s.gn b))
    let v := r.1.rne fp64
    Issues (mk w d a b) s ((if em then s.writeGEm 20 d.toNat (w64 v.1) else s.writeG 4 d.toNat (w64 v.1)).raiseFlags
      (if em then 20 else 4) 2 (r.2 ||| v.2))

/-- The same with one operand. -/
def GivesFp1 (mk : Bool → BitVec 5 → BitVec 5 → Instr) (em : Bool) (f : Machine.Num → Machine.Num × FFlags) : Prop :=
  ∀ (w : Bool) (d a : BitVec 5) (s : State), Full s [a, d] →
    let r := f (fp64.decode (s.gn a))
    let v := r.1.rne fp64
    Issues (mk w d a) s ((if em then s.writeGEm 20 d.toNat (w64 v.1) else s.writeG 4 d.toNat (w64 v.1)).raiseFlags
      (if em then 20 else 4) 2 (r.2 ||| v.2))

/-- The current core in a later cycle, every result due by then landed. -/
def after (s : State) (n : Nat) : Core := ({ s.core with seq := { s.core.seq with cyc := s.core.seq.cyc + n } } : Core).landDue

/-- The traps of a bundle, as an instruction in slot `k` raises them. -/
def TrapsWith (i : Instr) (s : State) (t : TrapInfo) (k : Nat) : Prop :=
  exec i s = .next ((s.takeTrap t k).ended (.trapped t.cause t.stage))

/-- The wait-policy bit and the scalar registers of an S-slot instruction, sources and destinations (R63). -/
def scalarRegs : Instr → Option (Bool × List (BitVec 5))
  | .add w d a b => some (w, [a, b, d])
  | .sub w d a b => some (w, [a, b, d])
  | .and w d a b => some (w, [a, b, d])
  | .or w d a b => some (w, [a, b, d])
  | .xor w d a b => some (w, [a, b, d])
  | .andn w d a b => some (w, [a, b, d])
  | .shl w d a b => some (w, [a, b, d])
  | .shr w d a b => some (w, [a, b, d])
  | .sar w d a b => some (w, [a, b, d])
  | .rol w d a b => some (w, [a, b, d])
  | .mul w d a b => some (w, [a, b, d])
  | .mulh w d a b => some (w, [a, b, d])
  | .mulhu w d a b => some (w, [a, b, d])
  | .div w d a b => some (w, [a, b, d])
  | .divu w d a b => some (w, [a, b, d])
  | .rem w d a b => some (w, [a, b, d])
  | .remu w d a b => some (w, [a, b, d])
  | .min w d a b => some (w, [a, b, d])
  | .max w d a b => some (w, [a, b, d])
  | .minu w d a b => some (w, [a, b, d])
  | .maxu w d a b => some (w, [a, b, d])
  | .fadd w d a b => some (w, [a, b, d])
  | .fsub w d a b => some (w, [a, b, d])
  | .fmul w d a b => some (w, [a, b, d])
  | .fdiv w d a b => some (w, [a, b, d])
  | .fmin w d a b => some (w, [a, b, d])
  | .fmax w d a b => some (w, [a, b, d])
  | .clz w d a => some (w, [a, d])
  | .ctz w d a => some (w, [a, d])
  | .popc w d a => some (w, [a, d])
  | .sextb w d a => some (w, [a, d])
  | .sexth w d a => some (w, [a, d])
  | .sextw w d a => some (w, [a, d])
  | .fsqrt w d a => some (w, [a, d])
  | .fabs w d a => some (w, [a, d])
  | .fneg w d a => some (w, [a, d])
  | .addi w d a _ => some (w, [a, d])
  | .andi w d a _ => some (w, [a, d])
  | .ori w d a _ => some (w, [a, d])
  | .xori w d a _ => some (w, [a, d])
  | .muli w d a _ => some (w, [a, d])
  | .shli w d a _ => some (w, [a, d])
  | .shri w d a _ => some (w, [a, d])
  | .sari w d a _ => some (w, [a, d])
  | .movi d _ => some (true, [d])
  | .cmp w _ a b _ => some (w, [a, b])
  | .cmpi w _ a _ _ => some (w, [a])
  | .sel w d a b _ => some (w, [a, b, d])
  | .fcvtid w d a _ => some (w, [a, d])
  | .fcvtdi w d a _ => some (w, [a, d])
  | .fcmp w _ a b _ => some (w, [a, b])
  | .ffmaD w d a b c => some (w, [a, b, c, d])
  | .ldB w g _ _ a _ => some (w, [a, g])
  | .ldBu w g _ _ a _ => some (w, [a, g])
  | .ldH w g _ _ a _ => some (w, [a, g])
  | .ldHu w g _ _ a _ => some (w, [a, g])
  | .ldW w g _ _ a _ => some (w, [a, g])
  | .ldWu w g _ _ a _ => some (w, [a, g])
  | .ldD w g _ _ a _ => some (w, [a, g])
  | .stB w g _ _ a _ => some (w, [a, g])
  | .stH w g _ _ a _ => some (w, [a, g])
  | .stW w g _ _ a _ => some (w, [a, g])
  | .stD w g _ _ a _ => some (w, [a, g])
  | .stntD w g _ _ a _ => some (w, [a, g])
  | .amoAdd w d _ a _ _ => some (w, [a, d])
  | .amoAnd w d _ a _ _ => some (w, [a, d])
  | .amoOr w d _ a _ _ => some (w, [a, d])
  | .amoXor w d _ a _ _ => some (w, [a, d])
  | .amoMin w d _ a _ _ => some (w, [a, d])
  | .amoMax w d _ a _ _ => some (w, [a, d])
  | .amoMinu w d _ a _ _ => some (w, [a, d])
  | .amoMaxu w d _ a _ _ => some (w, [a, d])
  | .amoSwap w d _ a _ _ => some (w, [a, d])
  | .cas w d _ a _ _ => some (w, [a, d, d + 1])
  | .xlat w d _ a => some (w, [a, d])
  | .hinfo w d _ => some (w, [d])
  | .movx w _ _ a => some (w, [a])
  | .movsr w g _ => some (w, [g])
  | .movrs w g _ => some (w, [g])
  | .titw w g _ _ => some (w, [g])
  | .titr w g _ _ => some (w, [g])
  | _ => none

/-- The system register that an instruction names (R120). -/
def srOf : Instr → Option Nat
  | .movsr _ _ n => some n.toNat
  | .movrs _ _ n => some n.toNat
  | _ => none

/-- The byte offset G[ga] + imm·size of an access (R113). -/
def offset (s : State) (a : BitVec 5) (i : BitVec 6) (size : Nat) : Int :=
  (s.core.g a.toNat).toInt + (wide s i).toInt * size

/-- An access of `size` bytes at offset `off` of the scratch-kind handle `h` reaches byte `p` of the pool, in the
scratchpad (R113, R225, R226). -/
def InPool (s : State) (h : BitVec 4) (off : Int) (size p : Nat) (read write : Bool) : Prop :=
  let y := s.core.handle h.toNat
  y.kind = 2 ∧ (read = true → y.r = true) ∧ (write = true → y.w = true) ∧ 0 ≤ off ∧ off + size ≤ y.limit ∧
    (p : Int) = y.vbase + off ∧ p % size = 0 ∧ 32768 * s.core.st.b1 ≤ p ∧ p + size ≤ 32768 * s.core.st.b2

/-- The bytes at pool address `p` as a number. -/
def poolWord (c : Core) (p size : Nat) : Nat := leNat (Sparse.read 0 c.loc.pool p size)

/-- A load of `size` bytes, extended by `ext`: from the pool it lands after eight cycles; through any handle it takes
what the place that the checks and the translation find gives (`State.loadFrom`, see ReadsAndWritesOfTargets). -/
def Loads (mk : Bool → BitVec 5 → BitVec 4 → BitVec 4 → BitVec 5 → BitVec 6 → Instr) (size : Nat) (signed : Bool) : Prop :=
  let ext (n : Nat) : Word := if signed then (BitVec.ofNat (8 * size) n).signExtend 64 else BitVec.ofNat 64 n
  (∀ (w : Bool) (g : BitVec 5) (h c : BitVec 4) (a : BitVec 5) (i : BitVec 6) (s : State) (p : Nat), Full s [a, g] →
    InPool s h (offset s a i size) size p true false →
    Issues (mk w g h c a i) s ((s.emptyG g.toNat).awaits
      { dst := [.g (s.core.phys g.toNat) (ext (poolWord s.core p size)) true], earliest := s.core.seq.cyc + 8,
        latest := some (s.core.seq.cyc + 8) })) ∧
  (∀ (w : Bool) (g : BitVec 5) (h c : BitVec 4) (a : BitVec 5) (i : BitVec 6) (s t : State) (x : Target), Full s [a, g] →
    s.scalarTarget h.toNat (offset s a i size) size .read = .ok x t →
    let r := t.loadFrom x size
    Issues (mk w g h c a i) s (r.2.2.deliver g.toNat r.1 r.2.1 signed)) ∧
  (∀ bs : List Byte, bs.length = size → loaded signed bs = ext (leNat bs))

/-- A store of the low `size` bytes of a register, in the same two forms. -/
def Stores (mk : Bool → BitVec 5 → BitVec 4 → BitVec 4 → BitVec 5 → BitVec 6 → Instr) (size : Nat) (nt : Bool) : Prop :=
  (∀ (w : Bool) (g : BitVec 5) (h c : BitVec 4) (a : BitVec 5) (i : BitVec 6) (s : State) (p : Nat), Full s [a, g] →
    InPool s h (offset s a i size) size p false true →
    Issues (mk w g h c a i) s (s.onLoc fun l =>
      { l with pool := Sparse.write 0 l.pool p (leBytes size (s.core.g g.toNat).toNat) })) ∧
  (∀ (w : Bool) (g : BitVec 5) (h c : BitVec 4) (a : BitVec 5) (i : BitVec 6) (s t : State) (x : Target), Full s [a, g] →
    s.scalarTarget h.toNat (offset s a i size) size .write = .ok x t →
    let u := t.storeTo x (leBytes size (t.core.g g.toNat).toNat) nt
    Issues (mk w g h c a i) s (match x with | .pool _ => u | .mem .. => u.scalarUse (lineBanks (u.linesOf x))))

/-- An atomic that stores `f` of the old value: in the pool, and at a page of memory that the atomic may reach (R116 to
R118); `host` says that a host page takes it. The old value comes in a variable time; where the home is another package, the
operation is performed there, and its answer brings it (R208). -/
def Atomic (mk : Bool → BitVec 5 → BitVec 4 → BitVec 5 → BitVec 4 → BitVec 2 → Instr) (op : Nat) (more : Bool)
    (f : Word → Word → Word → Word) (host : Bool) : Prop :=
  ∀ (w : Bool) (d : BitVec 5) (h : BitVec 4) (a : BitVec 5) (c : BitVec 4) (z : BitVec 2) (s : State),
    Full s (if more then [a, d, d + 1] else [a, d]) →
    let x := s.core.g d.toNat
    let y := if more then s.core.g (d.toNat + 1) else 0
    (∀ p, InPool s h (s.core.g a.toNat).toInt 8 p true true →
      let old := w64 (poolWord s.core p 8)
      let t := s.onLoc fun l => { l with pool := Sparse.write 0 l.pool p (leBytes 8 (f old x y).toNat) }
      Issues (mk w d h a c z) s ((t.emptyG d.toNat).awaits { dst := [.g (s.core.phys d.toNat) old true] })) ∧
    (∀ t pa leaf va, s.scalarTarget h.toNat (s.core.g a.toNat).toInt 8 .atomic = .ok (.mem pa leaf va) t →
      (leafClass leaf ≠ 4 ∨ host = true →
        let u := (t.evictLine pa).spoil pa 8
        let old := w64 (leNat (u.homeBytes pa 8))
        let v := u.storeMem (u.key pa) (leBytes 8 (f old x y).toNat)
        (u.remote pa = false →
          Issues (mk w d h a c z) s ((v.emptyG d.toNat).awaits
            { dst := [.g (v.core.phys d.toNat) old true], host := decide (paSpace pa = 1) })) ∧
        (u.remote pa = true → Issues (mk w d h a c z) s (u.deliverAway d.toNat 8 false 0 (paPkg pa)
          { tag := 0, off := 0, len := 8 } fun tag => .atomic pa op tag u.fab.pkg x y))) ∧
      (leafClass leaf = 4 ∧ host = false →
        exec (mk w d h a c z) s = .next ((t.takeTrap { cause := 0x16 } 1).ended (.trapped 0x16 2))))

/-- Element `k` of width `w` bytes of a vector register as the program names it (R125). -/
def elem (s : State) (v w k : Nat) : Nat := leNat (s.core.vbytes (s.core.vphys v) (w * k) w)

/-- Nothing holds or traps a V-slot instruction of engine `e`: the engine is free, the registers named are full and
numbered below 160, and no source is marked faulted (R57, R63, R71, R124, R256). -/
def VReady (s : State) (e : BitVec 1) (gs : List (BitVec 5)) (src dst : List Nat) : Prop :=
  (s.core.engine e.toNat).busy ≤ s.core.seq.cyc ∧ Full s gs ∧
  (∀ v ∈ src ++ dst, v < 160 ∧ s.core.vphys v ∉ s.core.vec.empty) ∧
  (∀ v ∈ src, (Sparse.get (0, 0, 0, 0) s.core.vec.bad (s.core.vphys v)).1 = 0)

/-- Cycles that `vl` elements of `w` bytes occupy an engine (R124). -/
def cyclesOf (vl w : Nat) (slow : Bool) : Nat :=
  let n := (if w = 1 then 1024 else if w = 2 then 512 else 256) / (if slow then 4 else 1)
  max 1 ((vl + n - 1) / n)

/-- Instruction `i` gives `vl` elements of `w` bytes to register `d`, the j-th being `f j` with its exception bits. -/
def Elements (i : Instr) (s : State) (e : BitVec 1) (d w vl : Nat) (slow : Bool) (f : Nat → Nat × FFlags) : Prop :=
  ∃ rs : List (Nat × FFlags), rs.length = vl ∧ (∀ j < vl, rs[j]? = some (f j)) ∧
    Issues i s (s.finish e (cyclesOf vl w slow) d w rs)

/-- An element-wise instruction of R129 to R131: `f` gives the operation for the types that have it; the other types
trap OPFMT. `three` says that the destination is read as well. -/
def Elementwise (mk : BitVec 1 → Bool → BitVec 8 → BitVec 8 → BitVec 8 → Instr) (three slow : Bool)
    (f : Nat → Option (Nat → Nat → Nat → Nat × FFlags)) : Prop :=
  ∀ (e : BitVec 1) (w : Bool) (d a b : BitVec 8) (s : State),
    VReady s e [] (if three then [a.toNat, b.toNat, d.toNat] else [a.toNat, b.toNat]) [d.toNat] →
    let m := s.core.engine e.toNat
    let k := typeBytes m.type
    (∀ g, f m.type = some g → Elements (mk e w d a b) s e d.toNat k m.vl slow
      fun j => g (elem s a.toNat k j) (elem s b.toNat k j) (elem s d.toNat k j)) ∧
    (f m.type = none → TrapsWith (mk e w d a b) s { cause := 0x21 } (2 + e.toNat))

/-- The same with one operand. -/
def Elementwise1 (mk : BitVec 1 → Bool → BitVec 8 → BitVec 8 → Instr) (slow : Bool)
    (f : Nat → Option (Nat → Nat × FFlags)) : Prop :=
  ∀ (e : BitVec 1) (w : Bool) (d a : BitVec 8) (s : State), VReady s e [] [a.toNat] [d.toNat] →
    let m := s.core.engine e.toNat
    let k := typeBytes m.type
    (∀ g, f m.type = some g → Elements (mk e w d a) s e d.toNat k m.vl slow fun j => g (elem s a.toNat k j)) ∧
    (f m.type = none → TrapsWith (mk e w d a) s { cause := 0x21 } (2 + e.toNat))

/-- An exact result rounded once in RNE to format `f`. -/
def rounded (f : Fmt) (x : Machine.Num × FFlags) : Nat × FFlags := ((x.1.rne f).1, (x.1.rne f).2 ||| x.2)

/-- An operation of floating types and of integer types, which wrap (R129). -/
def both (fl : Machine.Num → Machine.Num → Machine.Num → Machine.Num × FFlags) (int : Int → Int → Int → Int) (t : Nat) :
    Option (Nat → Nat → Nat → Nat × FFlags) :=
  match typeFmt t with
  | some f => some fun a b d => rounded f (fl (f.decode a) (f.decode b) (f.decode d))
  | none =>
      let n := 8 * typeBytes t
      some fun a b d => ((int (signedOf n a) (signedOf n b) (signedOf n d) % 2 ^ n).toNat, 0)

/-- The same of one operand; `int` is none where integer types trap. -/
def both1 (fl : Machine.Num → Machine.Num × FFlags) (int : Option (Int → Int)) (t : Nat) : Option (Nat → Nat × FFlags) :=
  match typeFmt t with
  | some f => some fun a => rounded f (fl (f.decode a))
  | none => int.map fun g a => ((g (signedOf (8 * typeBytes t) a) % 2 ^ (8 * typeBytes t)).toNat, 0)

/-- A compare: all ones or all zeros of the element width (R131). -/
def compares (r : Rel) (int : Int → Int → Bool) (t : Nat) : Option (Nat → Nat → Nat → Nat × FFlags) :=
  let n := 8 * typeBytes t
  match typeFmt t with
  | some f => some fun a b _ => let x := Machine.Num.rel r (f.decode a) (f.decode b); (if x.1 then 2 ^ n - 1 else 0, x.2)
  | none => some fun a b _ => (if int (signedOf n a) (signedOf n b) then 2 ^ n - 1 else 0, 0)

/-- A shift, of integer types only. -/
def shifts (g : Nat → Nat → Nat → Nat) (t : Nat) : Option (Nat → Nat → Nat → Nat × FFlags) :=
  if t < 4 then some fun a b _ => (g (8 * typeBytes t) a (b % (8 * typeBytes t)), 0) else none

/-- Index `j` of the index vector at `base` (R135). -/
def indexAt (s : State) (base j : Nat) : Nat := elem s (base + j / 1024) 4 (j % 1024)

/-- The registers of an index vector of `vl` entries (R135). -/
def indexRegs (base vl : Nat) : List Nat := (List.range (max 1 ((vl + 1023) / 1024))).map (base + ·)

/-- Byte `o` of vector register `r`. -/
def vbyte (c : Core) (r o : Nat) : Byte := Sparse.get 0 c.vec.v (4096 * r + o)

/-- The byte offsets of the contiguous and of the strided forms, and of the indexed ones (R142, R143). -/
def offsets (s : State) (a : BitVec 5) (step : Int) (vl : Nat) : List (Int × Nat) :=
  (List.range vl).map fun (k : Nat) => ((s.core.g a.toNat).toInt + (k : Int) * step, k)
def indexOffsets (s : State) (i : BitVec 8) (w vl : Nat) : List (Int × Nat) :=
  (List.range vl).map fun (k : Nat) => (((indexAt s i.toNat k * w : Nat) : Int), k)

/-- An access of `size` bytes at offset `off` of the memory-kind handle `h` reaches physical address `pa` by the handle's own
unexpired translation, which permits it; no watch is on (R113, R215, R225, R226). -/
def InMemory (s : State) (h : BitVec 4) (off : Int) (size : Nat) (u : Use) (pa leaf va : Nat) : Prop :=
  let y := s.core.handle h.toNat
  y.kind = 1 ∧ (u.reads = true → y.r = true) ∧ (u.writes = true → y.w = true) ∧ 0 ≤ off ∧ off + size ≤ y.limit ∧
  (va : Int) = y.vbase + off ∧ va % size = 0 ∧ va < 2 ^ 52 ∧ y.rev = false ∧ s.core.dbg.wld = false ∧ s.core.dbg.wst = false ∧
  ∃ x, y.tr = some x ∧ x.covers s.core.ctx va = true ∧ s.live x = true ∧ leafPermits u x.leaf.toNat = true ∧
    leaf = x.leaf.toNat ∧ pa = x.pa va ∧ s.paFault pa = none

/-- The elements at `offs` are permitted one by one, and `ts` is where they lie: all by a scratch-kind handle in the scratchpad, or
by a memory-kind one at physical addresses. -/
def Places (s : State) (h : BitVec 4) (size : Nat) (u : Use) (offs : List (Int × Nat)) (ts : List Target) : Prop :=
  ts.length = offs.length ∧ ∀ (j : Nat) (q : Int × Nat) (t : Target), offs[j]? = some q → ts[j]? = some t →
    match t with
    | .pool p => InPool s h q.1 size p u.reads u.writes
    | .mem pa leaf va => InMemory s h q.1 size u pa leaf va

/-- The sum of two elements of type `t`: modulo the width of an integer type, rounded in RNE in a floating one (R143). -/
def added (t a b : Nat) : Nat :=
  match typeFmt t with
  | some f => (((f.decode a).add (f.decode b)).1.rne f).1
  | none => (a + b) % 2 ^ (8 * typeBytes t)

/-- A vector load through a handle of the elements at `offs`: it completes with the elements' bytes, read in ascending
order where the checks and translations find them; from the scratchpad, with the pool's bytes. -/
def VLoads (i : Instr) (s : State) (e : BitVec 1) (d : BitVec 8) (h : BitVec 4) (gs : List (BitVec 5)) (src : List Nat)
    (offs : List (Int × Nat)) : Prop :=
  (∀ ts : List Target, VReady s e gs src [d.toNat] → Places s h (typeBytes (s.core.engine e.toNat).type) .read offs ts →
    let k := typeBytes (s.core.engine e.toNat).type
    let r := s.vread k ts
    Issues i s (r.2.vdeliver e d.toNat k r.1 (ts.flatMap Target.lines)) ∧
    ((∀ t ∈ ts, ∃ p, t = .pool p) →
      r = (ts.map fun t => match t with | .pool p => (Sparse.read 0 s.core.loc.pool p k, Path.pool) | .mem .. => ([], Path.pool), s))) ∧
  ∀ (t : State) (ts : List Target), VReady s e gs src [d.toNat] →
    s.vtargets h.toNat (typeBytes (s.core.engine e.toNat).type) .read offs = .ok ts t →
    let r := t.vread (typeBytes (s.core.engine e.toNat).type) ts
    Issues i s (r.2.vdeliver e d.toNat (typeBytes (s.core.engine e.toNat).type) r.1 (ts.flatMap Target.lines))

/-- A vector store of the elements of `d` at `offs`, in ascending order. -/
def VStores (i : Instr) (s : State) (e : BitVec 1) (d : BitVec 8) (h : BitVec 4) (gs : List (BitVec 5)) (src : List Nat)
    (offs : List (Int × Nat)) (nt : Bool) : Prop :=
  let k := typeBytes (s.core.engine e.toNat).type
  (∀ ts : List Target, VReady s e gs (d.toNat :: src) [] → Places s h k .write offs ts →
    Issues i s (((s.vwrite k nt ts ((List.range (s.core.engine e.toNat).vl).map fun j => elem s d.toNat k j)).usedBy e ts).occupy
      e.toNat 1)) ∧
  (∀ u : State, u.vwrite k nt [] [] = u ∧ ∀ (p : Target) (ps : List Target) (v : Nat) (vs : List Nat),
    u.vwrite k nt (p :: ps) (v :: vs) = (u.storeTo p (leBytes k v) nt).vwrite k nt ps vs) ∧
  ∀ (t : State) (ts : List Target), VReady s e gs (d.toNat :: src) [] → s.vtargets h.toNat k .write offs = .ok ts t →
    Issues i s
      (((t.vwrite k nt ts ((List.range (s.core.engine e.toNat).vl).map fun j => elem s d.toNat k j)).usedBy e ts).occupy e.toNat 1)

/-- The time of R145 of an access to these 64-byte lines of the pool, no two alike: 8 + L − 1, L = max(⌈n/16⌉, n_max), where line l
lies in bank ⌊l/512⌋. -/
def PoolTime (ls : List Nat) (t : Nat) : Prop :=
  ∃ most : Nat, (∀ b, ls.countP (fun l => l / 512 == b) ≤ most) ∧ (ls = [] ∨ ∃ b, ls.countP (fun l => l / 512 == b) = most) ∧
    (ls = [] → most = 0) ∧ t + 1 = 8 + max ((ls.length + 15) / 16) most

/-- No other agent uses a bank of these lines of the pool: no copy engine runs, no other vector engine, CSEND arrival or scalar
access of the first-level cache is on one of them (R145). -/
def Uncontended (s : State) (e : BitVec 1) (ls : List Nat) : Prop :=
  s.core.copying = false ∧ (∀ u ∈ s.core.loc.uses, u.1 ≠ e.toNat → (∀ l ∈ ls, l / 512 ≠ u.2.1) ∨ u.2.2 ≤ s.core.seq.cyc) ∧
  ∀ w ∈ s.core.waiting, w.eng = 2 → ∀ l ∈ ls, l / 512 ∉ w.banks

/-- `s` while `who` is at work. -/
def reading (s : State) (who : Reader) : State := { s with fab := { s.fab with reader := some who } }

/-- `t`, which the operation of `who` has made of `s`, once it is over: what it read serves no other (log 103). -/
def back (s t : State) (who : Reader) : State := ({ t with fab := { t.fab with reader := s.fab.reader } }).forget who

/-- What an operation of its own makes of `s`: what `f` says, or, where `f` finds that it lacks bytes of another package, a
request for them and nothing else (R190). -/
def acted (s : State) (who : Reader) (f : State → State) : State :=
  match (f (reading s who)).fab.wanted with
  | none => back s (f (reading s who)) who
  | some x => (s.askOnce who x.1 x.2.1 x.2.2).getD s

/-- The place of R148 that a VLDT names, with what its address register holds: a first row or column of a fetch, reserved bits 0,
a tile of the identifier's block, which lies in the scratchpad where SPACE is 1. -/
def TilePlace (c : Core) (x : TidWords) (g : Nat) : Prop :=
  g < 2 ^ 24 ∧ g / 2 ^ 6 % 4 = 0 ∧ g % 2 ^ 6 % fetchLines x.fmt = 0 ∧ g / 2 ^ 16 < x.rows ∧ g / 2 ^ 8 % 2 ^ 8 < x.cols ∧
    (x.pool = true → c.tileFits x.fmt x.swz (x.tile (g / 2 ^ 16) (g / 2 ^ 8 % 2 ^ 8)) (fmtData x.fmt) = true ∧
      x.tile (g / 2 ^ 16) (g / 2 ^ 8 % 2 ^ 8) % 64 = 0)

end Sys2Proof.Claims

open Sys2Proof Sys2Proof.Machine Sys2Proof.Claims
/-! ### Control (R79 to R103) -/

/-- R80, R81: BR and a taken BRP, BRN or JMPI begin a transfer to the target named, and clear the loops they leave; BRP
of a false predicate and BRN of a true one go on in sequence. R81: a JMPI whose target is negative, or at least 2^32,
traps PROT, and begins none. That PC + disp is taken modulo 2^32 (log 15) and G[ga] as a signed number (log 98) is the model's
choice. -/
def Sys2Proof.Claims.BranchesBeginTransfers : Prop :=
  (∀ (d : BitVec 20) (s : State), NoDelayEnd (s.core.lp.branchTo (s.dispTarget d)) s.core.seq.pc →
    Issues (.br d) s (going s (s.core.lp.branchTo (s.dispTarget d)) (s.dispTarget d) .none)) ∧
  (∀ (p : BitVec 4) (d : BitVec 20) (s : State), s.core.pred p.toNat = true →
    NoDelayEnd (s.core.lp.branchTo (s.dispTarget d)) s.core.seq.pc →
    Issues (.brp p d) s (going s (s.core.lp.branchTo (s.dispTarget d)) (s.dispTarget d) .none)) ∧
  (∀ (p : BitVec 4) (d : BitVec 20) (s : State), s.core.pred p.toNat = false → Issues (.brp p d) s s) ∧
  (∀ (p : BitVec 4) (d : BitVec 20) (s : State), s.core.pred p.toNat = false →
    NoDelayEnd (s.core.lp.branchTo (s.dispTarget d)) s.core.seq.pc →
    Issues (.brn p d) s (going s (s.core.lp.branchTo (s.dispTarget d)) (s.dispTarget d) .none)) ∧
  (∀ (p : BitVec 4) (d : BitVec 20) (s : State), s.core.pred p.toNat = true → Issues (.brn p d) s s) ∧
  (∀ (a : BitVec 5) (i : BitVec 15) (n : Nat) (s : State), Full s [a] →
    (s.core.g a.toNat).toInt + i.toInt = n → n < 2 ^ 32 → NoDelayEnd (s.core.lp.branchTo n) s.core.seq.pc →
    Issues (.jmpi a i) s (going s (s.core.lp.branchTo n) n .none)) ∧
  (∀ (a : BitVec 5) (i : BitVec 15) (s : State), Full s [a] →
    ((s.core.g a.toNat).toInt + i.toInt < 0 ∨ 2 ^ 32 ≤ (s.core.g a.toNat).toInt + i.toInt) →
    TrapsWith (.jmpi a i) s { cause := 0x11 } 0)

/-- R79: a transfer that has begun issues the bundles at PC + 1 and PC + 2, then the bundle at its target. -/
def Sys2Proof.Claims.TwoDelayBundlesThenTheTarget : Prop :=
  ∀ (s : State) (tgt : Nat), s.core.seq.xfer = some ⟨tgt, 3, .none⟩ → s.core.seq.moved = false →
    s.core.seq.targetOpen = false →
    s.advance.core.seq.pc = s.core.seq.pc + 1 ∧
    s.advance.advance.core.seq.pc = s.core.seq.pc + 2 ∧
    s.advance.advance.advance.core.seq.pc = tgt ∧ s.advance.advance.advance.core.seq.xfer = none

/-- R80, R81: BR and a taken BRP, BRN or JMPI begin a transfer to the target named, and clear the loops they leave;
BRP of a false predicate and BRN of a true one go on in sequence. R81: a JMPI whose target is negative, or at least
2^32, traps PROT, and begins none. That PC + disp is taken modulo 2^32 (log 15) and G[ga] as a signed number (log 98)
is the model's choice. R79: a transfer that has begun issues the bundles at PC + 1 and PC + 2, then the bundle at its
target. -/
def Obligations.BranchTransfers : Prop := Claims.BranchesBeginTransfers ∧ Claims.TwoDelayBundlesThenTheTarget

/-- R82, R83: CALL and CALLI write PC + 3 to G31 of the caller and begin a transfer at whose target the depth rises by
one; RET begins a transfer to G15 at whose target it falls by one. R84: a call from depth d of 13 or more starts the
spill of slot d − 13 where that slot is in the file, a RET to a slot that is not starts its fill. R83: a CALLI whose target is
negative, or at least 2^32, traps PROT. That a CALL's PC + disp is taken modulo 2^32 (log 15), G[ga] as a signed number (log 98),
and G15 whole as the target of RET (log 100) is the model's choice. -/
def Sys2Proof.Claims.CallsAndReturns : Prop :=
  (∀ (d : BitVec 20) (s : State), Full s [31] → s.core.callOverflows = false → NoDelayEnd s.core.lp s.core.seq.pc →
    Issues (.call d) s (going (spilling (s.writeG 1 31 (w64 (s.core.seq.pc + 3)))) s.core.lp (s.dispTarget d) .call)) ∧
  (∀ (a : BitVec 5) (i : BitVec 15) (n : Nat) (s : State), Full s [a, 31] → s.core.callOverflows = false →
    (s.core.g a.toNat).toInt + i.toInt = n → n < 2 ^ 32 → NoDelayEnd s.core.lp s.core.seq.pc →
    Issues (.calli a i) s (going (spilling (s.writeG 1 31 (w64 (s.core.seq.pc + 3)))) s.core.lp n .call)) ∧
  (∀ (a : BitVec 5) (i : BitVec 15) (s : State), Full s [a, 31] → NoDelayEnd s.core.lp s.core.seq.pc →
    ((s.core.g a.toNat).toInt + i.toInt < 0 ∨ 2 ^ 32 ≤ (s.core.g a.toNat).toInt + i.toInt) →
    TrapsWith (.calli a i) s { cause := 0x11 } 0) ∧
  (∀ (s : State), Full s [15] → s.core.sc.depth ≠ 0 → NoDelayEnd s.core.lp s.core.seq.pc →
    Issues .ret s (going (filling s) s.core.lp (s.core.g 15).toNat .ret)) ∧
  (∀ (c : Core) (tgt n : Nat), (c.arrive ⟨tgt, n, .call⟩).sc.depth = c.sc.depth + 1 ∧
    (c.arrive ⟨tgt, n, .ret⟩).sc.depth = c.sc.depth - 1 ∧ (c.arrive ⟨tgt, n, .call⟩).seq.pc = tgt ∧
    (c.arrive ⟨tgt, n, .ret⟩).seq.pc = tgt)

/-- R85: a call from depth d traps WINDOW_OVF where d is at least 13 and 128·(d − 13) + 128 exceeds 32768·POOLB1, or
where d is 65535, and a RET from depth 0 does (R83); no register is written. A call or a RET with an active loop that ends in one
of its delay bundles traps ILLEGAL_DELAY before that (R90). -/
def Sys2Proof.Claims.WindowOverflowTraps : Prop :=
  (∀ s : State, s.core.callOverflows = true ↔
    (13 ≤ s.core.sc.depth ∧ 32768 * s.core.st.b1 < 128 * (s.core.sc.depth - 13) + 128) ∨ s.core.sc.depth = 65535) ∧
  (∀ (d : BitVec 20) (s : State), Full s [31] → NoDelayEnd s.core.lp s.core.seq.pc → s.core.callOverflows = true →
    exec (.call d) s = .next ((s.takeTrap (windowTrap s.core.sc.depth) 0).ended (.trapped cWindow 2))) ∧
  (∀ (a : BitVec 5) (i : BitVec 15) (n : Nat) (s : State), Full s [a, 31] → NoDelayEnd s.core.lp s.core.seq.pc →
    s.core.callOverflows = true → (s.core.g a.toNat).toInt + i.toInt = n → n < 2 ^ 32 →
    exec (.calli a i) s = .next ((s.takeTrap (windowTrap s.core.sc.depth) 0).ended (.trapped cWindow 2))) ∧
  (∀ (s : State), Full s [15] → NoDelayEnd s.core.lp s.core.seq.pc → s.core.sc.depth = 0 →
    exec .ret s = .next ((s.takeTrap (windowTrap 0) 0).ended (.trapped cWindow 2))) ∧
  (∀ (d : BitVec 20) (a : BitVec 5) (i : BitVec 15) (s : State), Full s [15, 31, a] → ¬ NoDelayEnd s.core.lp s.core.seq.pc →
    TrapsWith (.call d) s { cause := 0x02, stage := 0 } 0 ∧ TrapsWith (.calli a i) s { cause := 0x02, stage := 0 } 0 ∧
    TrapsWith .ret s { cause := 0x02, stage := 0 } 0)

/-- R82, R83: CALL and CALLI write PC + 3 to G31 of the caller and begin a transfer at whose target the depth rises
by one; RET begins a transfer to G15 at whose target it falls by one. R84: a call from depth d of 13 or more starts
the spill of slot d − 13 where that slot is in the file, a RET to a slot that is not starts its fill. R83: a CALLI
whose target is negative, or at least 2^32, traps PROT. That a CALL's PC + disp is taken modulo 2^32 (log 15), G[ga]
as a signed number (log 98), and G15 whole as the target of RET (log 100) is the model's choice. R85: a call from
depth d traps WINDOW_OVF where d is at least 13 and 128·(d − 13) + 128 exceeds 32768·POOLB1, or where d is 65535, and
a RET from depth 0 does (R83); no register is written. A call or a RET with an active loop that ends in one of its
delay bundles traps ILLEGAL_DELAY before that (R90). -/
def Obligations.CallsReturnsAndWindows : Prop := Claims.CallsAndReturns ∧ Claims.WindowOverflowTraps

/-- R88: LOOP and LOOPI of an inactive set, whose body an active other loop holds, set LBEG to PC + 3 and LEND to
PC + 2 + end; a count other than 0 is loaded and the set becomes active, a count of 0 begins a transfer past the body.
LBRK (R91) clears ACT of its set and of a loop inside it. -/
def Sys2Proof.Claims.LoopSetUp : Prop :=
  (∀ (n : BitVec 1) (a : BitVec 5) (e : BitVec 12) (s : State), Full s [a] →
    (s.core.lp.set n.toNat).act = false → s.core.lp.nests n.toNat (s.core.seq.pc + 2 + e.toNat) = true →
    ∀ k, (s.core.g a.toNat).toNat = k → SetUp (.loop n a e) n.toNat k e.toNat s) ∧
  (∀ (n : BitVec 1) (k : BitVec 8) (e : BitVec 12) (s : State),
    (s.core.lp.set n.toNat).act = false → s.core.lp.nests n.toNat (s.core.seq.pc + 2 + e.toNat) = true →
    SetUp (.loopi n k e) n.toNat k.toNat e.toNat s) ∧
  (∀ (n : BitVec 1) (s : State), ∃ l, Issues (.lbrk n) s (s.onLp fun _ => l) ∧ (l.set n.toNat).act = false ∧
    ((s.core.lp.set n.toNat).act = false → l = s.core.lp) ∧
    (s.core.lp.outer n.toNat = false → (l.set (1 - n.toNat)) = s.core.lp.set (1 - n.toNat)) ∧
    (s.core.lp.outer n.toNat = true → (l.set (1 - n.toNat)).act = false))

/-- R92: LPIPE of n < 2^63 in an inactive set, no other pipelined loop running, loads n + s − 1 kernel iterations, sets
PV, PS and SV = 1, and zeroes LITR and RRB; n = 0 begins a transfer past the body. -/
def Sys2Proof.Claims.LpipeSetUp : Prop :=
  ∀ (n : BitVec 1) (a : BitVec 5) (g : BitVec 4) (e : BitVec 12) (s : State), Full s [a] →
    (s.core.lp.set n.toNat).act = false → s.core.lp.pv = false → (s.core.g a.toNat).toNat < 2 ^ 63 →
    s.core.lp.nests n.toNat (s.core.seq.pc + 2 + e.toNat) = true →
    NoDelayEnd (s.core.lp.onSet n.toNat fun x =>
      { x with act := decide ((s.core.g a.toNat).toNat ≠ 0), fin := s.core.seq.pc + 2 + e.toNat }) s.core.seq.pc →
    ∃ l tgt, Issues (.lpipe n a g e) s (going s l tgt .none) ∧ l.lstg = g.toNat ∧ l.litr = 0 ∧ l.rrb = 0 ∧
      (l.set n.toNat).beg = s.core.seq.pc + 3 ∧ (l.set n.toNat).fin = s.core.seq.pc + 2 + e.toNat ∧
      ((s.core.g a.toNat).toNat = 0 → tgt = s.core.seq.pc + 3 + e.toNat ∧ (l.set n.toNat).act = false ∧ l.pv = false) ∧
      ((s.core.g a.toNat).toNat ≠ 0 → tgt = s.core.seq.pc + 3 ∧ (l.set n.toNat).act = true ∧ l.pv = true ∧
        l.ps = n.toNat ∧ l.sv = 1 ∧ (l.set n.toNat).cnt = (s.core.g a.toNat).toNat + g.toNat - 1)

/-- R89: the end bundle of the one active loop, not pipelined, goes back to LBEG and counts down while LCNT exceeds 1;
at 1 the loop becomes inactive with LCNT 0 and execution goes on at PC + 1. Where two nested loops end on one bundle, the outer
one counts only as the inner one finishes. R93: at the end of an iteration of a pipelined loop SV shifts by one, its bit 0 the
test of LCNT against LSTG before LCNT counts down, LITR rises by one and RRB falls by one modulo 32; PV returns to 0 with the
last iteration. R94: a slot of the body is gated off by its nibble of the stage map where the SV bit of that stage is 0. -/
def Sys2Proof.Claims.LoopEndRule : Prop :=
  (∀ (l : Loops) (n pc : Nat), n < 2 → (l.set n).act = true → (l.set (1 - n)).act = false → l.pv = false →
    (l.set n).fin = pc →
    (1 < (l.set n).cnt → (l.endBundle pc).2 = (l.set n).beg ∧
      (l.endBundle pc).1 = l.onSet n fun x => { x with cnt := x.cnt - 1 }) ∧
    ((l.set n).cnt ≤ 1 → (l.endBundle pc).2 = pc + 1 ∧
      (l.endBundle pc).1 = l.onSet n fun x => { x with cnt := 0, act := false })) ∧
  (∀ (l : Loops) (pc : Nat), l.inner < 2 → l.l0.act = true → l.l1.act = true → l.pv = false →
    l.l0.fin = pc → l.l1.fin = pc →
    let i := l.inner
    let o := 1 - l.inner
    (1 < (l.set i).cnt → (l.endBundle pc).2 = (l.set i).beg ∧
      (l.endBundle pc).1 = l.onSet i fun x => { x with cnt := x.cnt - 1 }) ∧
    ((l.set i).cnt ≤ 1 → 1 < (l.set o).cnt → (l.endBundle pc).2 = (l.set o).beg ∧
      (l.endBundle pc).1 = (l.onSet i fun x => { x with cnt := 0, act := false }).onSet o fun x => { x with cnt := x.cnt - 1 }) ∧
    ((l.set i).cnt ≤ 1 → (l.set o).cnt ≤ 1 → (l.endBundle pc).2 = pc + 1 ∧
      (l.endBundle pc).1 = (l.onSet i fun x => { x with cnt := 0, act := false }).onSet o fun x =>
        { x with cnt := 0, act := false })) ∧
  (∀ (l : Loops) (n pc : Nat), n < 2 → (l.set n).act = true → (l.set (1 - n)).act = false → l.pv = true → l.ps = n →
    (l.set n).fin = pc →
    let m := (l.endBundle pc).1
    (∀ j < 15, m.sv.getLsbD j = (decide (j < l.lstg) && if j = 0 then decide (l.lstg < (l.set n).cnt) else l.sv.getLsbD (j - 1))) ∧
    m.litr = l.litr + 1 ∧ m.rrb = (l.rrb + 31) % 32 ∧ m.lstg = l.lstg ∧ m.lsm = l.lsm ∧ m.set (1 - n) = l.set (1 - n) ∧
    (1 < (l.set n).cnt → (l.endBundle pc).2 = (l.set n).beg ∧ m.pv = true ∧
      m.set n = { l.set n with cnt := (l.set n).cnt - 1 }) ∧
    ((l.set n).cnt ≤ 1 → (l.endBundle pc).2 = pc + 1 ∧ m.pv = false ∧ m.set n = { l.set n with cnt := 0, act := false })) ∧
  (∀ (c : Core) (k : Nat), k < 8 → c.tr.mlvl = false →
    let x := c.lp.set c.lp.ps
    let stage := Sparse.get 0xFFFFFFFF c.lp.lsm ((c.seq.pc - x.beg) % 16) / 2 ^ (4 * k) % 16
    (c.gated k = true ↔ c.lp.pv = true ∧ x.beg ≤ c.seq.pc ∧ c.seq.pc ≤ x.fin ∧ stage ≠ 15 ∧
      (c.lp.lstg ≤ stage ∨ c.lp.sv.getLsbD stage = false)))

/-- R88: LOOP and LOOPI of an inactive set, whose body an active other loop holds, set LBEG to PC + 3 and LEND to PC
+ 2 + end; a count other than 0 is loaded and the set becomes active, a count of 0 begins a transfer past the body.
LBRK (R91) clears ACT of its set and of a loop inside it. R92: LPIPE of n < 2^63 in an inactive set, no other
pipelined loop running, loads n + s − 1 kernel iterations, sets PV, PS and SV = 1, and zeroes LITR and RRB; n = 0
begins a transfer past the body. R89: the end bundle of the one active loop, not pipelined, goes back to LBEG and
counts down while LCNT exceeds 1; at 1 the loop becomes inactive with LCNT 0 and execution goes on at PC + 1. Where
two nested loops end on one bundle, the outer one counts only as the inner one finishes. R93: at the end of an
iteration of a pipelined loop SV shifts by one, its bit 0 the test of LCNT against LSTG before LCNT counts down, LITR
rises by one and RRB falls by one modulo 32; PV returns to 0 with the last iteration. R94: a slot of the body is
gated off by its nibble of the stage map where the SV bit of that stage is 0. -/
def Obligations.LoopRules : Prop := Claims.LoopSetUp ∧ Claims.LpipeSetUp ∧ Claims.LoopEndRule

/-- R98, R368: TRAP at task level below trap level, with TVEC set, enters the handler: TPC is the next bundle's address,
TCAUSE.CODE is TRAPI, TINFO is imm16, TLVL is 1, SACT takes ACT, ACT is 0, and the next bundle is at TVEC. -/
def Sys2Proof.Claims.TrapEntersTheTaskHandler : Prop :=
  ∀ (i : BitVec 16) (s : State), s.core.tr.mlvl = false → s.core.tr.tlvl = false → s.core.tr.tvec ≠ 0 →
    ∃ t, exec (.trap i) s = .next t ∧
      t.core.tr.tpc = BitVec.ofNat 32 (s.core.lp.endBundle s.core.seq.pc).2 ∧
      bits t.core.tr.tcause.toNat 0 8 = 0x07 ∧ t.core.tr.tinfo = w64 i.toNat ∧ t.core.tr.tlvl = true ∧
      t.core.seq.pc = s.core.tr.tvec.toNat ∧ t.core.seq.xfer = none ∧
      t.core.lp.sact = (s.core.lp.endBundle s.core.seq.pc).1.act ∧ t.core.lp.l0.act = false ∧ t.core.lp.l1.act = false ∧
      t.core.sc = s.core.sc ∧ t.core.st = s.core.st ∧ t.core.eng = s.core.eng ∧ t.core.loc = s.core.loc ∧
      t.mem = s.mem ∧ t.agenda = s.agenda ∧ t.others = s.others

/-- R100, R370, R372, R385: SYSCALL, and BREAK outside SKIP, enter the monitor: MPC is the next bundle's address for
SYSCALL and the bundle's own for BREAK (without an EXT before it), MCAUSE.CODE is 0x00 or 0x08, MINFO is imm16, MLVL is
1 and the next bundle is bundle 0 of the monitor store. A BREAK under SKIP goes on. -/
def Sys2Proof.Claims.ServicesEnterTheMonitor : Prop :=
  (∀ (i : BitVec 16) (s : State), s.core.tr.mlvl = false →
    ∃ t, exec (.syscall i) s = .next t ∧
      t.core.tr.mpc = BitVec.ofNat 32 (s.core.lp.endBundle s.core.seq.pc).2 ∧
      bits t.core.tr.mcause.toNat 0 8 = 0x00 ∧ t.core.tr.minfo = w64 i.toNat ∧ t.core.tr.mlvl = true ∧
      t.core.seq.pc = 0 ∧ t.core.seq.xfer = none ∧ t.core.sc = s.core.sc ∧ t.mem = s.mem ∧ t.agenda = s.agenda) ∧
  (∀ (i : BitVec 16) (s : State), s.core.tr.mlvl = false → s.core.dbg.skip = false → s.core.seq.ext = none →
    ∃ t, exec (.brk i) s = .next t ∧ t.core.tr.mpc = BitVec.ofNat 32 s.core.seq.pc ∧
      bits t.core.tr.mcause.toNat 0 8 = 0x08 ∧ t.core.tr.minfo = w64 i.toNat ∧ t.core.tr.mlvl = true ∧
      t.core.seq.pc = 0 ∧ t.core.seq.xfer = none ∧ t.core.sc = s.core.sc ∧ t.mem = s.mem ∧ t.agenda = s.agenda) ∧
  (∀ (i : BitVec 16) (s : State), s.core.tr.mlvl = false → s.core.dbg.skip = true → Issues (.brk i) s s)

/-- R98, R368: TRAP at task level below trap level, with TVEC set, enters the handler: TPC is the next bundle's
address, TCAUSE.CODE is TRAPI, TINFO is imm16, TLVL is 1, SACT takes ACT, ACT is 0, and the next bundle is at TVEC.
R100, R370, R372, R385: SYSCALL, and BREAK outside SKIP, enter the monitor: MPC is the next bundle's address for
SYSCALL and the bundle's own for BREAK (without an EXT before it), MCAUSE.CODE is 0x00 or 0x08, MINFO is imm16, MLVL
is 1 and the next bundle is bundle 0 of the monitor store. A BREAK under SKIP goes on. -/
def Obligations.TrapAndServiceEntry : Prop := Claims.TrapEntersTheTaskHandler ∧ Claims.ServicesEnterTheMonitor

/-- R99, R100, R102: TRET at trap level, MRET at monitor level and IRET in the arrival handler begin transfers to TPC,
MPC and APC; elsewhere they trap ILLEGAL, PRIV and ILLEGAL. -/
def Sys2Proof.Claims.ReturnsBeginTransfers : Prop :=
  (∀ s : State, NoDelayEnd s.core.lp s.core.seq.pc →
    (s.core.tr.tlvl = true → Issues .tret s (going s s.core.lp s.core.tr.tpc.toNat .tret)) ∧
    (s.core.tr.mlvl = true → Issues .mret s (going s s.core.lp s.core.tr.mpc.toNat .mret)) ∧
    (s.core.tr.ain = true → Issues .iret s (going s s.core.lp s.core.tr.apc.toNat .iret))) ∧
  (∀ s : State,
    (s.core.tr.tlvl = false → exec .tret s = .next ((s.takeTrap { cause := 0x01 } 0).ended (.trapped 0x01 2))) ∧
    (s.core.tr.mlvl = false → exec .mret s = .next ((s.takeTrap { cause := 0x06, stage := 0 } 0).ended (.trapped 0x06 0))) ∧
    (s.core.tr.ain = false → exec .iret s = .next ((s.takeTrap { cause := 0x01 } 0).ended (.trapped 0x01 2))))

/-- R99, R100, R102, R369: at the target of TRET the task leaves trap level, ACT takes SACT and a transfer that TCAUSE
records is pending again; at that of MRET it leaves monitor level; at that of IRET AIN is 0 and ACT takes IACT. -/
def Sys2Proof.Claims.ReturnsRestoreAtTheTarget : Prop :=
  ∀ (c : Core) (tgt n : Nat),
    ((c.arrive ⟨tgt, n, .tret⟩).seq.pc = tgt ∧ (c.arrive ⟨tgt, n, .tret⟩).tr.tlvl = false ∧
      (c.arrive ⟨tgt, n, .tret⟩).lp.act = c.lp.sact ∧
      (bits c.tr.tcause.toNat 18 2 = 0 → (c.arrive ⟨tgt, n, .tret⟩).seq.xfer = none) ∧
      (bits c.tr.tcause.toNat 18 2 ≠ 0 → ∃ a, (c.arrive ⟨tgt, n, .tret⟩).seq.xfer =
        some ⟨bits c.tr.tcause.toNat 32 32, bits c.tr.tcause.toNat 18 2, a⟩)) ∧
    ((c.arrive ⟨tgt, n, .mret⟩).seq.pc = tgt ∧ (c.arrive ⟨tgt, n, .mret⟩).tr.mlvl = false) ∧
    ((c.arrive ⟨tgt, n, .iret⟩).seq.pc = tgt ∧ (c.arrive ⟨tgt, n, .iret⟩).tr.ain = false ∧
      (c.arrive ⟨tgt, n, .iret⟩).lp.act = c.lp.iact)

/-- R99, R100, R102: TRET at trap level, MRET at monitor level and IRET in the arrival handler begin transfers to
TPC, MPC and APC; elsewhere they trap ILLEGAL, PRIV and ILLEGAL. R99, R100, R102, R369: at the target of TRET the
task leaves trap level, ACT takes SACT and a transfer that TCAUSE records is pending again; at that of MRET it leaves
monitor level; at that of IRET AIN is 0 and ACT takes IACT. -/
def Obligations.ReturnsFromHandlers : Prop := Claims.ReturnsBeginTransfers ∧ Claims.ReturnsRestoreAtTheTarget

/-- R58, R64, R102, R301, R320: NOP changes nothing; EXT leaves its immediate for the next bundle; IWAIT issues once AIP
is 1 and holds while it is 0; SEGB of an absent segment of the other half starts its copy, and has no effect where the
segment is resident or loading; ABORT leaves the task's abort, with imm16, as what happens next. -/
def Obligations.OtherControl : Prop :=
  (∀ s : State, Issues .nop s s) ∧
  (∀ (i : BitVec 25) (s : State), Issues (.ext i) s (s.onSeq fun q => { q with ext := some ⟨i, q.pc, q.xfer⟩ })) ∧
  (∀ s : State, s.core.tr.aip = true → Issues .iwait s s) ∧
  (∀ s : State, s.core.tr.aip = false → exec .iwait s = .next (s.ended (.held .iwait))) ∧
  (∀ (g : BitVec 16) (k : Kernel) (x : Segment) (s : State), s.myKernel = some k → k.segs[g.toNat]? = some x →
    (∀ y, k.segAt s.core.seq.pc = some y → y.2.half ≠ x.half) →
    ((s.core.loc.half x.half).has g.toNat = true → Issues (.segb g) s s) ∧
    ((s.core.loc.half x.half).has g.toNat = false →
      Issues (.segb g) s (s.onCore fun c => Core.reclaim { c with loc := c.loc.setHalf x.half (.loading g.toNat) }))) ∧
  (∀ (i : BitVec 16) (s : State),
    Issues (.abort i) s ((s.onSeq fun q => { q with moved := true }).push [.taskAbort s.core.id (2 ^ 16 + i.toNat)]))

/-! ### The S slot without memory (R61 to R64, R104 to R112, R119 to R123) -/

/-- R104: the results of the integer register forms. -/
def Sys2Proof.Claims.IntegerResults : Prop :=
  Gives2 .add 1 (fun a b => a + b) ∧ Gives2 .sub 1 (fun a b => a - b) ∧
  Gives2 .and 1 (fun a b => a &&& b) ∧ Gives2 .or 1 (fun a b => a ||| b) ∧ Gives2 .xor 1 (fun a b => a ^^^ b) ∧
  Gives2 .andn 1 (fun a b => a &&& ~~~b) ∧
  Gives2 .shl 1 (fun a b => a <<< (b &&& 63)) ∧ Gives2 .shr 1 (fun a b => a >>> (b &&& 63)) ∧
  Gives2 .sar 1 (fun a b => BitVec.ofInt 64 (a.toInt / 2 ^ (b &&& 63).toNat)) ∧
  Gives2 .rol 1 (fun a b => (a <<< (b &&& 63)) ||| (a >>> ((64 - (b &&& 63)) &&& 63))) ∧
  Gives2 .mul 3 (fun a b => a * b) ∧
  Gives2 .mulh 3 (fun a b => (a.signExtend 128 * b.signExtend 128).extractLsb' 64 64) ∧
  Gives2 .mulhu 3 (fun a b => (a.setWidth 128 * b.setWidth 128).extractLsb' 64 64) ∧
  Gives2 .min 1 (fun a b => if a.toInt ≤ b.toInt then a else b) ∧
  Gives2 .max 1 (fun a b => if a.toInt ≤ b.toInt then b else a) ∧
  Gives2 .minu 1 (fun a b => if a.toNat ≤ b.toNat then a else b) ∧
  Gives2 .maxu 1 (fun a b => if a.toNat ≤ b.toNat then b else a) ∧
  Gives1 .clz (fun a v => v.toNat ≤ 64 ∧ (∀ i < v.toNat, a.getMsbD i = false) ∧ (v.toNat < 64 → a.getMsbD v.toNat = true)) ∧
  Gives1 .ctz (fun a v => v.toNat ≤ 64 ∧ (∀ i < v.toNat, a.getLsbD i = false) ∧ (v.toNat < 64 → a.getLsbD v.toNat = true)) ∧
  Gives1 .popc (fun a v => v.toNat = (List.range 64).countP fun i => a.getLsbD i) ∧
  Gives1 .sextb (fun a v => v = (a.setWidth 8).signExtend 64) ∧
  Gives1 .sexth (fun a v => v = (a.setWidth 16).signExtend 64) ∧
  Gives1 .sextw (fun a v => v = (a.setWidth 32).signExtend 64)

/-- R104, R105: quotients toward zero and the remainders that belong to them; a divisor of 0 gives −1, 2^64 − 1 and the
dividend; −2^63 by −1 gives −2^63 and remainder 0. The result makes its destination empty and lands after 20 cycles. -/
def Sys2Proof.Claims.DivisionResults : Prop :=
  GivesEm .div 20 (fun a b => if b = 0 then -1 else a.sdiv b) ∧
  GivesEm .divu 20 (fun a b => if b = 0 then BitVec.allOnes 64 else a / b) ∧
  GivesEm .rem 20 (fun a b => if b = 0 then a else a - b * a.sdiv b) ∧
  GivesEm .remu 20 (fun a b => if b = 0 then a else a - b * (a / b)) ∧
  (∀ (w : Bool) (d a b : BitVec 5) (s : State), Full s [a, b, d] → s.core.g a.toNat = BitVec.intMin 64 →
    s.core.g b.toNat = -1 →
    Issues (.div w d a b) s (s.writeGEm 20 d.toNat (BitVec.intMin 64)) ∧
    Issues (.rem w d a b) s (s.writeGEm 20 d.toNat 0))

/-- R106, R64: the immediate forms and MOVI; the immediate is sign-extended from its field, with the EXT prefix above
the field where one stands. -/
def Sys2Proof.Claims.ImmediateResults : Prop :=
  GivesImm .addi 1 (fun a b => a + b) ∧ GivesImm .andi 1 (fun a b => a &&& b) ∧ GivesImm .ori 1 (fun a b => a ||| b) ∧
  GivesImm .xori 1 (fun a b => a ^^^ b) ∧ GivesImm .muli 3 (fun a b => a * b) ∧
  GivesAmt .shli (fun a n => a <<< n) ∧ GivesAmt .shri (fun a n => a >>> n) ∧
  GivesAmt .sari (fun a n => BitVec.ofInt 64 (a.toInt / 2 ^ n)) ∧
  (∀ (d : BitVec 5) (i : BitVec 20) (s : State), Full s [d] → Issues (.movi d i) s (s.writeG 1 d.toNat (wide s i)))

/-- R104: the results of the integer register forms. R104, R105: quotients toward zero and the remainders that belong
to them; a divisor of 0 gives −1, 2^64 − 1 and the dividend; −2^63 by −1 gives −2^63 and remainder 0. The result
makes its destination empty and lands after 20 cycles. R106, R64: the immediate forms and MOVI; the immediate is
sign-extended from its field, with the EXT prefix above the field where one stands. -/
def Obligations.IntegerAndImmediateResults : Prop := Claims.IntegerResults ∧ Claims.DivisionResults ∧ Claims.ImmediateResults

/-- R107, R70: what CMP and CMPI set their predicate to, for the six conditions. -/
def Sys2Proof.Claims.CompareResults : Prop :=
  Compares 0 (fun a b => a == b) ∧ Compares 1 (fun a b => a != b) ∧
  Compares 2 (fun a b => decide (a.toInt < b.toInt)) ∧ Compares 3 (fun a b => decide (a.toNat < b.toNat)) ∧
  Compares 4 (fun a b => decide (a.toInt ≤ b.toInt)) ∧ Compares 5 (fun a b => decide (a.toNat ≤ b.toNat))

/-- R108, R109: the predicate operations and SEL; P0 reads true and ignores writes, P8 to P15 are LSTAT.SV[7:0]. -/
def Sys2Proof.Claims.PredicateResults : Prop :=
  (∀ (d a b : BitVec 4) (s : State),
    Issues (.pand d a b) s (s.writeP 1 d (s.core.pred a.toNat && s.core.pred b.toNat)) ∧
    Issues (.por d a b) s (s.writeP 1 d (s.core.pred a.toNat || s.core.pred b.toNat)) ∧
    Issues (.pxor d a b) s (s.writeP 1 d (s.core.pred a.toNat ^^ s.core.pred b.toNat)) ∧
    Issues (.pandn d a b) s (s.writeP 1 d (s.core.pred a.toNat && !s.core.pred b.toNat)) ∧
    Issues (.pnot d a) s (s.writeP 1 d (!s.core.pred a.toNat))) ∧
  (∀ (w : Bool) (d a b : BitVec 5) (p : BitVec 4) (s : State), Full s [a, b, d] →
    (s.core.pred p.toNat = true → Issues (.sel w d a b p) s (s.writeG 1 d.toNat (s.core.g a.toNat))) ∧
    (s.core.pred p.toNat = false → Issues (.sel w d a b p) s (s.writeG 1 d.toNat (s.core.g b.toNat)))) ∧
  (∀ (c : Core) (v : Bool), c.pred 0 = true ∧ c.land (.p 0 v) = c) ∧
  (∀ (c : Core) (n : Nat) (v : Bool), 1 ≤ n → n ≤ 15 → ∀ m ≤ 15, (c.land (.p n v)).pred m = if m = n then v else c.pred m) ∧
  (∀ (c : Core) (n : Nat), n < 8 → c.pred (8 + n) = c.lp.sv.getLsbD n)

/-- R107, R70: what CMP and CMPI set their predicate to, for the six conditions. R108, R109: the predicate operations
and SEL; P0 reads true and ignores writes, P8 to P15 are LSTAT.SV[7:0]. -/
def Obligations.ComparesAndPredicates : Prop := Claims.CompareResults ∧ Claims.PredicateResults

/-- R61, R62: a scalar result of latency `lat` is read from the cycle it lands in, and not before; no other register
changes. A result of an em producer leaves its register empty until then, and full from then on. (Of a task that has been
resumed and cannot issue yet no result lands; no other result is due by itself.) -/
def Sys2Proof.Claims.ScalarResultLands : Prop :=
  ∀ (s : State) (g lat : Nat) (v : Word), g < 32 → s.core.flight = [] →
    s.core.seq.resumed = false → (∀ w ∈ s.core.waiting, w.latest = none) →
    (∀ n < lat, ∀ h, (after (s.writeG lat g v) n).g h = s.core.g h) ∧
    (∀ n, lat ≤ n → (after (s.writeG lat g v) n).g g = v ∧
      ∀ h, s.core.phys h ≠ s.core.phys g → (after (s.writeG lat g v) n).g h = s.core.g h) ∧
    (∀ n < lat, (after (s.writeGEm lat g v) n).g g = s.core.g g ∧ (after (s.writeGEm lat g v) n).gEmpty g = true) ∧
    (∀ n, lat ≤ n → (after (s.writeGEm lat g v) n).g g = v ∧ (after (s.writeGEm lat g v) n).gEmpty g = false ∧
      ∀ h, s.core.phys h ≠ s.core.phys g → (after (s.writeGEm lat g v) n).g h = s.core.g h ∧
        (after (s.writeGEm lat g v) n).gEmpty h = s.core.gEmpty h)

/-- R110, R111: the FP64 forms compute the exact result and round it once, in RNE or in the mode of the conversion. -/
def Sys2Proof.Claims.Fp64Results : Prop :=
  GivesFp .fadd false Machine.Num.add ∧ GivesFp .fsub false (fun a b => a.add b.negate) ∧ GivesFp .fmul false Machine.Num.mul ∧
  GivesFp .fdiv true Machine.Num.div ∧ GivesFp .fmin false (Machine.Num.minMax false) ∧ GivesFp .fmax false (Machine.Num.minMax true) ∧
  GivesFp1 .fsqrt true Machine.Num.sqrt ∧ GivesFp1 .fabs false (fun a => (a.abs, 0)) ∧ GivesFp1 .fneg false (fun a => (a.negate, 0)) ∧
  (∀ (w : Bool) (d a b c : BitVec 5) (s : State), Full s [a, b, c, d] →
    let r := Machine.Num.fma (fp64.decode (s.gn a)) (fp64.decode (s.gn b)) (fp64.decode (s.gn c))
    let v := r.1.rne fp64
    Issues (.ffmaD w d a b c) s ((s.writeG 4 d.toNat (w64 v.1)).raiseFlags 4 2 (r.2 ||| v.2))) ∧
  (∀ (w : Bool) (d a : BitVec 5) (m : BitVec 3) (s : State), Full s [a, d] → m.toNat < 4 →
    let v := (Machine.Num.ofInt (s.core.g a.toNat).toInt).round fp64 (RMode.ofCode m.toNat) false 0
    Issues (.fcvtid w d a m) s ((s.writeG 4 d.toNat (w64 v.1)).raiseFlags 4 2 v.2)) ∧
  (∀ (w : Bool) (d a : BitVec 5) (m : BitVec 3) (s : State), Full s [a, d] → m.toNat < 4 →
    let v := (fp64.decode (s.gn a)).toIntN 64 (RMode.ofCode m.toNat) 0
    Issues (.fcvtdi w d a m) s ((s.writeG 4 d.toNat (BitVec.ofInt 64 v.1)).raiseFlags 4 2 v.2)) ∧
  (∀ (w : Bool) (d a : BitVec 5) (s : State), Full s [a, d] →
    let x := (s.drawV 0).1
    let u := (s.drawV 0).2
    let v := (Machine.Num.ofInt (s.core.g a.toNat).toInt).round fp64 .rsto false x
    let y := (fp64.decode (s.gn a)).toIntN 64 .rsto x
    Issues (.fcvtid w d a 4) s ((u.writeG 4 d.toNat (w64 v.1)).raiseFlags 4 2 v.2) ∧
    Issues (.fcvtdi w d a 4) s ((u.writeG 4 d.toNat (BitVec.ofInt 64 y.1)).raiseFlags 4 2 y.2)) ∧
  (∀ (w : Bool) (p : BitVec 4) (a b : BitVec 5) (m : BitVec 3) (s : State), Full s [a, b] → m.toNat < 4 →
    let v := Machine.Num.rel (relOf m.toNat) (fp64.decode (s.gn a)) (fp64.decode (s.gn b))
    Issues (.fcmp w p a b m) s ((s.writeP 4 p v.1).raiseFlags 4 2 v.2))

/-- R27, R30, R110, R111: the operands on which the FP64 results are special, and their exception bits. -/
def Sys2Proof.Claims.Fp64Specials : Prop :=
  (∀ (s t : Bool) (m n : Nat) (e g : Int), m ≠ 0 →
    Machine.Num.div (.fin s m e) (.fin t 0 g) = (.inf (s != t), flagDZ) ∧
    Machine.Num.div (.fin s 0 e) (.fin t 0 g) = (.nan false, flagNV) ∧
    (Machine.Num.sqrt (.fin true m e)).1 = .nan false ∧ (Machine.Num.sqrt (.fin true m e)).2 = flagNV ∧
    (Machine.Num.sqrt (.fin true 0 e)).1.rne fp64 = (2 ^ 63, 0) ∧
    ((Machine.Num.add (.fin s m e) (.fin (!s) m e)).1.rne fp64 = (0, 0)) ∧
    (Machine.Num.fma (.inf s) (.fin t 0 g) (.nan false)).2 = flagNV ∧
    (Machine.Num.fma (.inf s) (.fin t 0 g) (.nan false)).1 = .nan false ∧
    (∀ q : Bool, Machine.Num.fma (.fin t 0 g) (.inf s) (.nan q) = (.nan false, flagNV)) ∧
    (Machine.Num.mul (.inf s) (.fin t n g)).2 = (if n = 0 then flagNV else 0)) ∧
  (∀ s t : Bool, Machine.Num.div (.inf s) (.inf t) = (.nan false, flagNV) ∧
    (Machine.Num.add (.inf s) (.inf t)) = (if s = t then (.inf s, 0) else (.nan false, flagNV))) ∧
  (∀ (r : Rel) (q : Bool) (x : Machine.Num), (Machine.Num.rel r (.nan q) x).1 = (r == .ne) ∧ (Machine.Num.rel r x (.nan q)).1 = (r == .ne))

/-- R26, R51: rounding the value of a code to the code's own format gives the code back, raises nothing, and depends on
neither the mode, nor SAT, nor the word drawn: for every finite code of every format, and for FP32 and FP64 in
particular. -/
def Sys2Proof.Claims.RoundingKeepsCodes : Prop :=
  ∀ (f : Fmt) (md : RMode) (sat : Bool) (w x : Nat), f ∈ [fp64, fp32, fp16, bf16, e5m2, e4m3, e2m1] →
    x < 2 ^ (1 + f.eb + f.mb) → (f.decode x).isFin = true → (f.decode x).round f md sat w = (x, 0)

/-- R110, R111: the FP64 forms compute the exact result and round it once, in RNE or in the mode of the conversion.
R27, R30, R110, R111: the operands on which the FP64 results are special, and their exception bits. R26, R51:
rounding the value of a code to the code's own format gives the code back, raises nothing, and depends on neither the
mode, nor SAT, nor the word drawn: for every finite code of every format, and for FP32 and FP64 in particular. -/
def Obligations.Fp64Arithmetic : Prop := Claims.Fp64Results ∧ Claims.Fp64Specials ∧ Claims.RoundingKeepsCodes

/-- R119, R121: MOVX writes a staging register, TITW a word of the identifier table where the value is legal, TITR reads
one; an illegal value traps ILLEGAL and changes no entry. -/
def Obligations.StagingAndIdentifiers : Prop :=
  (∀ (w : Bool) (e : BitVec 2) (x : BitVec 3) (a : BitVec 5) (s : State), Full s [a] →
    Issues (.movx w e x a) s (s.later 1 (.staging (8 * e.toNat + x.toNat) (s.core.g a.toNat)))) ∧
  (∀ (w : Bool) (g : BitVec 5) (t : BitVec 6) (n : BitVec 3) (s : State), Full s [g] →
    (titLegal n.toNat (s.gn g) = true →
      Issues (.titw w g t n) s (s.later 1 (.tit (5 * t.toNat + n.toNat) (s.core.g g.toNat)))) ∧
    (titLegal n.toNat (s.gn g) = false → TrapsWith (.titw w g t n) s { cause := 0x01 } 1) ∧
    Issues (.titr w g t n) s (s.writeG 1 g.toNat (Sparse.get 0 s.core.st.tit (5 * t.toNat + n.toNat)))) ∧
  (∀ v : Nat, titLegal 0 v = true ↔ v < 2 ^ 33 ∧ v / 2 ^ 7 % 2 = 0 ∧ v / 2 ^ 14 % 4 < 2 ∧ v % 32 < 14 ∧
    ¬ (8 ≤ v / 2 ^ 8 % 16 ∧ v / 2 ^ 8 % 16 < 12)) ∧
  (∀ v : Nat, (titLegal 1 v = true ↔ v < 2 ^ 52 ∧ v % 64 = 0) ∧ (titLegal 2 v = true ↔ v < 2 ^ 40 ∧ v % 64 = 0) ∧
    (titLegal 3 v = true ↔ v < 2 ^ 40 ∧ v % 64 = 0) ∧ (titLegal 4 v = true ↔ v < 2 ^ 52 ∧ v % 128 = 0)) ∧
  (∀ (c : Core) (k j : Nat) (v : Word), Sparse.get 0 (c.land (.staging k v)).st.x j = (if j = k then v else Sparse.get 0 c.st.x j) ∧
    Sparse.get 0 (c.land (.tit k v)).st.tit j = (if j = k then v else Sparse.get 0 c.st.tit j))

/-- R120, R222: MOVRS reads and MOVSR writes the system register named, at latency 1; DTB and LEASE_HORIZON make the
destination empty and land within 40 cycles; a register from 0x100 on traps PRIV below monitor level, and a number not
assigned traps ILLEGAL. -/
def Sys2Proof.Claims.SystemRegisterMoves : Prop :=
  (∀ (w : Bool) (g : BitVec 5) (n : BitVec 12) (v : Nat) (s : State), Full s [g] →
    (0x100 ≤ n.toNat → s.core.tr.mlvl = true) → s.readSr n.toNat = some v →
    (n ≠ 0x003 → n ≠ 0x006 → Issues (.movrs w g n) s (s.writeG 1 g.toNat (w64 v))) ∧
    (n = 0x003 ∨ n = 0x006 → Issues (.movrs w g n) s
      ((s.emptyG g.toNat).awaits
        { dst := [.g (s.core.phys g.toNat) (w64 v) true], moved := true, latest := some (s.core.seq.cyc + 40) })) ∧
    Issues (.movsr w g n) s (s.later 1 (.sr n.toNat (s.core.g g.toNat)))) ∧
  (∀ (w : Bool) (g : BitVec 5) (n : BitVec 12) (s : State), Full s [g] → s.core.tr.mlvl = false → 0x100 ≤ n.toNat →
    TrapsWith (.movrs w g n) s { cause := 0x06, stage := 0 } 1 ∧ TrapsWith (.movsr w g n) s { cause := 0x06, stage := 0 } 1) ∧
  (∀ (w : Bool) (g : BitVec 5) (n : BitVec 12) (s : State), Full s [g] → n.toNat < 0x100 → s.readSr n.toNat = none →
    TrapsWith (.movrs w g n) s { cause := 0x01, stage := 0 } 1 ∧ TrapsWith (.movsr w g n) s { cause := 0x01, stage := 0 } 1)

/-- R43, R95, R96, R103, R112, R120, R126, R374 to R376: what a write of a system register leaves to be read, field by field; a field of
its own that R8 or its rule keeps from a write stays. A write of a handle's binding makes the handle unresolved. The registers that are
read only keep their value. -/
def Sys2Proof.Claims.SystemRegisterWrites : Prop :=
  (∀ (s : State) (n v : Nat), v < 2 ^ 64 →
    (n ∈ [0x018, 0x019, 0x01B, 0x01C, 0x038, 0x039, 0x040, 0x042] →
      (s.onCore fun c => c.writeSr n v).readSr n = some (v % 2 ^ 32)) ∧
    (n ∈ [0x01A, 0x01D, 0x01F, 0x043, 0x04C, 0x04D] → (s.onCore fun c => c.writeSr n v).readSr n = some v) ∧
    (n = 0x005 → (s.onCore fun c => c.writeSr n v).readSr n = some (v % 32)) ∧
    (n = 0x01E → (s.onCore fun c => c.writeSr n v).readSr n = some (v % 16)) ∧
    (0x028 ≤ n ∧ n ≤ 0x037 → (s.onCore fun c => c.writeSr n v).readSr n = some (v % 2 ^ 32)) ∧
    (n ∈ [0x050, 0x051, 0x052, 0x053] →
      (s.onCore fun c => c.writeSr n v).readSr n = some (if v % 2 ^ 32 = 0 then 1 else v % 2 ^ 32)) ∧
    (n ∈ [0x100] → (s.onCore fun c => c.writeSr n v).readSr n = some (v % 2 ^ 32)) ∧
    (n ∈ [0x102, 0x103, 0x104, 0x108, 0x109, 0x10A, 0x10B] → (s.onCore fun c => c.writeSr n v).readSr n = some v)) ∧
  (∀ (s : State) (n v : Nat), v < 2 ^ 64 →
    let c := s.core
    let gives (n x : Nat) : Prop := (s.onCore fun c => c.writeSr n v).readSr n = some x
    let cause (old : Nat) (level : Bool) : Nat := v / 2 ^ 32 * 2 ^ 32 +
      (if v / 2 ^ 20 % 4 = 3 then old / 2 ^ 20 % 4 else v / 2 ^ 20 % 4) * 2 ^ 20 +
      (if v / 2 ^ 18 % 4 = 3 then old / 2 ^ 18 % 4 else v / 2 ^ 18 % 4) * 2 ^ 18 + level.toNat * 2 ^ 16 + v % 2 ^ 8
    let mode (x : VEngine) : Nat :=
      let ty := if v % 16 < 10 then v % 16 else x.type
      min (v / 2 ^ 32 % 2 ^ 13) (4096 / typeBytes ty) * 2 ^ 32 + v / 2 ^ 10 % 32 * 2 ^ 10 + v / 2 ^ 7 % 8 * 2 ^ 7 +
        (if v / 2 ^ 4 % 8 < 5 then v / 2 ^ 4 % 8 else x.rm) * 2 ^ 4 + ty
    gives 0x020 (v / 2 ^ 32 % 2 ^ 15 * 2 ^ 32 + v / 2 ^ 16 % 2 ^ 5 * 2 ^ 16 + v / 2 ^ 4 % 2 ^ 6 * 2 ^ 4 + v % 2 ^ 3) ∧
    gives 0x03A ((if v / 2 % 2 = 1 then c.tr.apend.toNat else c.tr.asrc.toNat) * 2 ^ 8 + c.tr.ain.toNat * 2 ^ 2 + v % 4) ∧
    gives 0x041 (cause c.tr.tcause.toNat c.tr.tlvl) ∧ gives 0x101 (cause c.tr.mcause.toNat c.tr.mlvl) ∧
    gives 0x048 (mode c.vec.e0) ∧ gives 0x049 (mode c.vec.e1) ∧ gives 0x04A (v % 2 ^ 13) ∧ gives 0x04B (v % 2 ^ 13) ∧
    (0x054 ≤ n → n ≤ 0x057 → let old := Sparse.get 0 c.st.ag (n - 0x054)
      gives n ((if v / 2 ^ 6 % 4 < 2 then v / 2 ^ 6 % 4 else old / 2 ^ 6 % 4) * 2 ^ 6 + if v % 8 < 6 then v % 8 else old % 8)) ∧
    (∀ h < 16, let old := (c.handle h).w0.toNat
      gives (0x120 + 2 * h) ((if v / 2 ^ 62 = 3 then old / 2 ^ 62 else v / 2 ^ 62) * 2 ^ 62 + v / 2 ^ 60 % 4 * 2 ^ 60 + v % 2 ^ 52) ∧
      gives (0x121 + 2 * h) (v % 2 ^ 53) ∧ ∀ m ∈ [0x120 + 2 * h, 0x121 + 2 * h],
        let b := (c.writeSr m v).handle h
        b.tr = none ∧ b.rev = false ∧ b.gv = false) ∧
    gives 0x140 ((if v / 2 ^ 20 % 16 < 13 then v / 2 ^ 20 % 16 else c.dbg.sper) * 2 ^ 20 + v / 2 ^ 4 % 16 * 2 ^ 4 +
      (c.dbg.stop || v.testBit 3).toNat * 2 ^ 3) ∧
    gives 0x141 (v / 2 ^ 12 % 2 ^ 40 * 2 ^ 12 + v % 2 ^ 5) ∧ gives 0x142 v ∧ gives 0x144 (v % 4) ∧
    gives 0x145 (v / 2 ^ 32 * 2 ^ 32 + v / 2 ^ 8 % 2 * 2 ^ 8 + c.dbg.unscr.toNat * 2 ^ 7 + c.dbg.ovf.toNat * 2 ^ 6 +
      c.dbg.exact.length)) ∧
  (∀ (c : Core) (n v : Nat), n ∈ [0x001, 0x002, 0x003, 0x004, 0x006] ∨ (0x008 ≤ n ∧ n ≤ 0x012) ∨ (0x058 ≤ n ∧ n ≤ 0x06F) →
    c.writeSr n v = c)

/-- R120, R222: MOVRS reads and MOVSR writes the system register named, at latency 1; DTB and LEASE_HORIZON make the
destination empty and land within 40 cycles; a register from 0x100 on traps PRIV below monitor level, and a number
not assigned traps ILLEGAL. R43, R95, R96, R103, R112, R120, R126, R374 to R376: what a write of a system register
leaves to be read, field by field; a field of its own that R8 or its rule keeps from a write stays. A write of a
handle's binding makes the handle unresolved. The registers that are read only keep their value. -/
def Obligations.SystemRegisters : Prop := Claims.SystemRegisterMoves ∧ Claims.SystemRegisterWrites

/-- R63: an S-slot instruction that names an empty register holds its bundle while B = 1, and traps FE_EMPTY, the
register in TINFO, while B = 0; it changes nothing else. (MOVRS and MOVSR come so far only with a number that R59 lets pass
before: one that is assigned, and below 0x100 at task level.) -/
def Sys2Proof.Claims.EmptyRegistersHoldOrTrap : Prop :=
  ∀ (i : Instr) (w : Bool) (gs : List (BitVec 5)) (s : State), scalarRegs i = some (w, gs) → ¬ Full s gs →
    (∀ n, srOf i = some n → (s.readSr n).isSome = true ∧ (n < 0x100 ∨ s.core.tr.mlvl = true)) →
    ∃ g ∈ gs, s.core.gEmpty g.toNat = true ∧
      (w = true → exec i s = .next (s.ended (.held (.emptyG (s.core.phys g.toNat))))) ∧
      (w = false → TrapsWith i s { cause := 0x05, stage := 1, info := g.toNat * 2 ^ 8 } 1)

/-- R61, R62: a scalar result of latency `lat` is read from the cycle it lands in, and not before; no other register
changes. A result of an em producer leaves its register empty until then, and full from then on. (Of a task that has
been resumed and cannot issue yet no result lands; no other result is due by itself.) R63: an S-slot instruction that
names an empty register holds its bundle while B = 1, and traps FE_EMPTY, the register in TINFO, while B = 0; it
changes nothing else. (MOVRS and MOVSR come so far only with a number that R59 lets pass before: one that is
assigned, and below 0x100 at task level.) -/
def Obligations.ScalarRegistersFillAndHold : Prop := Claims.ScalarResultLands ∧ Claims.EmptyRegistersHoldOrTrap

/-! ### Scalar memory access and handles (R87, R113 to R118, R225 to R229) -/

/-- R114: the loads read `size` bytes and extend them; the register is empty until the value lands. -/
def Sys2Proof.Claims.LoadResults : Prop :=
  Loads .ldB 1 true ∧ Loads .ldBu 1 false ∧ Loads .ldH 2 true ∧ Loads .ldHu 2 false ∧ Loads .ldW 4 true ∧
  Loads .ldWu 4 false ∧ Loads .ldD 8 false

/-- R115: the stores write the low `size` bytes of the register. -/
def Sys2Proof.Claims.StoreEffects : Prop :=
  Stores .stB 1 false ∧ Stores .stH 2 false ∧ Stores .stW 4 false ∧ Stores .stD 8 false ∧ Stores .stntD 8 true

/-- R114: the loads read `size` bytes and extend them; the register is empty until the value lands. R115: the stores
write the low `size` bytes of the register. -/
def Obligations.LoadsAndStores : Prop := Claims.LoadResults ∧ Claims.StoreEffects

/-- R116 to R118: the atomics; a host page takes ADD, SWAP and CAS alone, and another function on it traps
ATOMIC_HOST. -/
def Obligations.AtomicResults : Prop :=
  Atomic .amoAdd 0 false (fun old x _ => old + x) true ∧ Atomic .amoAnd 1 false (fun old x _ => old &&& x) false ∧
  Atomic .amoOr 2 false (fun old x _ => old ||| x) false ∧ Atomic .amoXor 3 false (fun old x _ => old ^^^ x) false ∧
  Atomic .amoMin 4 false (fun old x _ => if old.toInt ≤ x.toInt then old else x) false ∧
  Atomic .amoMax 5 false (fun old x _ => if old.toInt ≤ x.toInt then x else old) false ∧
  Atomic .amoMinu 6 false (fun old x _ => if old.toNat ≤ x.toNat then old else x) false ∧
  Atomic .amoMaxu 7 false (fun old x _ => if old.toNat ≤ x.toNat then x else old) false ∧
  Atomic .amoSwap 8 false (fun _ x _ => x) true ∧
  Atomic .cas 9 true (fun old x y => if old = x then y else old) true

/-- R113, R226: the checks of an access through a handle, in their order, and where it goes. -/
def Sys2Proof.Claims.HandleChecks : Prop :=
  ∀ (s : State) (h : Nat) (off : Int) (size : Nat) (u : Use), 0 < size →
    let y := s.core.handle h
    let a : Int := y.vbase + off
    let denied : Prop := (u.reads = true ∧ y.r = false) ∨ (u.writes = true ∧ y.w = false)
    (a % size ≠ 0 → ∃ t, s.scalarTarget h off size u = .trap t s ∧ t.cause = 0x14) ∧
    (a % size = 0 → y.kind = 0 ∨ y.kind = 3 ∨ off < 0 ∨ y.limit < off + size ∨ denied →
      ∃ t, s.scalarTarget h off size u = .trap t s ∧ t.cause = 0x11) ∧
    (a % size = 0 → y.kind = 2 → 0 ≤ off → off + size ≤ y.limit → ¬ denied →
      (32768 * s.core.st.b1 ≤ a → a + size ≤ 32768 * s.core.st.b2 →
        s.scalarTarget h off size u = .ok (.pool a.toNat) s) ∧
      (¬ (32768 * s.core.st.b1 ≤ a ∧ a + size ≤ 32768 * s.core.st.b2) →
        ∃ t, s.scalarTarget h off size u = .trap t s ∧ t.cause = 0x11 ∧ bits t.info 28 4 = 4)) ∧
    (a % size = 0 → y.kind = 1 → 0 ≤ off → off + size ≤ y.limit → ¬ denied →
      (2 ^ 52 ≤ a → ∃ t, s.scalarTarget h off size u = .trap t s ∧ t.cause = 0x11) ∧
      (a < 2 ^ 52 → y.rev = true → ∃ t, s.scalarTarget h off size u = .trap t s ∧ t.cause = 0x12) ∧
      (a < 2 ^ 52 → y.rev = false → s.core.dbg.wld = false → s.core.dbg.wst = false →
        ∀ x, y.tr = some x → x.covers s.core.ctx a.toNat = true → s.live x = true → leafPermits u x.leaf.toNat = true →
          s.paFault (x.pa a.toNat) = none →
          s.scalarTarget h off size u = .ok (.mem (x.pa a.toNat) x.leaf.toNat a.toNat) s))

/-- R115, R189, R190, R198: what a read and a write of a target do. The pool, and an uncached page homed on this package
outside a reduction region, are read and written in place, and every other byte stays; a cached read that hits gives the
bytes of the line; bytes homed on another package are asked for there; a cached write changes no memory where its line is present. -/
def Sys2Proof.Claims.ReadsAndWritesOfTargets : Prop :=
  (∀ (s : State) (a n : Nat), s.loadFrom (.pool a) n = (Sparse.read 0 s.core.loc.pool a n, .pool, s)) ∧
  (∀ (s : State) (pa leaf va n : Nat), s.cached leaf = false →
    s.loadFrom (.mem pa leaf va) n =
      if s.remote pa then (List.replicate n 0, .away ⟨pa, n, 0, [], false⟩, s)
      else (s.homeBytes pa n, if paSpace pa = 1 then .host else .far none, s)) ∧
  (∀ (s : State) (pa leaf va n : Nat) (x : Line), s.cached leaf = true → s.core.loc.line pa = some x → x.hits pa n = true →
    s.loadFrom (.mem pa leaf va) n =
      (Sparse.read 0 x.bytes (pa % 256) n, .hit (512 * (s.core.st.b2 + x.way) + 4 * (pa / 2 ^ 8 % 2 ^ 7) + pa / 2 ^ 6 % 4), s)) ∧
  (∀ (s : State) (a : Nat) (bs : List Byte) (nt : Bool), (s.storeTo (.pool a) bs nt).mem = s.mem ∧
    ∀ k, Sparse.get 0 (s.storeTo (.pool a) bs nt).core.loc.pool k =
      if a ≤ k ∧ k < a + bs.length then bs.getD (k - a) 0 else Sparse.get 0 s.core.loc.pool k) ∧
  (∀ (s : State) (pa leaf va : Nat) (bs : List Byte) (nt : Bool), s.core.loc.line pa = none → s.remote pa = false →
    leafClass leaf ≠ 2 → (nt = true ∨ s.cached leaf = false) →
    let t := s.storeTo (.mem pa leaf va) bs nt
    t.core.loc.pool = s.core.loc.pool ∧ t.core.loc.lines = s.core.loc.lines ∧
    ∀ k, Memory.byte t.mem k = if s.key pa ≤ k ∧ k < s.key pa + bs.length then bs.getD (k - s.key pa) 0 else Memory.byte s.mem k) ∧
  (∀ (s : State) (pa leaf va : Nat) (bs : List Byte) (x : Line), s.core.loc.line pa = some x → s.cached leaf = true →
    leafNt leaf = false → (s.storeTo (.mem pa leaf va) bs false).mem = s.mem)

/-- R113, R226: the checks of an access through a handle, in their order, and where it goes. R115, R189, R190, R198:
what a read and a write of a target do. The pool, and an uncached page homed on this package outside a reduction
region, are read and written in place, and every other byte stays; a cached read that hits gives the bytes of the
line; bytes homed on another package are asked for there; a cached write changes no memory where its line is present. -/
def Obligations.AccessChecks : Prop := Claims.HandleChecks ∧ Claims.ReadsAndWritesOfTargets

/-- R227 to R229: XLAT gives the null, window and pool results and that of an unexpired handle translation; HREV clears
the translation, REV and the descriptor copy of a memory-kind handle and does nothing to another; HINFO describes the
handle. -/
def Sys2Proof.Claims.HandleInstructions : Prop :=
  (∀ (w : Bool) (d : BitVec 5) (h : BitVec 4) (a : BitVec 5) (s : State), Full s [a, d] →
    let y := s.core.handle h.toNat
    let off := (s.core.g a.toNat).toInt
    let r := s.xlatValue h.toNat off
    Issues (.xlat w d h a) s (r.2.writeGEm 24 d.toNat (w64 r.1)) ∧
    (y.kind = 0 ∨ y.kind = 3 → r = (2 ^ 63 + 3 * 2 ^ 60, s)) ∧
    (y.kind = 1 ∨ y.kind = 2 → off < 0 ∨ y.limit ≤ off → r = (2 ^ 63 + 2 * 2 ^ 60, s)) ∧
    (y.kind = 2 → 0 ≤ off → off < y.limit →
      r = (2 ^ 62 + 2 ^ 61 + 7 * 2 ^ 58 + (y.vbase + off.toNat) % 2 ^ 52, s)) ∧
    (∀ x, y.kind = 1 → 0 ≤ off → off < y.limit → y.vbase + off.toNat < 2 ^ 52 → y.tr = some x →
      x.covers s.core.ctx (y.vbase + off.toNat) = true → s.live x = true →
      r = ((if leafW x.leaf.toNat then 2 ^ 62 else 0) + (if leafR x.leaf.toNat then 2 ^ 61 else 0) +
        leafClass x.leaf.toNat * 2 ^ 58 + x.pa (y.vbase + off.toNat), s)) ∧
    (y.kind = 1 → 0 ≤ off → off < y.limit → y.vbase + off.toNat < 2 ^ 52 →
      s.xlatFinds h.toNat (y.vbase + off.toNat) = none → r.1 = 2 ^ 63 + 2 ^ 60)) ∧
  (∀ (w : Bool) (h : BitVec 4) (s : State),
    ((s.core.handle h.toNat).kind = 1 → ∃ t, Issues (.hrev w h) s t ∧
      t = { s with core := { s.core with st := t.core.st } } ∧
      (t.core.handle h.toNat).tr = none ∧ (t.core.handle h.toNat).rev = false ∧ (t.core.handle h.toNat).gv = false ∧
      (t.core.handle h.toNat).w0 = (s.core.handle h.toNat).w0 ∧ (t.core.handle h.toNat).w1 = (s.core.handle h.toNat).w1 ∧
      ∀ k, k ≠ h.toNat → t.core.handle k = s.core.handle k) ∧
    ((s.core.handle h.toNat).kind ≠ 1 → Issues (.hrev w h) s s)) ∧
  (∀ (w : Bool) (d : BitVec 5) (h : BitVec 4) (s : State), Full s [d] →
    let y := s.core.handle h.toNat
    Issues (.hinfo w d h) s (s.writeG 1 d.toNat (w64 (s.hinfo h.toNat))) ∧
    (y.tr = none → s.hinfo h.toNat = (if y.rev then 2 ^ 24 else 0) + (if y.w then 8 else 0) + (if y.r then 4 else 0) +
      y.kind + 3 * 16) ∧
    (∀ x, y.tr = some x → x.level < 4 → s.dtb < x.exp → bits (s.hinfo h.toNat) 32 32 = min ((x.exp - s.dtb) / 1024) (2 ^ 32 - 1) ∧
      bit (s.hinfo h.toNat) 6 = true))

/-- R87: JTAB reads the 4-byte entry min(index, len) through the handle, from the pool in eight cycles for which its first delay
bundle holds, and begins a transfer to PC plus the entry; a
PROT or ALIGN of the entry load becomes JTAB_FETCH, with the cause in TINFO. The first delay bundle holds until the entry is
there. Of an entry of another package the bundle issues as the request leaves, and the transfer begins as the answer comes; an
answer that is a fault traps JTAB_FETCH at the JTAB (log 54). -/
def Sys2Proof.Claims.JumpTables : Prop :=
  (∀ (a : BitVec 5) (h : BitVec 4) (l : BitVec 12) (s : State) (p n : Nat), Full s [a] →
    InPool s h (4 * min (s.gn a) l.toNat : Nat) 4 p true false →
    (s.core.seq.pc : Int) + (BitVec.ofNat 32 (poolWord s.core p 4)).toInt = n → n < 2 ^ 32 →
    NoDelayEnd (s.core.lp.branchTo n) s.core.seq.pc →
    Issues (.jtab a h l) s
      (((going s (s.core.lp.branchTo n) n .none).onSeq fun q => { q with table := some .timed }).awaits
        { dst := [.table (w64 (poolWord s.core p 4))], size := 4, earliest := s.core.seq.cyc + 8,
          latest := some (s.core.seq.cyc + 8) })) ∧
  (∀ (s : State), s.stands .table = s.core.seq.table.isSome) ∧
  (∀ (c : Core) (v : Word), (c.land (.table v)).seq.table = (match c.seq.table with | some (.asked pc) => some (.came pc v) | _ => none)) ∧
  (∀ (a : BitVec 5) (h : BitVec 4) (l : BitVec 12) (s t u : State) (x : Target) (bs : List Byte) (q : Away), Full s [a] →
    s.scalarTarget h.toNat (4 * min (s.gn a) l.toNat : Nat) 4 .read = .ok x t → t.loadFrom x 4 = (bs, .away q, u) →
    let r := u.newTag (paPkg q.pa)
    Issues (.jtab a h l) s
      (((r.2.send (paPkg q.pa) (.readRequest q.pa q.len r.1 u.fab.pkg)).awaits
        { dst := [.table (w64 (leNat bs))], size := 4,
          holes := [{ tag := r.1, off := 0, len := 4, skip := q.skip, keep := q.keep, fill := if q.fill then some q.pa else none }] }).onSeq
        fun y => { y with table := some (.asked y.trapPc) })) ∧
  (∀ (s : State) (pc n : Nat) (e : Word), s.core.seq.table = some (.came pc e) →
    (s.core.seq.pc : Int) + (BitVec.ofNat 32 e.toNat).toInt = n → n < 2 ^ 32 →
    NoDelayEnd (s.core.lp.branchTo n) s.core.seq.pc →
    s.tableDone = (going (s.onSeq fun q => { q with table := none }) (s.core.lp.branchTo n) n .none).advance) ∧
  (∀ (s : State) (pc r : Nat), s.core.seq.table = some (.failed pc r) → s.core.tr.mlvl = false → s.core.tr.tlvl = false →
    s.core.tr.tvec ≠ 0 →
    let t := s.tableDone
    t.core.tr.tpc = BitVec.ofNat 32 pc ∧ t.core.tr.tcause = 0x15 ∧ t.core.tr.tlvl = true ∧ t.core.seq.table = none ∧
      t.core.seq.pc = s.core.tr.tvec.toNat ∧ t.mem = s.mem) ∧
  (∀ (a : BitVec 5) (h : BitVec 4) (l : BitVec 12) (s u : State) (t : TrapInfo), Full s [a] →
    s.scalarTarget h.toNat (4 * min (s.gn a) l.toNat : Nat) 4 .read = .trap t u → t.cause = 0x11 ∨ t.cause = 0x14 →
    exec (.jtab a h l) s =
      .next ((u.takeTrap { cause := 0x15, info := t.cause * 2 ^ 8 } 0).ended (.trapped 0x15 2)))

/-- R227 to R229: XLAT gives the null, window and pool results and that of an unexpired handle translation; HREV
clears the translation, REV and the descriptor copy of a memory-kind handle and does nothing to another; HINFO
describes the handle. R87: JTAB reads the 4-byte entry min(index, len) through the handle, from the pool in eight
cycles for which its first delay bundle holds, and begins a transfer to PC plus the entry; a PROT or ALIGN of the
entry load becomes JTAB_FETCH, with the cause in TINFO. The first delay bundle holds until the entry is there. Of an
entry of another package the bundle issues as the request leaves, and the transfer begins as the answer comes; an
answer that is a fault traps JTAB_FETCH at the JTAB (log 54). -/
def Obligations.HandlesAndJumpTables : Prop := Claims.HandleInstructions ∧ Claims.JumpTables

/-! ### The V slots (R124 to R148) -/

/-- R129, R131: the element-wise arithmetic, compares and selection, element by element. -/
def Sys2Proof.Claims.ElementwiseResults : Prop :=
  Elementwise .vadd false false (both (fun a b _ => a.add b) fun a b _ => a + b) ∧
  Elementwise .vsub false false (both (fun a b _ => a.add b.negate) fun a b _ => a - b) ∧
  Elementwise .vmul false false (both (fun a b _ => a.mul b) fun a b _ => a * b) ∧
  Elementwise .vfma true false (both (fun a b d => a.fma b d) fun a b d => a * b + d) ∧
  Elementwise .vfms true false (both (fun a b d => a.fma b d.negate) fun a b d => a * b - d) ∧
  Elementwise .vnfma true false (both (fun a b d => a.negate.fma b d) fun a b d => d - a * b) ∧
  Elementwise .vdiv false true (both (fun a b _ => a.div b) fun a b _ => if b = 0 then -1 else a.tdiv b) ∧
  Elementwise .vmin false false (both (fun a b _ => a.minMax false b) fun a b _ => min a b) ∧
  Elementwise .vmax false false (both (fun a b _ => a.minMax true b) fun a b _ => max a b) ∧
  Elementwise .vand false false (fun _ => some fun a b _ => (a &&& b, 0)) ∧
  Elementwise .vor false false (fun _ => some fun a b _ => (a ||| b, 0)) ∧
  Elementwise .vxor false false (fun _ => some fun a b _ => (a ^^^ b, 0)) ∧
  Elementwise .vshl false false (shifts fun n a k => a * 2 ^ k % 2 ^ n) ∧
  Elementwise .vshr false false (shifts fun n a k => a / 2 ^ k % 2 ^ n) ∧
  Elementwise .vsar false false (shifts fun n a k => (signedOf n a / 2 ^ k % 2 ^ n).toNat) ∧
  Elementwise .vcmpeq false false (compares .eq fun a b => decide (a = b)) ∧
  Elementwise .vcmplt false false (compares .lt fun a b => decide (a < b)) ∧
  Elementwise .vcmple false false (compares .le fun a b => decide (a ≤ b)) ∧
  Elementwise .vcmpne false false (compares .ne fun a b => decide (a ≠ b)) ∧
  Elementwise .vsel true false (fun _ => some fun a b d => (if d ≠ 0 then a else b, 0)) ∧
  Elementwise1 .vsqrt true (both1 Machine.Num.sqrt none) ∧
  Elementwise1 .vabs false (both1 (fun a => (a.abs, 0)) (some fun a => if 0 ≤ a then a else -a)) ∧
  Elementwise1 .vneg false (both1 (fun a => (a.negate, 0)) (some fun a => -a)) ∧
  Elementwise1 .vrcpe false (both1 estRcp none) ∧ Elementwise1 .vrsqe false (both1 estRsq none) ∧
  Elementwise1 .vexp2e false (both1 estExp2 none) ∧ Elementwise1 .vlog2e false (both1 estLog2 none)

/-- R130: the special operands of the estimates; each result of a finite operand by its index, with its exponent; and the value
of each index, correctly rounded to ten significant bits, or, of VLOG2E, to a multiple of 2^−12. -/
def Sys2Proof.Claims.EstimateValues : Prop :=
  let index (m i : Nat) : Prop := (i + 256) * 2 ^ Nat.log2 m ≤ 256 * m ∧ 256 * m < (i + 257) * 2 ^ Nat.log2 m
  (∀ (n : Bool) (m : Nat) (e : Int), m ≠ 0 →
    let t : Int := (Nat.log2 m : Int) + e
    (∃ i < 256, index m i ∧ estRcp (.fin n m e) = (.fin n (rcpTable i) (-t - 10), 0)) ∧
    (∃ i < 192, (i + 64) * 2 ^ Nat.log2 m ≤ 64 * 2 ^ (t % 2).toNat * m ∧
      64 * 2 ^ (t % 2).toNat * m < (i + 65) * 2 ^ Nat.log2 m ∧
      estRsq (.fin false m e) = (.fin false (rsqTable i) (-(t / 2) - 10), 0)) ∧
    (∃ i < 256, index m i ∧
      let r : Int := t * 4096 + log2Table i
      estLog2 (.fin false m e) = (.fin (decide (r < 0)) r.natAbs (-12), 0)) ∧
    (∃ v : Int, estExp2 (.fin n m e) = (.fin false (exp2Table (v % 256).toNat) (v / 256 - 9), 0) ∧
      let x : Int := if n then -(m : Int) else m
      (0 ≤ e → v = 256 * x * 2 ^ e.toNat) ∧ (e < 0 → v * 2 ^ (-e).toNat ≤ 256 * x ∧ 256 * x < (v + 1) * 2 ^ (-e).toNat))) ∧
  (∀ i < 192, (2 * rsqTable i - 1) ^ 2 * (129 + 2 * i) ≤ 128 * 2048 ^ 2 ∧
    128 * 2048 ^ 2 ≤ (2 * rsqTable i + 1) ^ 2 * (129 + 2 * i)) ∧
  (∀ i < 256, (2 * exp2Table i - 1) ^ 512 ≤ 1024 ^ 512 * 2 ^ (2 * i + 1) ∧
    1024 ^ 512 * 2 ^ (2 * i + 1) ≤ (2 * exp2Table i + 1) ^ 512) ∧
  (∀ i < 256, 2 ^ (2 * log2Table i) * 256 ^ 8192 ≤ 2 * (256 + i) ^ 8192 ∧
    (256 + i) ^ 8192 ≤ 2 ^ (2 * log2Table i + 1) * 256 ^ 8192) ∧
  (∀ (n : Bool) (e : Int), estRcp (.fin n 0 e) = (.inf n, flagDZ) ∧ estRsq (.fin n 0 e) = (.inf n, flagDZ) ∧
    estExp2 (.fin n 0 e) = (.fin false 1 0, 0) ∧ estLog2 (.fin n 0 e) = (.inf true, flagDZ) ∧
    estRcp (.inf n) = (.fin n 0 0, 0)) ∧
  (∀ (m : Nat) (e : Int), m ≠ 0 → estRsq (.fin true m e) = (.nan false, flagNV) ∧
    estLog2 (.fin true m e) = (.nan false, flagNV)) ∧
  (∀ q : Bool, (estRcp (.nan q)).1 = .nan false ∧ (estRsq (.nan q)).1 = .nan false ∧ (estExp2 (.nan q)).1 = .nan false ∧
    (estLog2 (.nan q)).1 = .nan false) ∧
  (∀ (i : Nat), i < 256 → (2 * rcpTable i - 1) * (513 + 2 * i) ≤ 2 * 1024 * 512 ∧
    2 * 1024 * 512 ≤ (2 * rcpTable i + 1) * (513 + 2 * i)) ∧
  (∀ (k : Nat) (e : Int), ∃ m g, (estLog2 (.fin false (2 ^ k) e)) = (.fin (decide (((k : Int) + e) < 0)) m g, 0) ∧
    g = -12 ∧ m = ((k : Int) + e).natAbs * 2 ^ 12)

/-- R129, R131: the element-wise arithmetic, compares and selection, element by element. R130: the special operands
of the estimates; each result of a finite operand by its index, with its exponent; and the value of each index,
correctly rounded to ten significant bits, or, of VLOG2E, to a multiple of 2^−12. -/
def Obligations.ElementwiseAndEstimates : Prop := Claims.ElementwiseResults ∧ Claims.EstimateValues

/-- R125, R126, R124: a vector result of `n` beats occupies its engine for n cycles from issue and lands 3 + n cycles
after issue; then exactly its elements' bytes change, in every register, and the engine's exception bits take those of
its elements. Before, nothing changes. (Of a task that has been resumed and cannot issue yet no result lands; no other result is
due by itself.) -/
def Sys2Proof.Claims.VectorResultLands : Prop :=
  ∀ (s : State) (e : BitVec 1) (n d w : Nat) (rs : List (Nat × FFlags)), s.core.flight = [] →
    s.core.seq.resumed = false → (∀ x ∈ s.core.waiting, x.latest = none) → w * rs.length ≤ 4096 → 0 < w →
    let t := s.finish e n d w rs
    (t.core.engine e.toNat).busy = s.core.seq.cyc + n ∧
    (∀ j < 3 + n, ∀ r o, vbyte (after t j) r o = vbyte s.core r o ∧
      ((after t j).engine e.toNat).fl = (s.core.engine e.toNat).fl) ∧
    (∀ j, 3 + n ≤ j → (∀ r o, o < 4096 → vbyte (after t j) r o =
        if r = s.core.vphys d ∧ o < w * rs.length then BitVec.ofNat 8 ((rs.getD (o / w) (0, 0)).1 / 256 ^ (o % w))
        else vbyte s.core r o) ∧
      ∀ b < 5, ((after t j).engine e.toNat).fl.getLsbD b =
        ((s.core.engine e.toNat).fl.getLsbD b || rs.any fun x => x.2.getLsbD b))

/-- R35, R36: one draw steps the state of its engine by three shifts and exclusive ors, and the new state is the word; the words
of a vector instruction are drawn in ascending element index. R34: under RSTO a value between two integers takes the upper one
where D, the distance from the lower one in units of 2^−32, and the word together reach 2^32. -/
def Sys2Proof.Claims.StochasticDraws : Prop :=
  let step (x : Nat) : Nat :=
    let y := x ^^^ (x * 2 ^ 13 % 2 ^ 32)
    let z := y ^^^ (y / 2 ^ 17)
    z ^^^ (z * 2 ^ 5 % 2 ^ 32)
  let vrs (c : Core) (e : Nat) : Nat := if e = 0 then c.vec.vrs0 else c.vec.vrs1
  (∀ (s : State) (e : Nat), e < 2 → (s.drawV e).1 = step (vrs s.core e) ∧
    (s.drawV e).2 = { s with core := { s.core with vec :=
      if e = 0 then { s.core.vec with vrs0 := step s.core.vec.vrs0 } else { s.core.vec with vrs1 := step s.core.vec.vrs1 } } }) ∧
  (∀ (s : State) (e n : Nat), e < 2 →
    (s.drawsV e (n + 1)).1 = (s.drawV e).1 :: ((s.drawV e).2.drawsV e n).1 ∧
    (s.drawsV e (n + 1)).2 = ((s.drawV e).2.drawsV e n).2) ∧
  (∀ (s : State) (e : Nat), s.drawsV e 0 = ([], s)) ∧
  (∀ (m k w : Nat), w < 2 ^ 32 → m / 2 ^ k < 2 ^ 62 →
    ((Machine.Num.fin false m (-k)).toIntN 64 .rsto w).1 =
      (m / 2 ^ k : Nat) + (if 2 ^ 32 ≤ m % 2 ^ k * 2 ^ 32 / 2 ^ k + w then 1 else 0))

/-- R128, R126: VSETM sets TYPE, RM, SAT and VL of its engine, VL at most the type's maximum, and keeps FL and K4T. -/
def Sys2Proof.Claims.VectorMode : Prop :=
  (∀ (e : BitVec 1) (w : Bool) (ty : BitVec 4) (m : BitVec 3) (z : BitVec 1) (b : BitVec 5) (s : State),
    VReady s e [b] [] [] →
    ∃ t, Issues (.vsetm e w ty m z b) s t ∧ t = { s with core := { s.core with vec := t.core.vec } } ∧
      (t.core.engine e.toNat).type = ty.toNat ∧ (t.core.engine e.toNat).rm = m.toNat ∧
      (t.core.engine e.toNat).sat = (z == 1) ∧ (t.core.engine e.toNat).vl = min (s.gn b) (4096 / typeBytes ty.toNat) ∧
      (t.core.engine e.toNat).fl = (s.core.engine e.toNat).fl ∧ (t.core.engine e.toNat).k4t = (s.core.engine e.toNat).k4t ∧
      (t.core.engine e.toNat).busy = s.core.seq.cyc + 1 ∧
      t.core.engine (1 - e.toNat) = s.core.engine (1 - e.toNat) ∧ t.core.vec.v = s.core.vec.v) ∧
  (∀ (x : VEngine) (v : Nat), (x.write v).type = (if v % 16 < 10 then v % 16 else x.type) ∧
    (x.write v).rm = (if v / 16 % 8 < 5 then v / 16 % 8 else x.rm) ∧
    (x.write v).vl = min (v / 2 ^ 32 % 2 ^ 13) (4096 / typeBytes (x.write v).type))

/-- R132: the scalar-operand forms combine every element with one converted scalar S; VBCAST gives S, VIOTA S + k. -/
def Sys2Proof.Claims.ScalarOperandResults : Prop :=
  ∀ (e : BitVec 1) (w : Bool) (d a : BitVec 8) (b : BitVec 5) (s : State),
    let m := s.core.engine e.toNat
    let k := typeBytes m.type
    let n := 8 * k
    let r := s.scalarOperand e b
    let gives (i : Instr) (f : Nat → Nat × FFlags) : Prop := ∃ rs : List (Nat × FFlags), rs.length = m.vl ∧
      (∀ j < m.vl, rs[j]? = some (f j)) ∧
      Issues i s ((r.2.finish e (cyclesOf m.vl k false) d.toNat k rs).raiseFlags (3 + cyclesOf m.vl k false) e.toNat r.1.2)
    (VReady s e [b] [a.toNat] [d.toNat] →
      (∀ f, typeFmt m.type = some f →
        gives (.vadds e w d a b) (fun j => rounded f ((f.decode (elem s a.toNat k j)).add (f.decode r.1.1))) ∧
        gives (.vmuls e w d a b) (fun j => rounded f ((f.decode (elem s a.toNat k j)).mul (f.decode r.1.1)))) ∧
      (typeFmt m.type = none →
        gives (.vadds e w d a b) (fun j => ((elem s a.toNat k j + r.1.1) % 2 ^ n, 0)) ∧
        gives (.vmuls e w d a b) (fun j => ((elem s a.toNat k j * r.1.1) % 2 ^ n, 0)))) ∧
    (VReady s e [b] [] [d.toNat] →
      gives (.vbcast e w d b) (fun _ => (r.1.1, 0)) ∧
      (∀ f, typeFmt m.type = some f → gives (.viota e w d b) (fun j => rounded f ((f.decode r.1.1).add (.fin false j 0)))) ∧
      (typeFmt m.type = none → gives (.viota e w d b) (fun j => ((r.1.1 + j) % 2 ^ n, 0)))) ∧
    (typeFmt m.type = none →
      r = ((((if m.sat then max (-(2 ^ (n - 1))) (min (2 ^ (n - 1) - 1) (s.core.g b.toNat).toInt) else (s.core.g b.toNat).toInt)
        % 2 ^ n).toNat, 0), s)) ∧
    (∀ f, typeFmt m.type = some f → RMode.ofCode m.rm ≠ .rsto →
      r = ((fp64.decode (s.gn b)).convert f (RMode.ofCode m.rm) m.sat 0, s))

/-- R128, R126: VSETM sets TYPE, RM, SAT and VL of its engine, VL at most the type's maximum, and keeps FL and K4T.
R132: the scalar-operand forms combine every element with one converted scalar S; VBCAST gives S, VIOTA S + k. R35,
R36: one draw steps the state of its engine by three shifts and exclusive ors, and the new state is the word; the
words of a vector instruction are drawn in ascending element index. R34: under RSTO a value between two integers
takes the upper one where D, the distance from the lower one in units of 2^−32, and the word together reach 2^32. -/
def Obligations.VectorModeAndScalarOperands : Prop := Claims.VectorMode ∧ Claims.ScalarOperandResults ∧ Claims.StochasticDraws

/-- The value of K4 code `c` of type `t`, in eighths (R41). -/
def Sys2Proof.Claims.k4Eighths (t c : Nat) : Int :=
  if t = 0 then 8 * (if c < 8 then (c : Int) else c - 16)
  else
    let mags : List Int := if t = 1 then [0, 4, 8, 12, 16, 24, 32, 48] else if t = 2 then [0, 1, 2, 4, 8, 16, 32, 64]
      else [0, 8, 16, 24, 32, 64, 128, 256]
    if c < 8 then mags.getD c 0 else -(mags.getD (c - 8) 0)

/-- R33, R133: what converting one element gives: between integer types the value modulo the destination's width, or the nearest
one that it holds under SAT; from a floating type the rounded integer, from an integer or floating type the rounded code. -/
def Sys2Proof.Claims.ElementConversions : Prop :=
  ∀ (t dt : Nat) (md : RMode) (sat : Bool) (w x : Nat), t < 10 → dt < 10 →
    let n := 8 * typeBytes dt
    (t < 4 → dt < 4 →
      let i := signedOf (8 * typeBytes t) x
      convertElem t dt md sat w x = (((if sat then max (-(2 ^ (n - 1))) (min (2 ^ (n - 1) - 1) i) else i) % 2 ^ n).toNat, 0)) ∧
    (∀ f, typeFmt t = some f → dt < 4 →
      let r := (f.decode x).toIntN n md w
      convertElem t dt md sat w x = ((r.1 % 2 ^ n).toNat, r.2)) ∧
    (∀ g, typeFmt dt = some g → t < 4 →
      convertElem t dt md sat w x = (Machine.Num.ofInt (signedOf (8 * typeBytes t) x)).convert g md sat w) ∧
    (∀ f g, typeFmt t = some f → typeFmt dt = some g → convertElem t dt md sat w x = (f.decode x).convert g md sat w)

/-- R41, R42: the scale of a K4 block is 63 where an element is NaN or infinite, 0 where all are 0, and else the least one whose
greatest value reaches every element, or 62; each element takes the nearest code under it, a tie an even one. -/
def Sys2Proof.Claims.K4Blocks : Prop :=
  ∀ (t : Nat) (md : RMode) (ws : List Nat) (xs : List Machine.Num), t < 4 → xs.length = 32 → ws.length = 32 →
    let b := k4Block t md ws xs
    let top : Nat := if t = 0 then 7 else if t = 1 then 6 else if t = 2 then 8 else 32
    let above (x : Machine.Num) (e : Nat) : Prop := x.abs.cmp (.fin false top ((e : Int) - 31)) = .gt
    ((∃ x ∈ xs, x.isFin = false) → b.1 = List.replicate 32 0 ∧ b.2.1 = 64 * t + 63 ∧
      b.2.2 = if xs.any Machine.Num.isNan then flagNV else 0) ∧
    ((∀ x ∈ xs, x.isFin = true ∧ x.isZero = true) → b = (List.replicate 32 0, 64 * t, 0)) ∧
    ((∀ x ∈ xs, x.isFin = true) → (∃ x ∈ xs, x.isZero = false) → ∃ e ≤ 62, b.2.1 = 64 * t + e ∧
      (∀ j < e, ∃ x ∈ xs, above x j) ∧ (e < 62 → ∀ x ∈ xs, ¬ above x e) ∧
      (∀ j < 32, ∀ x y, xs[j]? = some x → ws[j]? = some y → b.1[j]? = some (k4Code md t e y x).1)) ∧
    (∀ (e w m c : Nat) (n : Bool) (g : Int), e ≤ 62 → (k4Code .rne t e w (.fin n m g)).1 = c →
      let k : Int := g + 34 - e
      let y : Int := (if n then -(m : Int) else m) * 2 ^ k.toNat
      let off (d : Nat) : Nat := (y - k4Eighths t d * 2 ^ (-k).toNat).natAbs
      c < 16 ∧ (∀ d < 16, off c ≤ off d ∧ (off c = off d → k4Eighths t c ≠ k4Eighths t d → c % 2 = 0)) ∧
        (k4Eighths t c = 0 → c = 0))

/-- R133, R134: VCVT converts every element and packs at the width of the destination type; a VL above that type's
maximum, or not a multiple of 32 for K4, traps OPFMT. -/
def Sys2Proof.Claims.Conversions : Prop :=
  ∀ (e : BitVec 1) (w : Bool) (d a : BitVec 8) (ty : BitVec 4) (c : BitVec 3) (z : BitVec 1) (s : State),
    VReady s e [] [a.toNat] [d.toNat] →
    let m := s.core.engine e.toNat
    let k := typeBytes m.type
    let md := RMode.ofCode c.toNat
    (ty.toNat < 10 → m.vl ≤ 4096 / typeBytes ty.toNat → md ≠ .rsto ∨ (m.type < 4 ∧ ty.toNat < 4) →
      ∃ rs : List (Nat × FFlags), rs.length = m.vl ∧
        (∀ j < m.vl, rs[j]? = some (convertElem m.type ty.toNat md (z == 1) 0 (elem s a.toNat k j))) ∧
        Issues (.vcvt e w d a ty c z) s
          (s.finish e (cyclesOf m.vl (max k (typeBytes ty.toNat)) false) d.toNat (typeBytes ty.toNat) rs)) ∧
    (ty.toNat < 10 → m.vl ≤ 4096 / typeBytes ty.toNat → md = .rsto → ¬ (m.type < 4 ∧ ty.toNat < 4) →
      let q := s.drawsV e.toNat m.vl
      ∃ rs : List (Nat × FFlags), rs.length = m.vl ∧
        (∀ j < m.vl, rs[j]? = some (convertElem m.type ty.toNat md (z == 1) (q.1.getD j 0) (elem s a.toNat k j))) ∧
        Issues (.vcvt e w d a ty c z) s
          (q.2.finish e (cyclesOf m.vl (max k (typeBytes ty.toNat)) false) d.toNat (typeBytes ty.toNat) rs)) ∧
    (ty.toNat < 10 → 4096 / typeBytes ty.toNat < m.vl → TrapsWith (.vcvt e w d a ty c z) s { cause := 0x21 } (2 + e.toNat)) ∧
    (ty = 10 → m.vl % 32 ≠ 0 → TrapsWith (.vcvt e w d a ty c z) s { cause := 0x21 } (2 + e.toNat)) ∧
    (ty = 10 → m.vl % 32 = 0 → 0 < m.vl → md ≠ .rsto →
      ∃ bs : List (List Nat × Nat × FFlags), bs.length = m.vl / 32 ∧
        (∀ j < m.vl / 32, bs[j]? = some (k4Block m.k4t md (List.replicate 32 0)
          ((List.range 32).map fun x => typeNum m.type (elem s a.toNat k (32 * j + x))))) ∧
        let n := cyclesOf m.vl k false
        Issues (.vcvt e w d a ty c z) s
          ((((s.occupy e.toNat n).writeV (3 + n) e.toNat d.toNat 0 (pairCodes (bs.flatMap fun b => b.1))).writeV (3 + n) e.toNat
            d.toNat 2048 (bs.map fun b => BitVec.ofNat 8 b.2.1)).raiseFlags (3 + n) e.toNat
              (bs.foldl (fun f b => f ||| b.2.2) 0)))

/-- R133, R134: VCVT converts every element and packs at the width of the destination type; a VL above that type's
maximum, or not a multiple of 32 for K4, traps OPFMT. R33, R133: what converting one element gives: between integer
types the value modulo the destination's width, or the nearest one that it holds under SAT; from a floating type the
rounded integer, from an integer or floating type the rounded code. R41, R42: the scale of a K4 block is 63 where an
element is NaN or infinite, 0 where all are 0, and else the least one whose greatest value reaches every element, or
62; each element takes the nearest code under it, a tie an even one. -/
def Obligations.ConversionResults : Prop := Claims.Conversions ∧ Claims.ElementConversions ∧ Claims.K4Blocks

/-- R135 to R137, R139, R140: VPERM, VSLIDE, VEXTR and VPART, element by element. -/
def Sys2Proof.Claims.PermuteResults : Prop :=
  ∀ (e : BitVec 1) (w : Bool) (s : State),
    let m := s.core.engine e.toNat
    let k := typeBytes m.type
    (∀ d a b : BitVec 8, VReady s e [] (a.toNat :: indexRegs b.toNat m.vl) [d.toNat] →
      Elements (.vperm e w d a b) s e d.toNat k m.vl false
        fun j => (if indexAt s b.toNat j < m.vl then elem s a.toNat k (indexAt s b.toNat j) else 0, 0)) ∧
    (∀ (d a : BitVec 8) (b : BitVec 5), VReady s e [b] [a.toNat] [d.toNat] →
      Elements (.vslideUp e w d a b) s e d.toNat k m.vl false
        (fun j => (if s.gn b ≤ j then elem s a.toNat k (j - s.gn b) else 0, 0)) ∧
      Elements (.vslideDn e w d a b) s e d.toNat k m.vl false
        (fun j => (if j + s.gn b < m.vl then elem s a.toNat k (j + s.gn b) else 0, 0))) ∧
    (∀ (d : BitVec 5) (a : BitVec 8) (b : BitVec 5), VReady s e [b, d] [a.toNat] [] →
      Issues (.vextr e w d a b) s (((s.occupy e.toNat 1).emptyG d.toNat).later 4 (.g (s.core.phys d.toNat)
        (if s.gn b < m.vl then widened m.type (elem s a.toNat k (s.gn b)) else 0) true))) ∧
    (∀ d a : BitVec 8, VReady s e [] [a.toNat] (indexRegs d.toNat m.vl) →
      let xs := (List.range m.vl).filter fun j => elem s a.toNat k j == 0
      let ys := (List.range m.vl).filter fun j => elem s a.toNat k j != 0
      let n := cyclesOf m.vl k false
      Issues (.vpart e w d a) s (((s.occupy e.toNat n).writeIndices (3 + n) e.toNat (indexRegs d.toNat m.vl) (xs ++ ys)).later
        (3 + n) (.vlt e.toNat xs.length)))

/-- R46, R138: the reductions write element 0 and VSO together; over integers VRSUM is the wrapped sum, VRMAX and VRMIN
are the greatest and the least element; VL = 0 gives the values of R138. -/
def Sys2Proof.Claims.ReductionResults : Prop :=
  ∀ (e : BitVec 1) (w : Bool) (d a : BitVec 8) (s : State), VReady s e [] [a.toNat] [d.toNat] →
    let m := s.core.engine e.toNat
    let k := typeBytes m.type
    let n := 8 * k
    let x (j : Nat) : Int := signedOf n (elem s a.toNat k j)
    let gives (i : Instr) (p : Nat → FFlags → Prop) : Prop := ∃ r f, p r f ∧
      Issues i s ((s.finish e (cyclesOf m.vl k false) d.toNat k [(r, f)]).later (3 + cyclesOf m.vl k false)
        (.vso e.toNat (widened m.type r)))
    let tree (op : Machine.Num → Machine.Num → Machine.Num × FFlags) (g : Fmt) : Nat × FFlags :=
      treeOf (fun p q => rounded g (op (g.decode p) (g.decode q))) 13 ((List.range m.vl).map fun j => elem s a.toNat k j)
    m.vl ≤ 4096 →
    (typeFmt m.type = none → 0 < m.vl →
      gives (.vrsum e w d a) (fun r f => (r : Int) = ((List.range m.vl).map x).sum % 2 ^ n ∧ f = 0) ∧
      gives (.vrmax e w d a) (fun r f => r < 2 ^ n ∧ (∀ j < m.vl, x j ≤ signedOf n r) ∧ (∃ j < m.vl, x j = signedOf n r) ∧ f = 0) ∧
      gives (.vrmin e w d a) (fun r f => r < 2 ^ n ∧ (∀ j < m.vl, signedOf n r ≤ x j) ∧ (∃ j < m.vl, x j = signedOf n r) ∧ f = 0)) ∧
    (∀ g, typeFmt m.type = some g → 0 < m.vl →
      gives (.vrsum e w d a) (fun r f => (r, f) = tree (fun p q => p.add q) g) ∧
      gives (.vrmax e w d a) (fun r f => (r, f) = tree (fun p q => p.minMax true q) g) ∧
      gives (.vrmin e w d a) (fun r f => (r, f) = tree (fun p q => p.minMax false q) g)) ∧
    (m.vl = 0 →
      gives (.vrsum e w d a) (fun r f => r = 0 ∧ f = 0) ∧
      gives (.vrmax e w d a) (fun r f => f = 0 ∧
        r = match typeFmt m.type with | some g => g.inf true | none => 2 ^ (n - 1)) ∧
      gives (.vrmin e w d a) (fun r f => f = 0 ∧
        r = match typeFmt m.type with | some g => g.inf false | none => 2 ^ (n - 1) - 1))

/-- R135 to R137, R139, R140: VPERM, VSLIDE, VEXTR and VPART, element by element. R46, R138: the reductions write
element 0 and VSO together; over integers VRSUM is the wrapped sum, VRMAX and VRMIN are the greatest and the least
element; VL = 0 gives the values of R138. -/
def Obligations.PermutesAndReductions : Prop := Claims.PermuteResults ∧ Claims.ReductionResults

/-- R142, R143: the vector loads and stores through a handle: contiguous, strided by G[ga + 1], and indexed. -/
def Sys2Proof.Claims.VectorMemory : Prop :=
  ∀ (e : BitVec 1) (w : Bool) (d x : BitVec 8) (h c : BitVec 4) (a : BitVec 5) (s : State),
    let m := s.core.engine e.toNat
    let k := typeBytes m.type
    let str := (s.core.g (a.toNat + 1)).toInt
    VLoads (.vld e w d h c a) s e d h [a] [] (offsets s a k m.vl) ∧
    VLoads (.vlds e w d h c a) s e d h [a, a + 1] [] (offsets s a str m.vl) ∧
    VLoads (.vgath e w d x h c) s e d h [] (indexRegs x.toNat m.vl) (indexOffsets s x k m.vl) ∧
    VStores (.vst e w d h c a) s e d h [a] [] (offsets s a k m.vl) false ∧
    VStores (.vstnt e w d h c a) s e d h [a] [] (offsets s a k m.vl) true ∧
    VStores (.vsts e w d h c a) s e d h [a, a + 1] [] (offsets s a str m.vl) false ∧
    VStores (.vscat e w d x h c) s e d h [] (indexRegs x.toNat m.vl) (indexOffsets s x k m.vl) false

/-- R141, R363: the elements are checked in ascending order; where each of them passes without a change of state, all do; the
first that traps traps the instruction, its number in TINFO, and an element of a VSCATA on a host page traps ATOMIC_HOST. -/
def Sys2Proof.Claims.VectorChecks : Prop :=
  ∀ (s : State) (h w : Nat) (u : Use) (f : Nat → Target) (l : List (Int × Nat)),
    (∀ q ∈ l, s.scalarTarget h q.1 w u = .ok (f q.2) s ∧ (u = .atomic → (f q.2).onHost = false)) →
    s.vtargets h w u l = .ok (l.map fun p => f p.2) s ∧
    (∀ (t : State) (r : List (Int × Nat)) (p : Int × Nat) (x : TrapInfo), s.scalarTarget h p.1 w u = .trap x t →
      s.vtargets h w u (l ++ p :: r) = .trap { x with info := x.info + p.2 % 2 ^ 12 * 2 ^ 16 } t) ∧
    (∀ (r : List (Int × Nat)) (p : Int × Nat), u = .atomic → s.scalarTarget h p.1 w u = .ok (f p.2) s → (f p.2).onHost = true →
      s.vtargets h w u (l ++ p :: r) = .trap { cause := 0x16, info := p.2 % 2 ^ 12 * 2 ^ 16 } s)

/-- R143, R208: VSCATA adds the elements at their places in ascending order, in the pool and at a home of this package in place, at
another package's by a message to its home, whose number is the model's choice (log 1); integers wrap, floating types round by RNE;
one-byte types trap OPFMT, and an element whose checks fail traps. -/
def Sys2Proof.Claims.AtomicScatter : Prop :=
  ∀ (e : BitVec 1) (w : Bool) (d x : BitVec 8) (h c : BitVec 4) (s : State),
    let m := s.core.engine e.toNat
    let k := typeBytes m.type
    VReady s e [] (d.toNat :: indexRegs x.toNat m.vl) [] →
    (k = 1 → TrapsWith (.vscata e w d x h c) s { cause := 0x21 } (2 + e.toNat)) ∧
    (∀ ts, k ≠ 1 → Places s h k .atomic (indexOffsets s x k m.vl) ts → (∀ t ∈ ts, t.onHost = false) →
      Issues (.vscata e w d x h c) s
        (((s.scatterAll m.type k ts ((List.range m.vl).map fun j => elem s d.toNat k j)).usedBy e ts).occupy e.toNat 1)) ∧
    (∀ ts t, k ≠ 1 → s.vtargets h.toNat k .atomic (indexOffsets s x k m.vl) = .ok ts t → Issues (.vscata e w d x h c) s
      (((t.scatterAll m.type k ts ((List.range m.vl).map fun j => elem s d.toNat k j)).usedBy e ts).occupy e.toNat 1)) ∧
    (∀ y t, k ≠ 1 → s.vtargets h.toNat k .atomic (indexOffsets s x k m.vl) = .trap y t → exec (.vscata e w d x h c) s =
      .next ((t.takeTrap y (2 + e.toNat)).ended (.trapped y.cause y.stage))) ∧
    (∀ t : State, t.scatterAll m.type k [] [] = t ∧ ∀ (p : Target) (ps : List Target) (v : Nat) (vs : List Nat),
      t.scatterAll m.type k (p :: ps) (v :: vs) = (t.scatterAdd m.type k v p).scatterAll m.type k ps vs) ∧
    (∀ (t : State) (v : Nat), v < 2 ^ (8 * k) →
      (∀ p : Nat, t.scatterAdd m.type k v (.pool p) = t.onLoc fun l =>
        { l with pool := Sparse.write 0 l.pool p (leBytes k (added m.type (leNat (Sparse.read 0 l.pool p k)) v)) }) ∧
      (∀ pa leaf va : Nat,
        let u := t.evictLine pa
        (u.remote pa = false → (t.scatterAdd m.type k v (.mem pa leaf va)).mem =
          Memory.store u.mem (u.key pa) (leBytes k (added m.type (leNat (u.homeBytes pa k)) v))) ∧
        (u.remote pa = true →
          let r := (u.spoil pa k).newTag (paPkg pa)
          t.scatterAdd m.type k v (.mem pa leaf va) =
            (r.2.send (paPkg pa) (.atomic pa (16 + m.type) r.1 u.fab.pkg (w64 v) 0)).onLoc fun l =>
              { l with remote := l.remote ++ [r.1] })))

/-- R142, R143: the vector loads and stores through a handle: contiguous, strided by G[ga + 1], and indexed. R141,
R363: the elements are checked in ascending order; where each of them passes without a change of state, all do; the
first that traps traps the instruction, its number in TINFO, and an element of a VSCATA on a host page traps
ATOMIC_HOST. R143, R208: VSCATA adds the elements at their places in ascending order, in the pool and at a home of
this package in place, at another package's by a message to its home, whose number is the model's choice (log 1);
integers wrap, floating types round by RNE; one-byte types trap OPFMT, and an element whose checks fail traps. -/
def Obligations.VectorMemoryForms : Prop := Claims.VectorMemory ∧ Claims.VectorChecks ∧ Claims.AtomicScatter

/-- R144, R145: VLDP and VSTP move the elements of consecutive pool addresses from G[ga] on; a load from banks that no other agent
uses lands in the time of R145; an address that is not aligned traps ALIGN, one outside the scratchpad PROT, with the first such
element in TINFO. -/
def Sys2Proof.Claims.PoolVectorMemory : Prop :=
  (∀ (e : BitVec 1) (w : Bool) (d : BitVec 8) (a : BitVec 5) (s : State) (p : Nat),
    let m := s.core.engine e.toNat
    let k := typeBytes m.type
    (s.core.g a.toNat).toInt = p →
    (p % k = 0 → (0 < m.vl → 32768 * s.core.st.b1 ≤ p ∧ p + k * m.vl ≤ 32768 * s.core.st.b2) →
      (VReady s e [a] [] [d.toNat] → exec (.vldp e w d a) s = .next ((s.vdeliver e d.toNat k
        ((List.range m.vl).map fun j => (Sparse.read 0 s.core.loc.pool (p + k * j) k, .pool))
        ((List.range m.vl).map fun j => (p + k * j) / 64)).ended .issued)) ∧
      (VReady s e [a] [d.toNat] [] → ∃ t, exec (.vstp e w d a) s = .next t ∧
        t = { s with core := { s.core with seq := { s.core.seq with last := .issued },
                                           vec := (s.occupy e.toNat 1).core.vec,
                                           loc := t.core.loc, waiting := t.core.waiting } } ∧
        ∀ q, Sparse.get 0 t.core.loc.pool q = if p ≤ q ∧ q < p + k * m.vl
          then BitVec.ofNat 8 (elem s d.toNat k ((q - p) / k) / 256 ^ ((q - p) % k)) else Sparse.get 0 s.core.loc.pool q)) ∧
    (0 < m.vl → VReady s e [a] [] [d.toNat] →
      (p % k ≠ 0 → TrapsWith (.vldp e w d a) s { cause := 0x14 } (2 + e.toNat)) ∧
      (p % k = 0 → ¬ (32768 * s.core.st.b1 ≤ p ∧ p + k ≤ 32768 * s.core.st.b2) →
        TrapsWith (.vldp e w d a) s { cause := 0x11, info := 4 * 2 ^ 28 } (2 + e.toNat)))) ∧
  (∀ (e : BitVec 1) (v w : Nat) (ps : List (List Byte × Path)) (ls ds : List Nat) (s : State) (t : Nat),
    (∀ q ∈ ps, q.2 = .pool) → Uncontended s e ls → ds.Nodup → (∀ l, l ∈ ds ↔ l ∈ ls) → PoolTime ds t →
    let u := s.vdeliver e v w ps ls
    u.core.waiting.getLast? = some
      { dst := [.v (s.core.vphys v) 0 (ps.flatMap Prod.fst) true e.toNat], eng := e.toNat, banks := lineBanks ls,
        earliest := s.core.seq.cyc + t, latest := some (s.core.seq.cyc + t) } ∧
    u = { s with core := { s.core with
      vec := ((s.occupy e.toNat 1).emptyV (s.core.vphys v)).core.vec, loc := u.core.loc, waiting := u.core.waiting } } ∧ u.core.loc = { s.core.loc with uses := u.core.loc.uses })

/-- R147, R148: VLDT of a pool tile delivers one fetch of rows, or of columns of a swizzled tile, and of a tile in memory its lines
one after the other, as watched, translated and read; columns of a 4-bit format, of a tile that is not swizzled or not in the pool,
and any swizzled tile outside the pool trap OPFMT. -/
def Sys2Proof.Claims.TileFetches : Prop :=
  ∀ (e : BitVec 1) (w : Bool) (d : BitVec 8) (t : BitVec 6) (a : BitVec 5) (s : State), VReady s e [a] [] [d.toNat] →
    let x := s.core.tid t.toNat
    let g := s.gn a
    let va := x.tile (g / 2 ^ 16) (g / 2 ^ 8 % 2 ^ 8)
    let f := x.fmt
    let o := fmtRow f * (g % 64)
    let n := fmtRow f * fetchLines f
    (TilePlace s.core x g → x.pool = true → exec (.vldtRow e w d t a) s = .next ((s.vdeliver e d.toNat n
      [(s.core.poolTile f x.swz va o n, .pool)]
      ((List.range (n / 64)).map fun l => poolByte f x.swz va (o + 64 * l) / 64)).ended .issued)) ∧
    (TilePlace s.core x g → x.pool = true → x.swz = true → fmtBits f ≠ 4 →
      exec (.vldtCol e w d t a) s = .next ((s.vdeliver e d.toNat (fmtData f)
        [(columnBytes f (g % 64) (s.core.poolTile f true va 0 (fmtData f)), .pool)] (columnLines f va (g % 64))).ended .issued)) ∧
    (∀ ps u, TilePlace s.core x g → x.pool = false → x.swz = false →
      s.tileLines (va + o) (512 / fmtBits f) (n / 64) 0 = .ok ps u →
      exec (.vldtRow e w d t a) s = .next ((u.vdeliver e d.toNat 64 ps []).ended .issued)) ∧
    (fmtBits f = 4 ∨ x.swz = false ∨ x.pool = false → TrapsWith (.vldtCol e w d t a) s { cause := 0x21 } (2 + e.toNat)) ∧
    (x.swz = true → x.pool = false → TrapsWith (.vldtRow e w d t a) s { cause := 0x21 } (2 + e.toNat))

/-- R144, R145: VLDP and VSTP move the elements of consecutive pool addresses from G[ga] on; a load from banks that
no other agent uses lands in the time of R145; an address that is not aligned traps ALIGN, one outside the scratchpad
PROT, with the first such element in TINFO. R147, R148: VLDT of a pool tile delivers one fetch of rows, or of columns
of a swizzled tile, and of a tile in memory its lines one after the other, as watched, translated and read; columns
of a 4-bit format, of a tile that is not swizzled or not in the pool, and any swizzled tile outside the pool trap
OPFMT. -/
def Obligations.PoolAndTileForms : Prop := Claims.PoolVectorMemory ∧ Claims.TileFetches

/-- R252 to R255, R257: the entry of a corner of a dense and of a hashed level; the cell and the weight of a coordinate, which is
clamped to 0 and 1, with the worked corners of R254; the feature that a gather puts at each place of its answer, summed over the
corners from the table at PTOFF; the shadow word at SHOFF, or the table element at GTOFF, that a contribution reaches; and
ShadowAdd on a finite update. -/
def Sys2Proof.Claims.GridValues : Prop :=
  (∀ (g : Grid) (n : Nat) (c : List Nat), c.length = g.d → g.d ≤ 8 →
    ((n + 1) ^ g.d ≤ 2 ^ g.t → g.entry n c = ((List.range g.d).map fun i => c.getD i 0 * (n + 1) ^ i).sum) ∧
    (2 ^ g.t < (n + 1) ^ g.d → g.entry n c = ((List.range g.d).foldl (fun x i => x ^^^ (c.getD i 0 * [0x00000001,
      0x9E3779B1, 0xC2B2AE3D, 0x27D4EB2F, 0x165667B1, 0x85EBCA77, 0xCC9E2D51, 0x1B873593].getD i 0 % 2 ^ 32)) 0) % 2 ^ g.t)) ∧
  (∀ n m k : Nat, 0 < n →
    (0 < m → m ≤ 2 ^ k → let c := min (m * n / 2 ^ k) (n - 1)
      cellOf n (.fin false m (-k)) = (c, .fin false (m * n - c * 2 ^ k) (-k))) ∧
    (2 ^ k < m → cellOf n (.fin false m (-k)) = (n - 1, .fin false 1 0)) ∧
    cellOf n (.fin true m (-k)) = (0, .fin false 0 0) ∧ cellOf n (.inf true) = (0, .fin false 0 0) ∧
    cellOf n (.inf false) = (n - 1, .fin false 1 0)) ∧
  (∀ (g : Grid) (l : Nat), g.d = 2 → g.t = 3 → g.res l = 3 →
    (g.corners l [fp32.decode 0x3F000000, fp32.decode 0x3E800000]).map (fun c => (c.1, (c.2.rne fp64).1)) =
      [(1, 0x3FC0000000000000), (2, 0x3FC0000000000000), (0, 0x3FD8000000000000), (3, 0x3FD8000000000000)]) ∧
  (∀ (s : State) (g : Grid) (x : List Machine.Num) (ys : List Nat), s.interpolate g x = .ok ys →
    ys.length = g.l * g.f ∧ ∀ l < g.l, ∀ f < g.f,
      ((∃ y ∈ x, y.isNan = true) → ys.getD (l * g.f + f) 0 = 0x7FC00000) ∧
      ((∀ y ∈ x, y.isNan = false) → ∃ vs : List Nat, vs.length = 2 ^ g.d ∧
        (∀ k < 2 ^ g.d, s.gridRead g (g.ptoff + g.w * ((l * 2 ^ g.t + ((g.corners l x).getD k (0, .fin false 0 0)).1) * g.f + f)) g.w =
          .ok (vs.getD k 0)) ∧
        ys.getD (l * g.f + f) 0 = ((((g.corners l x).zip vs).foldl (fun (sum : Machine.Num) c =>
          in64 (sum.add (c.1.2.mul (g.fmt.decode c.2)).1).1) (.fin false 0 0)).rne fp32).1)) ∧
  (∀ (s : State) (g : Grid) (l e f pa sat : Nat) (wk grad : Machine.Num),
    let u := in64 (wk.mul grad).1
    let n := (l * 2 ^ g.t + e) * g.f + f
    let code := w64 (u.rne fp64).1
    (s.gridPa g (g.shoff + 8 * n) true = .ok pa → s.gridPa g 40 true = .ok sat →
      s.contribute g true l e f wk grad = .ok (s.atHome 0 pa 32 code (w64 sat) [(pa, 8), (sat, 8)] fun s => s.shadowAdd pa sat u)) ∧
    (s.gridPa g (g.gtoff + g.w * n) true = .ok pa → s.contribute g false l e f wk grad =
      .ok (s.atHome 0 pa (32 + gridFmt g.w0) code 0 [(pa, g.w)] fun s => s.setCell pa g.w
        ((((g.fmt.decode (s.cell pa g.w)).add u).1.rne g.fmt).1)))) ∧
  (∀ (s : State) (pa sat m k : Nat) (neg : Bool), k ≤ 40 → m < 2 ^ (40 + k) →
    let v : Int := (if neg then -1 else 1) * ((m * 2 ^ (40 - k) : Nat) : Int)
    let r := signedOf 64 (s.cell pa 8) + v
    let set (n : Nat) : State := s.setCell pa 8 n
    let full (t : State) : State := t.setCell sat 8 (2 ^ 32 + min (t.cell sat 8 % 2 ^ 32 + 1) (2 ^ 32 - 1))
    (-(2 ^ 63) ≤ r → r < 2 ^ 63 → s.shadowAdd pa sat (.fin neg m (-k)) = set (r % 2 ^ 64).toNat) ∧
    (2 ^ 63 ≤ r → s.shadowAdd pa sat (.fin neg m (-k)) = full (set (2 ^ 63 - 1))) ∧
    (r < -(2 ^ 63) → s.shadowAdd pa sat (.fin neg m (-k)) = full (set (2 ^ 63))) ∧
    s.shadowAdd pa sat (.nan false) = full s)

/-- R255 to R257, R417: HGLD gathers the features of its queries into its span, which stays empty until they come; HGSCAT
applies its contributions at issue and leaves its token to retire. With no query, neither does anything else. -/
def Sys2Proof.Claims.GridCompletions : Prop :=
  ∀ (e : BitVec 1) (w : Bool) (d a : BitVec 8) (h : BitVec 4) (o : BitVec 1) (k : BitVec 3) (s t u : State) (c : Nat) (p : Target),
    let q := (t.core.engine e.toNat).vl
    let sp := gridSpansOf c q a d
    (s.gridWord e h.toNat .gather = .ok c t → VReady t e [] sp.1 sp.2 → t.gridIssue e h.toNat .gather = .ok p u →
      (q = 0 → exec (.hgld e w d a h) s = .next ((u.occupy e.toNat 1).ended .issued)) ∧
      (∀ g v ys, 0 < q → u.gridLimit h.toNat c = .ok (.ok g) v →
        v.gatherAll g (queriesOf g.d (v.spanElems sp.1 (q * g.d)) q) = .ok ys →
        exec (.hgld e w d a h) s = .next ((v.gridDeliver e sp.2 (sp.2.zipIdx.map fun z =>
          .v (v.core.vphys z.1) 0 (((ys.drop (1024 * z.2)).take 1024).flatMap (leBytes 4)) true e.toNat)).ended .issued))) ∧
    (s.gridWord e h.toNat .counter = .ok c t → VReady t e [] (sp.1 ++ sp.2) [] → t.gridIssue e h.toNat .counter = .ok p u →
      (q = 0 → (u.core.token (56 + k.toNat)).out = false → ∃ y, u.produce (56 + k.toNat) = .ok () y ∧
        exec (.hgscat e w d a h o k) s = .next (((y.occupy e.toNat 1).retire (56 + k.toNat) none).ended .issued)) ∧
      (∀ g v, 0 < q → u.gridLimit h.toNat c = .ok (.ok g) v → (v.core.token (56 + k.toNat)).out = false →
        ∃ y, v.produce (56 + k.toNat) = .ok () y ∧
        ∀ z, (y.occupy e.toNat 1).scatterQueries g (o == 1)
            (queriesOf g.d ((y.occupy e.toNat 1).spanElems sp.1 (q * g.d)) q)
            (chunks (g.l * g.f) q ((y.occupy e.toNat 1).spanElems sp.2 (q * g.l * g.f))) = (z, none) →
          exec (.hgscat e w d a h o k) s = .next ((z.scatterEnd (bareCmd (.hgscat e w d a h o k) y.core.seq.pc (56 + k.toNat))
            (z.tagsSince (y.occupy e.toNat 1)) none).ended .issued)))

/-- R252 to R255, R257: the entry of a corner of a dense and of a hashed level; the cell and the weight of a
coordinate, which is clamped to 0 and 1, with the worked corners of R254; the feature that a gather puts at each
place of its answer, summed over the corners from the table at PTOFF; the shadow word at SHOFF, or the table element
at GTOFF, that a contribution reaches; and ShadowAdd on a finite update. R255 to R257, R417: HGLD gathers the
features of its queries into its span, which stays empty until they come; HGSCAT applies its contributions at issue
and leaves its token to retire. With no query, neither does anything else. -/
def Obligations.GridCommands : Prop := Claims.GridValues ∧ Claims.GridCompletions

/-- The engine, the wait-policy bit, the scalar registers, and the vector registers read and written of a V-slot instruction
(R63, R72); HGLD and HGSCAT, whose spans a word of their region gives, apart. -/
def Sys2Proof.Claims.vectorRegs (s : State) (i : Instr) :
    Option (BitVec 1 × Bool × List (BitVec 5) × List Nat × List Nat) :=
  let span (e : BitVec 1) (r : BitVec 8) : List Nat := indexRegs r.toNat (s.core.engine e.toNat).vl
  match i with
  | .vadd e w d a b => some (e, w, [], [a.toNat, b.toNat], [d.toNat])
  | .vsub e w d a b => some (e, w, [], [a.toNat, b.toNat], [d.toNat])
  | .vmul e w d a b => some (e, w, [], [a.toNat, b.toNat], [d.toNat])
  | .vdiv e w d a b => some (e, w, [], [a.toNat, b.toNat], [d.toNat])
  | .vmin e w d a b => some (e, w, [], [a.toNat, b.toNat], [d.toNat])
  | .vmax e w d a b => some (e, w, [], [a.toNat, b.toNat], [d.toNat])
  | .vand e w d a b => some (e, w, [], [a.toNat, b.toNat], [d.toNat])
  | .vor e w d a b => some (e, w, [], [a.toNat, b.toNat], [d.toNat])
  | .vxor e w d a b => some (e, w, [], [a.toNat, b.toNat], [d.toNat])
  | .vshl e w d a b => some (e, w, [], [a.toNat, b.toNat], [d.toNat])
  | .vshr e w d a b => some (e, w, [], [a.toNat, b.toNat], [d.toNat])
  | .vsar e w d a b => some (e, w, [], [a.toNat, b.toNat], [d.toNat])
  | .vcmpeq e w d a b => some (e, w, [], [a.toNat, b.toNat], [d.toNat])
  | .vcmplt e w d a b => some (e, w, [], [a.toNat, b.toNat], [d.toNat])
  | .vcmple e w d a b => some (e, w, [], [a.toNat, b.toNat], [d.toNat])
  | .vcmpne e w d a b => some (e, w, [], [a.toNat, b.toNat], [d.toNat])
  | .vfma e w d a b => some (e, w, [], [a.toNat, b.toNat, d.toNat], [d.toNat])
  | .vfms e w d a b => some (e, w, [], [a.toNat, b.toNat, d.toNat], [d.toNat])
  | .vnfma e w d a b => some (e, w, [], [a.toNat, b.toNat, d.toNat], [d.toNat])
  | .vsel e w d a b => some (e, w, [], [a.toNat, b.toNat, d.toNat], [d.toNat])
  | .vsqrt e w d a => some (e, w, [], [a.toNat], [d.toNat])
  | .vrcpe e w d a => some (e, w, [], [a.toNat], [d.toNat])
  | .vrsqe e w d a => some (e, w, [], [a.toNat], [d.toNat])
  | .vexp2e e w d a => some (e, w, [], [a.toNat], [d.toNat])
  | .vlog2e e w d a => some (e, w, [], [a.toNat], [d.toNat])
  | .vabs e w d a => some (e, w, [], [a.toNat], [d.toNat])
  | .vneg e w d a => some (e, w, [], [a.toNat], [d.toNat])
  | .vrsum e w d a => some (e, w, [], [a.toNat], [d.toNat])
  | .vrmax e w d a => some (e, w, [], [a.toNat], [d.toNat])
  | .vrmin e w d a => some (e, w, [], [a.toNat], [d.toNat])
  | .vadds e w d a b => some (e, w, [b], [a.toNat], [d.toNat])
  | .vmuls e w d a b => some (e, w, [b], [a.toNat], [d.toNat])
  | .vslideUp e w d a b => some (e, w, [b], [a.toNat], [d.toNat])
  | .vslideDn e w d a b => some (e, w, [b], [a.toNat], [d.toNat])
  | .vbcast e w d b => some (e, w, [b], [], [d.toNat])
  | .viota e w d b => some (e, w, [b], [], [d.toNat])
  | .vld e w d _ _ a => some (e, w, [a], [], [d.toNat])
  | .vlds e w d _ _ a => some (e, w, [a, a + 1], [], [d.toNat])
  | .vst e w d _ _ a => some (e, w, [a], [d.toNat], [])
  | .vstnt e w d _ _ a => some (e, w, [a], [d.toNat], [])
  | .vsts e w d _ _ a => some (e, w, [a, a + 1], [d.toNat], [])
  | .vsetm e w _ _ _ b => some (e, w, [b], [], [])
  | .vcvt e w d a _ _ _ => some (e, w, [], [a.toNat], [d.toNat])
  | .vperm e w d a b => some (e, w, [], a.toNat :: span e b, [d.toNat])
  | .vpart e w d a => some (e, w, [], [a.toNat], span e d)
  | .vextr e w d a b => some (e, w, [b, d], [a.toNat], [])
  | .vgath e w d x _ _ => some (e, w, [], span e x, [d.toNat])
  | .vscat e w d x _ _ => some (e, w, [], d.toNat :: span e x, [])
  | .vscata e w d x _ _ => some (e, w, [], d.toNat :: span e x, [])
  | .vldp e w d a => some (e, w, [a], [], [d.toNat])
  | .vstp e w d a => some (e, w, [a], [d.toNat], [])
  | .vldtRow e w d _ a => some (e, w, [a], [], [d.toNat])
  | .vldtCol e w d _ a => some (e, w, [a], [], [d.toNat])
  | _ => none

/-- What keeps instruction `i` of state `s` from issuing, in the state `t` of its checks: in this order, with B = 1 an empty register,
the engine, with B = 0 an empty register, a number above 159, a faulted source. -/
def Sys2Proof.Claims.VectorWaits (i : Instr) (s t : State) (e : BitVec 1) (w : Bool) (gs : List (BitVec 5)) (src dst : List Nat) : Prop :=
  let c := t.core
  let g? := (gs.map BitVec.toNat).find? fun g => c.gEmpty g
  let v? := ((src ++ dst).map c.vphys).find? fun r => c.vec.empty.contains r
  let b? := (src.map c.vphys).find? fun r => (Sparse.get (0, 0, 0, 0) c.vec.bad r).1 != 0
  let holds (h : Hold) : Prop := exec i s = .next (t.ended (.held h))
  let traps (x : TrapInfo) : Prop := exec i s = .next ((t.takeTrap x (2 + e.toNat)).ended (.trapped x.cause x.stage))
  (w = true → (∀ g, g? = some g → holds (.emptyG (c.phys g))) ∧ (∀ r, g? = none → v? = some r → holds (.emptyV r))) ∧
  ((w = true → g? = none ∧ v? = none) →
    (c.seq.cyc < (c.engine e.toNat).busy → holds (.engine e.toNat)) ∧
    ((c.engine e.toNat).busy ≤ c.seq.cyc →
      (∀ g, g? = some g → traps { cause := 0x05, stage := 1, info := g * 2 ^ 8 }) ∧
      (∀ r, g? = none → v? = some r → traps { cause := 0x05, stage := 1, info := r * 2 ^ 8 + 8 }) ∧
      (g? = none → v? = none →
        ((∃ v ∈ src ++ dst, 160 ≤ v) → traps { cause := 0x04 }) ∧
        (∀ r, (∀ v ∈ src ++ dst, v < 160) → b? = some r →
          let x := Sparse.get (0, 0, 0, 0) c.vec.bad r
          traps { cause := x.1, info := 2 * 2 ^ 60 + x.2.1 * 2 ^ 32 + x.2.2.1 * 2 ^ 28, slot := false, addr := x.2.2.2 }))))

/-- R57, R63, R71, R124, R135, R256: what keeps a V-slot instruction from issuing: an empty register that it names holds it while
B = 1, then an occupied engine; an empty register traps FE_EMPTY while B = 0; a register of 160 or more traps REGFIELD, and reading a
faulted register traps the cause that marked it, with source 2. That TINFO names the physical register of an empty V register is
the model's choice (log 122). -/
def Sys2Proof.Claims.VectorHoldsAndTraps : Prop :=
  (∀ (i : Instr) (s : State) (e : BitVec 1) (w : Bool) (gs : List (BitVec 5)) (src dst : List Nat),
    vectorRegs s i = some (e, w, gs, src, dst) → VectorWaits i s s e w gs src dst) ∧
  (∀ (e : BitVec 1) (w : Bool) (d a : BitVec 8) (h : BitVec 4) (o : BitVec 1) (k : BitVec 3) (s t : State) (c : Nat),
    let sp := gridSpansOf c (t.core.engine e.toNat).vl a d
    (s.gridWord e h.toNat .gather = .ok c t → VectorWaits (.hgld e w d a h) s t e w [] sp.1 sp.2) ∧
    (s.gridWord e h.toNat .counter = .ok c t → VectorWaits (.hgscat e w d a h o k) s t e w [] (sp.1 ++ sp.2) []))

/-- R125, R126, R124: a vector result of `n` beats occupies its engine for n cycles from issue and lands 3 + n cycles
after issue; then exactly its elements' bytes change, in every register, and the engine's exception bits take those
of its elements. Before, nothing changes. (Of a task that has been resumed and cannot issue yet no result lands; no
other result is due by itself.) R57, R63, R71, R124, R135, R256: what keeps a V-slot instruction from issuing: an
empty register that it names holds it while B = 1, then an occupied engine; an empty register traps FE_EMPTY while B
= 0; a register of 160 or more traps REGFIELD, and reading a faulted register traps the cause that marked it, with
source 2. That TINFO names the physical register of an empty V register is the model's choice (log 122). -/
def Obligations.VectorLandingsHoldsAndTraps : Prop := Claims.VectorResultLands ∧ Claims.VectorHoldsAndTraps

/-! ### Commands: queues and tokens; the M slot (R149 to R173) -/

namespace Sys2Proof.Claims

/-- A staging register as a command of engine `eng` reads it (R119, R155, R156). -/
def stagedReg (s : State) (eng k : Nat) : Word := (s.core.staged eng).getD k 0

/-- Queue `q` takes a command that produces token `t`: fewer than eight commands wait, register 0 names the tokens `uses`
with their generations, and the token is not outstanding (R149 to R151). -/
def Room (s : State) (q eng : Nat) (t : BitVec 6) (uses : List (Nat × Nat)) : Prop :=
  s.core.eng.waiting q < 8 ∧ s.consumes (stagedReg s eng 0).toNat = .ok uses s ∧ (s.core.token t.toNat).out = false

/-- The command of an instruction as it enters a queue: its staging registers, the tokens it consumes that have still to
retire, the fault of the first one that has retired faulted, and the core's own stores that it follows. -/
def command (s : State) (i : Instr) (t : BitVec 6) (eng : Nat) (uses : List (Nat × Nat)) : Cmd :=
  { instr := i, pc := s.core.seq.pc, tok := t.toNat, x := s.core.staged eng, a := noTid, b := noTid, y := noTid,
    uses := uses.filter fun u => (s.core.token u.1).out, after := s.core.loc.remote ++ s.core.loc.remoteNt,
    fault := uses.findSome? fun u => if (s.core.token u.1).out then none else (s.core.token u.1).flt }

/-- A command stands at the end of queue `q`, its token outstanding with the next generation (R150); an M command is
judged against those before it (`Engines.accept`, R170). -/
def queued (s : State) (q : Nat) (c : Cmd) : State :=
  s.onEng fun g =>
    let g := g.onToken c.tok fun x => { gen := (x.gen + 1) % 4, out := true, flt := none }
    if q = 0 then g.accept c else g.onQueue q fun l => l ++ [c]

/-- An operand of the array: a format of R160, CHK where it is verified, a view that R161 permits, and a block of view
tiles inside its bounds and, of a pool TID, inside the scratchpad. -/
def Operand (s : State) (t : TidWords) (v : BitVec 1) (o : Nat × Nat) (ni nj : Nat) : Prop :=
  (fmtGroup t.fmt).isSome = true ∧ (v = 1 → t.chk = true) ∧ t.viewable = true ∧
  t.holds o.1 o.2 ni nj = true ∧ s.core.holdsBlock t o.1 o.2 ni nj t.size = true

/-- An M command may enter its queue: room, and an array that has not failed (R242). -/
def MRoom (s : State) (t : BitVec 6) (uses : List (Nat × Nat)) : Prop :=
  Room s 0 2 t uses ∧ (s.cluster (clusterOf s.core.id)).failed = false

/-- A product through the last weight block of the core (R164, R165). -/
def Streams (mk : BitVec 6 → BitVec 4 → BitVec 6 → BitVec 1 → Instr) (back : Bool) : Prop :=
  ∀ (t : BitVec 6) (z : BitVec 4) (a : BitVec 6) (v : BitVec 1) (s : State) (uses : List (Nat × Nat)),
    MRoom s t uses → s.core.eng.lease ≠ .none →
    let x := s.core.tid a.toNat
    let g := s.core.eng
    let m := stagedReg s 2 4
    let mt := xm4MT m
    originDirty (stagedReg s 2 2) = false → xm4Dirty m = false → xm4Block m = true → xm4LT m ≠ 0 → 1 ≤ mt → mt ≤ 16 →
    Operand s x v (originOf (stagedReg s 2 2)) mt (if back then g.bn else g.bk) →
    g.nblock ≠ 0 → fmtGroup x.fmt = fmtGroup g.bfmt →
    (x.fmt ≠ 7 → z.toNat + mt * (if back then g.bk else g.bn) ≤ 16) →
    (x.fmt = 7 → z.toNat % 2 = 0 ∧ z.toNat + 2 * mt ≤ 16) →
    Issues (mk t z a v) s (queued s 0 { command s (mk t z a v) t 2 uses with a := x, block := g.nblock })

/-- A product that holds a block of results (R166). -/
def HoldsResults (mk : BitVec 6 → BitVec 4 → BitVec 6 → BitVec 6 → BitVec 1 → Instr) : Prop :=
  ∀ (t : BitVec 6) (z : BitVec 4) (a b : BitVec 6) (v : BitVec 1) (s : State) (uses : List (Nat × Nat)),
    MRoom s t uses → s.core.eng.lease ≠ .none →
    let x := s.core.tid a.toNat
    let y := s.core.tid b.toNat
    let m := stagedReg s 2 4
    originDirty (stagedReg s 2 2) = false → originDirty (stagedReg s 2 3) = false → xm4Dirty m = false →
    xm4Block m = true → xm4LT m ≠ 0 → 1 ≤ xm4MT m → xm4MT m ≤ 16 → z.toNat + xm4BK m * xm4BN m ≤ 16 →
    Operand s x v (originOf (stagedReg s 2 2)) (xm4LT m) (xm4BK m) →
    Operand s y v (originOf (stagedReg s 2 3)) (xm4LT m) (xm4BN m) →
    fmtGroup x.fmt = fmtGroup y.fmt → (x.fmt = 7 → xm4BK m = 1 ∧ xm4BN m = 1 ∧ z.toNat % 2 = 0) →
    Issues (mk t z a b v) s (queued s 0 { command s (mk t z a b v) t 2 uses with a := x, b := y })

/-- A drain (R168, R169). -/
def Drains (mk : BitVec 6 → BitVec 4 → BitVec 6 → BitVec 2 → BitVec 1 → Instr) (ring : Bool) : Prop :=
  ∀ (t : BitVec 6) (z : BitVec 4) (a : BitVec 6) (m : BitVec 2) (c : BitVec 1) (s : State) (uses : List (Nat × Nat)),
    MRoom s t uses → s.core.eng.lease ≠ .none →
    let x := s.core.tid a.toNat
    let o := originOf (stagedReg s 2 2)
    m ≠ 3 → originDirty (stagedReg s 2 2) = false → (ring = true → x.chk = true) → x.viewable = true →
    x.holds o.1 o.2 1 1 = true → s.core.holdsBlock x o.1 o.2 1 1 x.size = true →
    Issues (mk t z a m c) s (queued s 0 { command s (mk t z a m c) t 2 uses with a := x })

end Sys2Proof.Claims

/-- R149 to R151: what a command takes from its tokens. The fields of register 0 with VALID name tokens and their
generations; a generation that differs traps TOKEN with the token's number, a reserved bit ILLEGAL; an outstanding token
cannot be produced again. -/
def Obligations.TokensAtIssue : Prop :=
  (∀ (s : State) (x : Nat), toksDirty x = false →
    (∀ u : Nat × Nat, (bit x 15 = true ∧ u = (bits x 0 6, bits x 8 2)) ∨ (bit x 31 = true ∧ u = (bits x 16 6, bits x 24 2)) ∨
        (bit x 47 = true ∧ u = (bits x 32 6, bits x 40 2)) → (s.core.token u.1).gen = u.2) →
    ∃ uses, s.consumes x = .ok uses s ∧ ∀ u, u ∈ uses ↔ (bit x 15 = true ∧ u = (bits x 0 6, bits x 8 2)) ∨
      (bit x 31 = true ∧ u = (bits x 16 6, bits x 24 2)) ∨ (bit x 47 = true ∧ u = (bits x 32 6, bits x 40 2))) ∧
  (∀ (s : State) (x : Nat), toksDirty x = true → ∃ t, s.consumes x = .trap t s ∧ t.cause = 0x01) ∧
  (∀ (s : State) (x : Nat), toksDirty x = false → bit x 15 = true → (s.core.token (bits x 0 6)).gen ≠ bits x 8 2 →
    ∃ t, s.consumes x = .trap t s ∧ t.cause = 0x24 ∧ t.info = bits x 0 6 * 2 ^ 32) ∧
  (∀ (t : BitVec 6) (z : BitVec 4) (s : State), s.core.eng.lease ≠ .none → (s.cluster (clusterOf s.core.id)).failed = false →
    s.core.eng.waiting 0 < 8 → stagedReg s 2 0 = 0 → (s.core.token t.toNat).out = true →
    TrapsWith (.mzero t z) s { cause := 0x24, info := t.toNat * 2 ^ 32 } 4)

/-- R155, R157 to R159, R161, R163, R167 to R170, R173, R242: the M commands but the products enter the M queue; MLEASE
and MFREE move the state of the lease at issue, and MLDW gives the block its number and format. A full queue holds any M
command, a FAILED array traps UE_CORE, and every command but MLEASE traps NOLEASE without a lease: that order of the causes is the
model's choice (log 26). Against an earlier command that it does not wait for, a command leaves the Z tiles they share open, as the
model reads R170 (log 8); a command follows its core's own stores to other packages (log 114). -/
def Sys2Proof.Claims.MatrixCommands : Prop :=
  (∀ (t : BitVec 6) (s : State) (uses : List (Nat × Nat)), MRoom s t uses →
    let x := (stagedReg s 2 1).toNat
    (x % 2 ^ 7 ≤ 64 → bit x 7 = false → x / 2 ^ 10 = 0 →
      Issues (.mlease t) s ((queued s 0 (command s (.mlease t) t 2 uses)).onEng fun g =>
        { g with lease := if s.core.eng.lease = .none then .requested else s.core.eng.lease })) ∧
    (s.core.eng.lease ≠ .none →
      Issues (.mfree t) s ((queued s 0 (command s (.mfree t) t 2 uses)).onEng fun g => { g with lease := .none }) ∧
      ∀ z : BitVec 4, Issues (.mzero t z) s (queued s 0 (command s (.mzero t z) t 2 uses)))) ∧
  (∀ (t a : BitVec 6) (v : BitVec 1) (s : State) (uses : List (Nat × Nat)), MRoom s t uses → s.core.eng.lease ≠ .none →
    let x := s.core.tid a.toNat
    let m := stagedReg s 2 4
    originDirty (stagedReg s 2 2) = false → xm4Dirty m = false → xm4Block m = true →
    Operand s x v (originOf (stagedReg s 2 2)) (xm4BK m) (xm4BN m) → (x.fmt = 7 → xm4BK m = 1 ∧ xm4BN m = 1) →
    let c : Cmd := { command s (.mldw t a v) t 2 uses with a := x, block := s.core.eng.nblock + 1 }
    Issues (.mldw t a v) s ((queued s 0 c).onEng fun g =>
      { g with nblock := s.core.eng.nblock + 1, bfmt := x.fmt, bk := xm4BK m, bn := xm4BN m,
               blocks := (s.core.eng.nblock + 1, c) :: s.core.eng.blocks.filter fun p => g.uses p.1 })) ∧
  (∀ (g : Engines) (c : Cmd), (∀ e ∈ g.qm, e.tok ∈ g.awaits 24 c.uses) → g.accept c = { g with qm := g.qm ++ [c] }) ∧
  (∀ (g : Engines) (c e : Cmd) (z : Nat), e ∈ g.qm → e.tok ∉ g.awaits 24 c.uses → z ∈ (e.touches g).2 →
    z ∈ (c.touches g).1 ∨ z ∈ (c.touches g).2 →
    (∃ y ∈ (g.accept c).qm, y.tok = c.tok ∧ z ∈ y.wild) ∧ ∃ y ∈ (g.accept c).qm, y.tok = e.tok ∧ z ∈ y.wild) ∧
  Drains .mdrn false ∧ Drains .mdrnr true ∧
  (∀ (t a b : BitVec 6) (k : BitVec 1) (s : State) (uses : List (Nat × Nat)), MRoom s t uses → s.core.eng.lease ≠ .none →
    let x := s.core.tid a.toNat
    let v := s.core.tid b.toNat
    let y := s.core.tid (stagedReg s 2 5).toNat
    (stagedReg s 2 5).toNat < 64 → (x.fmt = 4 ∨ x.fmt = 5 ∨ x.fmt = 8 ∨ x.fmt = 9) →
    x.pool = false → x.ord = false → x.swz = false →
    v.fmt = 6 → v.pool = false → v.ord = false → v.swz = false → y.fmt = 6 → y.pool = false → y.ord = false → y.swz = false →
    Issues (.fgemv t a b k) s (queued s 0 { command s (.fgemv t a b k) t 2 uses with a := x, b := v, y := y })) ∧
  (∀ (t a b : BitVec 6) (z : BitVec 4) (v c : BitVec 1) (m : BitVec 2) (i : Instr) (s : State),
    i ∈ [Instr.mfree t, .mldw t a v, .mmul t z a v, .mmulb t z a v, .mrsa t z a b v, .mrsd t z a b v, .mdrn t z a m c,
         .mdrnr t z a m c, .mzero t z, .fgemv t a b v] →
    (8 ≤ s.core.eng.waiting 0 → exec i s = .next (s.ended (.held (.queue 0)))) ∧
    (s.core.eng.waiting 0 < 8 → (s.cluster (clusterOf s.core.id)).failed = true → TrapsWith i s { cause := 0x30 } 4) ∧
    (s.core.eng.waiting 0 < 8 → (s.cluster (clusterOf s.core.id)).failed = false → s.core.eng.lease = .none →
      TrapsWith i s { cause := 0x23 } 4))

/-- R164 to R166: the products enter the M queue with the block or the operands they name. -/
def Sys2Proof.Claims.ProductCommands : Prop :=
  Streams .mmul false ∧ Streams .mmulb true ∧ HoldsResults .mrsa ∧ HoldsResults .mrsd

/-- R155, R157 to R159, R161, R163, R167 to R170, R173, R242: the M commands but the products enter the M queue;
MLEASE and MFREE move the state of the lease at issue, and MLDW gives the block its number and format. A full queue
holds any M command, a FAILED array traps UE_CORE, and every command but MLEASE traps NOLEASE without a lease: that
order of the causes is the model's choice (log 26). Against an earlier command that it does not wait for, a command
leaves the Z tiles they share open, as the model reads R170 (log 8); a command follows its core's own stores to other
packages (log 114). R164 to R166: the products enter the M queue with the block or the operands they name. -/
def Obligations.MatrixAndProductCommands : Prop := Claims.MatrixCommands ∧ Claims.ProductCommands

/-! ### The C slots (R174 to R184, R259) -/

namespace Sys2Proof.Claims

/-- A C command may enter its engine's queue: room, and under RF a clean FLAG of a package of the domain (R175). -/
def CRoom (s : State) (e : BitVec 1) (t : BitVec 6) (f : BitVec 1) (uses : List (Nat × Nat)) : Prop :=
  Room s (1 + e.toNat) e.toNat t uses ∧
  (f = 1 → flagDirty (stagedReg s e.toNat 1) = false ∧ flagPkg (stagedReg s e.toNat 1) ∈ s.fab.domain)

/-- A block of view tiles that a copy engine may name: inside the bounds, in the scratchpad where the TID is of the pool. -/
def Block (s : State) (t : TidWords) (o : Nat × Nat) (ni nj : Nat) : Prop :=
  t.viewable = true ∧ t.holds o.1 o.2 ni nj = true ∧ s.core.holdsBlock t o.1 o.2 ni nj t.size = true

/-- Bytes that a byte command may name: of a pool TID, in the scratchpad; SWZ only with the pool (R174). -/
def Bytes (s : State) (t : TidWords) (a : Int) (n : Nat) : Prop :=
  (t.swz = true → t.pool = true) ∧ (t.pool = true → 0 < n → s.core.inPool a n = true)

/-- A command of a source and a destination block: `ok` is the command's own rule; `flip` exchanges the destination's
sides. -/
def MovesTiles (mk : BitVec 1 → BitVec 6 → BitVec 6 → BitVec 6 → BitVec 2 → BitVec 2 → BitVec 1 → Instr) (flip : Bool)
    (ok : State → BitVec 1 → TidWords → TidWords → Nat → Prop) : Prop :=
  ∀ (e : BitVec 1) (t a b : BitVec 6) (c k : BitVec 2) (f : BitVec 1) (s : State) (uses : List (Nat × Nat)),
    CRoom s e t f uses →
    let x := s.core.tid a.toNat
    let y := s.core.tid b.toNat
    let m := stagedReg s e.toNat 4
    let ni := blockNI m
    let nj := blockNJ m
    originBad (stagedReg s e.toNat 2) = false → originBad (stagedReg s e.toNat 3) = false → blockDirty m = false →
    ok s e x y k.toNat → Block s x (copyOrigin (stagedReg s e.toNat 2)) ni nj →
    Block s y (copyOrigin (stagedReg s e.toNat 3)) (if flip then nj else ni) (if flip then ni else nj) →
    Issues (mk e t a b c k f) s
      (queued s (1 + e.toNat) { command s (mk e t a b c k f) t e.toNat uses with a := x, b := y })

/-- CSPARSE: a block of tiles on one side and 16 bytes of header, at least, of a stream on the other (R184). -/
def MovesStream (mk : BitVec 1 → BitVec 6 → BitVec 6 → BitVec 6 → BitVec 2 → BitVec 1 → Instr) (pack : Bool) : Prop :=
  ∀ (e : BitVec 1) (t a b : BitVec 6) (c : BitVec 2) (f : BitVec 1) (s : State) (uses : List (Nat × Nat)),
    CRoom s e t f uses →
    let x := s.core.tid a.toNat
    let y := s.core.tid b.toNat
    let tiles := if pack then x else y
    let stream := if pack then y else x
    let org := stagedReg s e.toNat (if pack then 2 else 3)
    let off := stagedReg s e.toNat (if pack then 3 else 2)
    let m := stagedReg s e.toNat 4
    originBad org = false → blockDirty m = false → x.fmt = y.fmt → fmtBits x.fmt ≠ 4 → stream.viewable = true →
    Block s tiles (copyOrigin org) (blockNI m) (blockNJ m) → Bytes s stream (stream.base + off.toInt) 16 →
    Issues (mk e t a b c f) s
      (queued s (1 + e.toNat) { command s (mk e t a b c f) t e.toNat uses with a := x, b := y })

/-- What COPTM asks of its TIDs, of CHK and of the address of its parameters (R183; log 20). -/
def optimiser (s : State) (e : BitVec 1) (x y : TidWords) (k : Nat) : Prop :=
  (x.fmt = 5 ∨ x.fmt = 6) ∧ (y.fmt = 5 ∨ y.fmt = 6) ∧ (x.chk = false → k % 2 = 0) ∧ (y.chk = false → k < 2) ∧
  (stagedReg s e.toNat 5).toNat % 32 = 0 ∧ s.core.inPool (stagedReg s e.toNat 5).toNat 32 = true

end Sys2Proof.Claims

/-- R175, R177, R178, R183, R184: CTILE, CXPOSE, CCONV, COPTM and CSPARSE enter the queue of their engine. The CHK values
that CCONV and COPTM take, the alignment of COPTM's parameters, and the sixteen bytes of a stream that CSPARSE tests at issue are the
model's reading (logs 20, 30, 115). -/
def Sys2Proof.Claims.BlockCommands : Prop :=
  MovesTiles .ctile false (fun _ _ x y k => x.fmt = y.fmt ∧
    (x.chk = true → y.chk = false → k ≤ 1) ∧ (x.chk = false → k = if y.chk then 2 else 0)) ∧
  MovesTiles .cxpose true (fun _ _ x y k => x.fmt = y.fmt ∧ fmtBits x.fmt ≠ 4 ∧
    (x.chk = true → k ≤ 1) ∧ (x.chk = false → k = if y.chk then 2 else 0)) ∧
  MovesTiles .cconv false (fun s e x y k => cvtBad (stagedReg s e.toNat 5) = false ∧
    (x.chk = true → y.chk = true → k = 3) ∧ (x.chk = true → y.chk = false → k ≤ 1) ∧
    (x.chk = false → k = if y.chk then 2 else 0)) ∧
  MovesTiles .coptmSgdm false optimiser ∧ MovesTiles .coptmAdam false optimiser ∧
  MovesStream .csparsePack true ∧ MovesStream .csparseUnpack false

/-- R174 to R176, R179 to R182, R259: the other C commands enter the queue of their engine; HGFOLD checks its handle, the
region and the grid's extent. A full queue holds any of them; under RF a reserved bit of FLAG traps ILLEGAL and a
package outside the domain PROT. That order of the causes (log 26), that CGATH tests its whole source view at issue (log 115), and
that HGFOLD asks for bytes of another package first (log 103), is the model's choice. -/
def Sys2Proof.Claims.CopyCommands : Prop :=
  (∀ (e : BitVec 1) (t a b : BitVec 6) (c : BitVec 2) (f : BitVec 1) (s : State) (uses : List (Nat × Nat)),
    CRoom s e t f uses →
    let r (k : Nat) : Word := stagedReg s e.toNat k
    let x := s.core.tid a.toNat
    let y := s.core.tid b.toNat
    let q := 1 + e.toNat
    (Bytes s x (x.base + (r 2).toInt) (r 4).toNat → Bytes s y (y.base + (r 3).toInt) (r 4).toNat →
      Issues (.cpy e t a b c f) s (queued s q { command s (.cpy e t a b c f) t e.toNat uses with a := x, b := y })) ∧
    (let rows : Nat := (r 4).toNat / 2 ^ 32
     let n : Nat := if rows = 0 then 0 else (r 4).toNat % 2 ^ 32
     Bytes s x (x.base + (r 2).toInt) n → Bytes s x (x.base + (r 2).toInt + ((rows : Int) - 1) * (r 5).toInt) n →
     Bytes s y (y.base + (r 3).toInt) n → Bytes s y (y.base + (r 3).toInt + ((rows : Int) - 1) * (r 6).toInt) n →
      Issues (.cpy2 e t a b c f) s (queued s q { command s (.cpy2 e t a b c f) t e.toNat uses with a := x, b := y })) ∧
    (originBad (r 2) = false → blockDirty (r 4) = false → (r 3).toNat < 2 ^ 14 →
      Block s x (copyOrigin (r 2)) (blockNI (r 4)) (blockNJ (r 4)) →
      Issues (.csend e t a c f) s (queued s q { command s (.csend e t a c f) t e.toNat uses with a := x })) ∧
    (∀ k : BitVec 2, originBad (r 3) = false → blockDirty (r 4) = false → k.toNat = (if y.chk then 2 else 0) →
      Block s y (copyOrigin (r 3)) (blockNI (r 4)) (blockNJ (r 4)) →
      Issues (.cfill e t b c k f) s (queued s q { command s (.cfill e t b c k f) t e.toNat uses with b := y })) ∧
    (∀ k : BitVec 2, (r 4).toNat < 2 ^ 32 → k.toNat = (if y.chk then 2 else 0) → x.fmt = y.fmt → fmtBits x.fmt ≠ 4 →
      x.viewCols = y.viewCols → x.viewable = true → y.viewable = true → (r 5).toNat % 4 = 0 →
      ((r 4).toNat ≠ 0 → s.core.inPool (r 5).toNat (4 * (r 4).toNat) = true ∧ Block s x (0, 0) x.viewRows x.viewCols ∧
        Block s y ((r 3).toNat / 64, 0)
          (((r 3).toNat + (r 4).toNat - 1) / 64 + 1 - (r 3).toNat / 64) y.viewCols) →
      Issues (.cgath e t a b c k f) s
        (queued s q { command s (.cgath e t a b c k f) t e.toNat uses with a := x, b := y }))) ∧
  (∀ (e : BitVec 1) (t a : BitVec 6) (c : BitVec 2) (s : State) (uses : List (Nat × Nat)), CRoom s e t 0 uses →
    let x := s.core.tid a.toNat
    originBad (stagedReg s e.toNat 2) = false → blockDirty (stagedReg s e.toNat 4) = false →
    x.viewable = true →
    Issues (.cpref e t a c) s (queued s (1 + e.toNat) { command s (.cpref e t a c) t e.toNat uses with a := x }) ∧
    Issues (.cprefL1 e t a c) s (queued s (1 + e.toNat) { command s (.cprefL1 e t a c) t e.toNat uses with a := x })) ∧
  (∀ (e : BitVec 1) (t : BitVec 6) (c : BitVec 2) (f : BitVec 1) (s u : State) (uses : List (Nat × Nat)) (g : Target),
    CRoom s e t f uses → (stagedReg s e.toNat 2).toNat < 16 → (stagedReg s e.toNat 3).toNat < 2 ^ 16 →
    let h := (stagedReg s e.toNat 2).toNat
    let y := s.core.handle h
    y.kind = 1 → s.through h 0 1 .counter = .ok g u → (u.core.token t.toNat).out = false →
    (match u.fetched g.pa 8 with
      | .error x => isLack x.cause = false
      | .ok bs => match u.gridDesc u.core.ctx y.vbase (leNat bs) with
        | .ok r => gridWordBad (leNat bs) = true ∨ r.1.extent ≤ y.limit
        | .error x => isLack x.cause = false) →
    ∀ i ∈ [Instr.hgfold e t c f, .hgfoldAdd e t c f], Issues i s (queued u (1 + e.toNat)
      { command u i t e.toNat uses with pc := s.core.seq.pc, x := s.core.staged e.toNat, hyper := [y.vbase] })) ∧
  (∀ (e : BitVec 1) (t a b : BitVec 6) (c k : BitVec 2) (f : BitVec 1) (i : Instr) (s : State),
    i ∈ [Instr.cpy e t a b c f, .cpy2 e t a b c f, .ctile e t a b c k f, .cxpose e t a b c k f, .cconv e t a b c k f,
         .csend e t a c f, .cfill e t b c k f, .cgath e t a b c k f, .coptmSgdm e t a b c k f, .coptmAdam e t a b c k f,
         .csparsePack e t a b c f, .csparseUnpack e t a b c f, .hgfold e t c f, .hgfoldAdd e t c f] →
    (8 ≤ s.core.eng.waiting (1 + e.toNat) → exec i s = .next (s.ended (.held (.queue (1 + e.toNat))))) ∧
    (∀ uses, Room s (1 + e.toNat) e.toNat t uses → f = 1 →
      (flagDirty (stagedReg s e.toNat 1) = true → TrapsWith i s { cause := 0x01 } (5 + e.toNat)) ∧
      (flagDirty (stagedReg s e.toNat 1) = false → flagPkg (stagedReg s e.toNat 1) ∉ s.fab.domain →
        TrapsWith i s { cause := 0x11 } (5 + e.toNat))))

/-- R175, R177, R178, R183, R184: CTILE, CXPOSE, CCONV, COPTM and CSPARSE enter the queue of their engine. The CHK
values that CCONV and COPTM take, the alignment of COPTM's parameters, and the sixteen bytes of a stream that CSPARSE
tests at issue are the model's reading (logs 20, 30, 115). R174 to R176, R179 to R182, R259: the other C commands
enter the queue of their engine; HGFOLD checks its handle, the region and the grid's extent. A full queue holds any
of them; under RF a reserved bit of FLAG traps ILLEGAL and a package outside the domain PROT. That order of the
causes (log 26), that CGATH tests its whole source view at issue (log 115), and that HGFOLD asks for bytes of another
package first (log 103), is the model's choice. -/
def Obligations.CopyEngineCommands : Prop := Claims.BlockCommands ∧ Claims.CopyCommands

/-! ### The Y slot (R192 to R200, R323 to R338, R360, R383) -/

namespace Sys2Proof.Claims

/-- The core's masked bytes are written back, and no access of it to another package is out: what REL waits for (R195). -/
def Released (s : State) : Prop :=
  s.writeBackAll.core.loc.remote = [] ∧ ∀ w ∈ s.writeBackAll.core.waiting, w.holes = []

/-- What ACQ leaves: the first-level cache written back, and at a scope above 0 invalidated (R196, R201). -/
def acquired (s : State) (scope : Nat) : State := if scope = 0 then s.writeBackAll else s.cleanCache

/-- A post as a landing post makes it: the flag rises, saturating, and F16 to F31 set AIP, with their number as the source, unless
AIP is set (R323, R325, R327). -/
def Posts (c d : Core) (f n : Nat) : Prop :=
  d.sy = { c.sy with flag := Sparse.set 0 c.sy.flag f (min (Sparse.get 0 c.sy.flag f + n) 65535) } ∧
  (f < 16 ∨ c.tr.aip = true → d.tr = c.tr) ∧
  (16 ≤ f → c.tr.aip = false → d.tr = { c.tr with aip := true, apend := BitVec.ofNat 8 f })

/-- A memory counter that a handle reaches (R335). -/
def Counter (s : State) (h : BitVec 4) (g : BitVec 5) (classes : List Nat) (t : State) (pa leaf : Nat) : Prop :=
  s.handleAddr h.toNat (s.core.g g.toNat).toInt % 8 = 0 ∧ leafClass leaf ∈ classes ∧
  ∃ va, s.through h.toNat (s.core.g g.toNat).toInt 8 .counter = .ok (.mem pa leaf va) t

end Sys2Proof.Claims

/-- R189, R193, R195, R196, R199: FENCE has no effect of its own on a core whose accesses are performed in program order
(log 9); REL writes the masked bytes back and waits for other packages; ACQ waits for earlier loads, writes back and, above core
scope, invalidates; DRAINNT waits for the non-temporal stores. A line written back gives memory its masked bytes and no other. That
REL waits at core scope too, and ACQ writes back there, is the model's choice (log 114). -/
def Sys2Proof.Claims.FencesReleaseAndAcquire : Prop :=
  (∀ (m : BitVec 16) (s : State), Issues (.fence m) s s) ∧
  (∀ (c : BitVec 3) (s : State), (Released s → Issues (.rel c) s s.writeBackAll) ∧
    (¬ Released s → exec (.rel c) s = .next (s.writeBackAll.ended (.held .release)))) ∧
  (∀ (c : BitVec 3) (s : State), (s.core.returned = true → Issues (.acq c) s (acquired s c.toNat)) ∧
    (s.core.returned = false → exec (.acq c) s = .next (s.ended (.held .acquire)))) ∧
  (∀ s : State, (s.core.loc.remoteNt = [] → Issues .drainnt s s) ∧
    (s.core.loc.remoteNt ≠ [] → exec .drainnt s = .next (s.ended (.held .drainNt)))) ∧
  (∀ s : State, (s.cleanCache).core.loc.lines = [] ∧
    ((∀ x ∈ s.core.loc.lines, x.mask = []) → s.writeBackAll = s)) ∧
  (∀ (s : State) (x : Line), s.remote x.pa = false → x.pa % 256 = 0 → x.mask.Pairwise (· < ·) → (∀ o ∈ x.mask, o < 256) →
    s.key (x.pa + 255) = s.key x.pa + 255 →
    ∀ k, Memory.byte (s.writeBack x).mem k =
      if s.key x.pa ≤ k ∧ k - s.key x.pa ∈ x.mask then Sparse.get 0 x.bytes (k - s.key x.pa) else Memory.byte s.mem k)

/-- R200, R323 to R327: FWAIT holds until the flag reaches n, then subtracts n and acquires; FPOST posts to the core
itself, FPOSTR releases and posts to a core of the domain; a post to a task of another context is dropped and counted.
TWAIT and TWAITA hold until a token, or every token, of the mask has retired, and trap for a faulted one. -/
def Sys2Proof.Claims.FlagsAndTokens : Prop :=
  (∀ (f : BitVec 5) (n : BitVec 9) (s : State),
    let v := Sparse.get 0 s.core.sy.flag f.toNat
    (n.toNat ≤ v → s.core.returned = true →
      Issues (.fwait f n) s (s.cleanCache.onSy fun y => { y with flag := Sparse.set 0 y.flag f.toNat (Sparse.get 0 y.flag f.toNat - n.toNat) })) ∧
    (v < n.toNat → exec (.fwait f n) s = .next (s.ended (.held (.flag f.toNat n.toNat)))) ∧
    (n.toNat ≤ v → s.core.returned = false → exec (.fwait f n) s = .next (s.ended (.held .acquire))) ∧
    (n = 0 → Issues (.fpost f n) s s) ∧
    (n ≠ 0 → Issues (.fpost f n) s
      (s.onSy fun y => { y with flag := Sparse.set 0 y.flag f.toNat (min (v + n.toNat) 65535) }))) ∧
  (∀ (f g : BitVec 5) (n : BitVec 9) (s : State), Full s [g] →
    let t := s.gn g
    let pkg := t / 2 ^ 8
    (t < 2 ^ 14 → pkg ∈ s.fab.domain → Released s →
      Issues (.fpostr f g n) s (s.writeBackAll.sendPost pkg (t % 2 ^ 8) f.toNat n.toNat s.writeBackAll.core.ctx)) ∧
    (2 ^ 14 ≤ t → TrapsWith (.fpostr f g n) s { cause := 0x01 } 7) ∧
    (t < 2 ^ 14 → pkg ∉ s.fab.domain → TrapsWith (.fpostr f g n) s { cause := 0x11 } 7)) ∧
  (∀ (s : State) (core f n ctx : Nat) (k : Task), n ≠ 0 → core ≠ s.core.id →
    (∃ c ∈ s.others, c.id = core) → (s.coreAt core).task = some k →
    (k.ctx = ctx → ∃ c : Core, Posts (s.coreAt core) c f n ∧ c = { s.coreAt core with sy := c.sy, tr := c.tr } ∧
      (s.sendPost s.fab.pkg core f n ctx).coreAt core = c ∧ (s.sendPost s.fab.pkg core f n ctx).core = s.core ∧
      (s.sendPost s.fab.pkg core f n ctx).mem = s.mem) ∧
    (k.ctx ≠ ctx → (s.coreAt core).sy.caught = none →
      ∃ t, s.sendPost s.fab.pkg core f n ctx = t ∧ t = { s with dies := t.dies } ∧
        (t.die (core / 32)).postdrop = min ((s.die (core / 32)).postdrop + 1) (2 ^ 32 - 1))) ∧
  (∀ (g : BitVec 5) (s : State), Full s [g] →
    let m := s.core.g g.toNat
    let done (k : Nat) : Prop := (s.core.token k).out = false
    ((∀ k < 64, m.getLsbD k = true → done k → (s.core.token k).flt = none) →
      ((m = 0 ∨ ∃ k < 64, m.getLsbD k = true ∧ done k) → Issues (.twait g) s s) ∧
      (m ≠ 0 → (∀ k < 64, m.getLsbD k = true → ¬ done k) → exec (.twait g) s = .next (s.ended (.held (.tokenAny m)))) ∧
      ((∀ k < 64, m.getLsbD k = true → done k) → Issues (.twaita g) s s) ∧
      ((∃ k < 64, m.getLsbD k = true ∧ ¬ done k) → exec (.twaita g) s = .next (s.ended (.held (.tokenAll m))))) ∧
    (∀ k f, k < 64 → f.reason < 16 → m.getLsbD k = true → done k → (s.core.token k).flt = some f →
      (∀ j < k, m.getLsbD j = true → done j → (s.core.token j).flt = none) →
      ∃ t : TrapInfo, t.cause = f.cause ∧ bits t.info 32 6 = k ∧ TrapsWith (.twait g) s t 7 ∧ TrapsWith (.twaita g) s t 7))

/-- R189, R193, R195, R196, R199: FENCE has no effect of its own on a core whose accesses are performed in program
order (log 9); REL writes the masked bytes back and waits for other packages; ACQ waits for earlier loads, writes
back and, above core scope, invalidates; DRAINNT waits for the non-temporal stores. A line written back gives memory
its masked bytes and no other. That REL waits at core scope too, and ACQ writes back there, is the model's choice
(log 114). R200, R323 to R327: FWAIT holds until the flag reaches n, then subtracts n and acquires; FPOST posts to
the core itself, FPOSTR releases and posts to a core of the domain; a post to a task of another context is dropped
and counted. TWAIT and TWAITA hold until a token, or every token, of the mask has retired, and trap for a faulted
one. -/
def Obligations.OrderingFlagsAndTokens : Prop := Claims.FencesReleaseAndAcquire ∧ Claims.FlagsAndTokens

/-- R329, R330: BARS arrives and goes on, BARV arrives and then waits, BARW waits for an arrival made before. A wait ends
once the barrier has completed, and acquires; a number that the hierarchy does not make legal traps ILLEGAL. -/
def Sys2Proof.Claims.Barriers : Prop :=
  ∀ (b : BitVec 7) (s : State) (k : Kernel), s.myKernel = some k →
    let scope := k.barrierScope b.toNat
    let arrived (bars : Bool) : State := s.writeBackAll.onSy fun y => { y with
      arr := insertNat b.toNat y.arr, bars := if bars then insertNat b.toNat y.bars else dropNat b.toNat y.bars }
    let passed : State := (acquired s scope).waitOver b.toNat
    (k.legalBarrier b.toNat = true →
      (b.toNat ∉ s.core.sy.arr → Released s → Issues (.bars b) s (arrived true)) ∧
      (b.toNat ∉ s.core.sy.arr → s.core.waitsAt b.toNat = false → Released s →
        exec (.barv b) s = .next (((arrived false).waitAt b.toNat).ended (.held (.barrierWait b.toNat)))) ∧
      (b.toNat ∉ s.core.sy.arr → s.core.waitsAt b.toNat = true → s.core.returned = true →
        Issues (.barv b) s passed ∧ Issues (.barw b) s passed) ∧
      (b.toNat ∉ s.core.sy.arr → s.core.waitsAt b.toNat = false → Issues (.barw b) s s) ∧
      (b.toNat ∈ s.core.sy.arr →
        exec (.bars b) s = .next (s.ended (.held (.barrierArrive b.toNat))) ∧
        exec (.barw b) s = .next ((s.waitAt b.toNat).ended (.held (.barrierWait b.toNat))) ∧
        (s.core.waitsAt b.toNat = true → exec (.barv b) s = .next (s.ended (.held (.barrierWait b.toNat)))) ∧
        (s.core.waitsAt b.toNat = false → exec (.barv b) s = .next (s.ended (.held (.barrierArrive b.toNat)))))) ∧
    (k.legalBarrier b.toNat = false → TrapsWith (.barv b) s { cause := 0x01 } 7 ∧ TrapsWith (.barw b) s { cause := 0x01 } 7 ∧
      TrapsWith (.bars b) s { cause := 0x01 } 7)

/-- R335 to R337, R358: CINC releases and adds n at the counter's home, saturating, or sends the add to another package; CWAIT
asks the fold unit of the counter, holds until its request is granted, and then acquires; while it holds its address is not judged
again, and where its region fails the request is undone and the region's cause trapped. The counter is aligned and of
CLASS 1, or of CLASS 2 for CWAIT. The numbers of the messages, and the region and context beside the request, are the model's choice
(logs 1, 24). -/
def Sys2Proof.Claims.ArrivalCounters : Prop :=
  (∀ (h : BitVec 4) (g : BitVec 5) (n : BitVec 9) (s t : State) (pa leaf : Nat), Full s [g] →
    (Counter s h g [1] t pa leaf →
      (t.remote pa = false → Released t → ∃ u, Issues (.cinc h g n) s u ∧ u = { t.writeBackAll with mem := u.mem } ∧
        u.mem = Memory.store t.writeBackAll.mem (t.writeBackAll.key pa)
          (leBytes 8 (min (leNat (t.writeBackAll.homeBytes pa 8) + n.toNat) (2 ^ 64 - 1)))) ∧
      (t.remote pa = true → Released t →
        let u := t.writeBackAll
        Issues (.cinc h g n) s (((u.newTag (paPkg pa)).2.send (paPkg pa)
          (.atomic pa 10 (u.newTag (paPkg pa)).1 u.fab.pkg (w64 n.toNat) 0)).onLoc fun l =>
            { l with remote := l.remote ++ [(u.newTag (paPkg pa)).1] }))) ∧
    (Counter s h g [0, 2, 3, 4, 5, 6, 7] t pa leaf →
      ∃ x, exec (.cinc h g n) s = .next ((t.takeTrap x 7).ended (.trapped 0x11 2)) ∧ x.cause = 0x11) ∧
    (s.handleAddr h.toNat (s.core.g g.toNat).toInt % 8 ≠ 0 → ∃ x, TrapsWith (.cinc h g n) s x 7 ∧
      TrapsWith (.cwait h g n) { s with core := { s.core with sy := { s.core.sy with cwait := none } } } x 7 ∧ x.cause = 0x14)) ∧
  (∀ (h : BitVec 4) (g : BitVec 5) (n : BitVec 9) (s : State), Full s [g] →
    (∀ (t : State) (pa leaf : Nat), s.core.sy.cwait = none → Counter s h g [1, 2] t pa leaf →
      let region := if leafClass leaf = 2 then leafRegion leaf else 0
      let own := if t.remote pa = true then 0 else region
      (t.failedRegion own = .ok none →
        (n = 0 → t.core.returned = true → Issues (.cwait h g n) s
          ((acquired t 3).onSy fun y => { y with cwait := none, granted := false })) ∧
        (n ≠ 0 → t.remote pa = false → exec (.cwait h g n) s = .next
          (({ t with fab := { t.fab with cwaits := t.fab.cwaits ++ [(pa, n.toNat, t.core.id)] } }.onSy fun y =>
            { y with cwait := some (pa, n.toNat, 0), granted := false, cregion := own }).ended (.held (.counter pa)))) ∧
        (n ≠ 0 → t.remote pa = true → exec (.cwait h g n) s = .next
          ((((t.newTag (paPkg pa)).2.send (paPkg pa) (.atomic pa 11 (t.newTag (paPkg pa)).1 t.fab.pkg (w64 n.toNat)
            (w64 (region + t.core.ctx * 2 ^ 12)))).onSy fun y =>
              { y with cwait := some (pa, n.toNat, (t.newTag (paPkg pa)).1), granted := false, cregion := own }).ended
                (.held (.counter pa))))) ∧
      (∀ d, t.failedRegion own = .ok (some d) → exec (.cwait h g n) s = .next ((t.takeTrap
        { cause := d.cause, info := 4 * 2 ^ 60 + d.id * 2 ^ 32 + d.freason * 2 ^ 28, slot := false } 7).ended
          (.trapped d.cause 2)))) ∧
    (∀ w, s.core.sy.cwait = some w →
      (s.core.sy.granted = true → s.core.returned = true →
        Issues (.cwait h g n) s ((acquired s 3).onSy fun y => { y with cwait := none, granted := false })) ∧
      (s.core.sy.granted = false → s.failedRegion s.core.sy.cregion = .ok none →
        exec (.cwait h g n) s = .next (s.ended (.held (.counter w.1)))) ∧
      (∀ d, s.core.sy.granted = false → s.failedRegion s.core.sy.cregion = .ok (some d) →
        exec (.cwait h g n) s = .next ((((s.undoWait w).onSy fun y => { y with cwait := none }).takeTrap
          { cause := d.cause, info := 4 * 2 ^ 60 + d.id * 2 ^ 32 + d.freason * 2 ^ 28, slot := false } 7).ended
            (.trapped d.cause 2)))))

/-- R329, R330: BARS arrives and goes on, BARV arrives and then waits, BARW waits for an arrival made before. A wait
ends once the barrier has completed, and acquires; a number that the hierarchy does not make legal traps ILLEGAL.
R335 to R337, R358: CINC releases and adds n at the counter's home, saturating, or sends the add to another package;
CWAIT asks the fold unit of the counter, holds until its request is granted, and then acquires; while it holds its
address is not judged again, and where its region fails the request is undone and the region's cause trapped. The
counter is aligned and of CLASS 1, or of CLASS 2 for CWAIT. The numbers of the messages, and the region and context
beside the request, are the model's choice (logs 1, 24). -/
def Obligations.BarriersAndCounters : Prop := Claims.Barriers ∧ Claims.ArrivalCounters

/-- R358, R360, R361, R383: RGO arms a FREE region for a new instance, frees a FAILED one when G[63] is set, closes a
COMPLETE persistent one, traps the cause of a FAILED one and REGION_OVERRUN in any other state. WADD issues as many
cycles after it first reaches issue as its range has granules, and watches the range; WCLR and WRESUME change the watch
state. -/
def Obligations.RegionsAndWatchpoints : Prop :=
  (∀ (g : BitVec 5) (s t : State) (x : Xlation) (d : Desc) (clear : Bool), Full s [g] →
    0 < s.gn g % 2 ^ 12 → s.gn g = s.gn g % 2 ^ 12 + (if clear then 2 ^ 63 else 0) →
    s.translate s.core.ctx (descVa (s.gn g % 2 ^ 12)) .counter true = .ok x t →
    t.desc t.core.ctx (s.gn g % 2 ^ 12) = .ok d → leafClass x.leaf.toNat = 2 → leafRegion x.leaf.toNat = s.gn g % 2 ^ 12 →
    let st := t.regionState d
    let held := match t.held d.ctx d.id with | some r => some r.inst | none => none
    (clear = true → st = 4 → Issues (.rgo g) s ((t.clearRegion d).setRegionState d d.inst 0 0 0)) ∧
    (clear = true → st ≠ 4 → Issues (.rgo g) s t) ∧
    (clear = false → ¬ (d.rstate = 5 ∧ held.isSome = true) →
      (st = 0 → Issues (.rgo g) s (t.armRegion d (match t.core.task with | some k => k.kern | none => 0))) ∧
      (st = 2 → d.persist = true → Issues (.rgo g) s ((t.setRegionState d (held.getD d.inst) 3 0 0).onHeld d.ctx d.id fun r =>
        { r with next := some (match t.core.task with | some k => k.kern | none => 0) })) ∧
      (st = 4 → d.freason < 16 → ∃ y : TrapInfo, y.cause = d.cause ∧ bits y.info 60 4 = 4 ∧ bits y.info 32 12 = d.id % 2 ^ 12 ∧
        exec (.rgo g) s = .next ((t.takeTrap y 7).ended (.trapped d.cause 2))) ∧
      (st ≠ 0 → st ≠ 4 → ¬ (st = 2 ∧ d.persist = true) → ∃ y : TrapInfo, y.cause = 0x29 ∧
        exec (.rgo g) s = .next ((t.takeTrap y 7).ended (.trapped 0x29 2)))) ∧
    (clear = false → d.rstate = 5 → held.isSome = true →
      exec (.rgo g) s = .next (t.ended (.held (.region d.id))))) ∧
  (∀ (g : BitVec 5) (s : State), Full s [g] → s.gn g % 2 ^ 12 = 0 ∨ bits (s.gn g) 12 51 ≠ 0 →
    TrapsWith (.rgo g) s { cause := 0x01 } 7) ∧
  (∀ (a b : BitVec 5) (s : State), Full s [a, b] →
    let va := s.gn a
    let len := s.gn b
    (0 < len → len ≤ 2 ^ 24 → va + len ≤ 2 ^ 52 →
      (∀ u, s.core.seq.wadd = some (s.core.seq.pc, u) → u ≤ s.core.seq.cyc →
        ∃ t : State, Issues (.wadd a b) s t ∧ t = { s with core := { s.core with
            seq := { s.core.seq with wadd := none }
            dbg := { s.core.dbg with
              filter := t.core.dbg.filter, exact := t.core.dbg.exact, ovf := t.core.dbg.ovf } } } ∧
          (s.core.dbg.exact.length < 16 → t.core.dbg.exact = s.core.dbg.exact ++ [(va, len)] ∧ t.core.dbg.ovf = s.core.dbg.ovf) ∧
          (16 ≤ s.core.dbg.exact.length → t.core.dbg.exact = s.core.dbg.exact ∧ t.core.dbg.ovf = true) ∧
          (∀ k, va ≤ k → k < va + len → ∀ j ∈ watchBits (k / 64), j < 1024 → t.core.dbg.filter.getLsbD j = true) ∧
          (∀ j, s.core.dbg.filter.getLsbD j = true → t.core.dbg.filter.getLsbD j = true)) ∧
      (∀ u, s.core.seq.wadd = some (s.core.seq.pc, u) → s.core.seq.cyc < u →
        exec (.wadd a b) s = .next (s.ended (.held (.wadd u)))) ∧
      ((∀ u, s.core.seq.wadd ≠ some (s.core.seq.pc, u)) →
        let u := s.core.seq.cyc + ((va + len - 1) / 64 - va / 64 + 1)
        exec (.wadd a b) s = .next ((s.onSeq fun q => { q with wadd := some (q.pc, u) }).ended (.held (.wadd u))))) ∧
    (len = 0 ∨ 2 ^ 24 < len ∨ 2 ^ 52 < va + len → TrapsWith (.wadd a b) s { cause := 0x01 } 7)) ∧
  (∀ s : State,
    Issues .wclr s (s.onDbg fun d => { d with filter := 0, exact := [], ovf := false, skip := false, unscr := false }) ∧
    Issues .wresume s (s.onDbg fun d => { d with skip := true }))

/-! ### Events of a core (R57, R61, R62, R84, R101, R210, R216, R219, R300, R376 to R387) -/

namespace Sys2Proof.Claims

/-- Event `e` at core `c` answers the next state that is `t` with the current core current again. -/
def Does (e : Instr) (s t : State) : Prop := exec e s = .next (t.focus s.core.id)

/-- A trap between two bundles is taken: what a resumed task captured counts from now, and a CWAIT that the trap displaces is
cancelled (R313, R337). -/
def between (s : State) (t : TrapInfo) : State :=
  ((s.onCore Core.rejoin).cancelWait.takeTrap t 0).onSeq fun q => { q with moved := false, iwait := false, wadd := none }

/-- No boundary event is held off: no EXT stands before the next bundle, the target of a JTAB is known, and the task level runs
(R65, R87, R370). -/
def AtBoundary (c : Core) : Prop := c.seq.ext = none ∧ c.seq.targetOpen = false ∧ c.tr.mlvl = false

/-- No event that R366 takes before the n-th is pending: UE_CORE and the traps of commands and results, GANG_ABORT, CLOCK_SKEW,
pre-emption with a save slot free, STEP, a debug stop whose point is reached. -/
def Unforestalled (s : State) (n : Nat) : Prop :=
  let t := s.core.tr
  t.ue = false ∧ t.late = [] ∧ t.gang = none ∧ t.skew = none ∧ (5 ≤ n → t.pre = true → s.saveFree = false) ∧
  (6 ≤ n → t.step = false) ∧ (7 ≤ n → s.core.dbg.stop = false)

/-- `d` advanced by one word of its chunk, after an access of DATA (R387). -/
def nextWord (y : Core) : Core := { y with dbg := { y.dbg with dix := (y.dbg.dix + 1) % 32 } }

end Sys2Proof.Claims

/-- R57, R61, R62, R84, R300: a hold ends when its condition no longer stands; results land where they were due or when
they come; the spill engine moves the sixteen registers of a slot between the windows and the pool; a segment's copy makes
its half RESIDENT with the segment's bundles, or FAULTED with its cause, REASON and address. When each of these comes, and that
HOLD_RELEASE ends an attempt, is the model's choice (logs 2, 10, 45, 103). -/
def Obligations.LandingsAndMoves : Prop :=
  (∀ (c : Nat) (s : State) (h : Hold), (s.focus c).core.seq.last = .held h → (s.focus c).stands h = false →
    exec (.holdRelease c) s = .next ((s.focus c).ended .issued)) ∧
  (∀ s : State, s.stands .spill = s.core.seq.spill.isSome ∧
    (∀ r, s.stands (.emptyG r) = s.core.sc.empty.contains r) ∧
    (∀ f n, s.stands (.flag f n) = decide (Sparse.get 0 s.core.sy.flag f < n)) ∧
    (∀ b, s.stands (.barrierWait b) = s.core.sy.arr.contains b) ∧ s.stands .iwait = !s.core.tr.aip) ∧
  (∀ (c : Nat) (s : State), Does (.fixedResultLanding c) s ((s.focus c).onCore fun x => x.landDue)) ∧
  (∀ (c k : Nat) (s : State) (w : Waiting), (s.focus c).core.waiting[k]? = some w →
    (w.holes = [] → w.earliest ≤ (s.focus c).core.seq.cyc → Does (.variableResultLanding c k) s ((s.focus c).onCore fun x =>
      w.dst.foldl Core.land { x with waiting := x.waiting.eraseIdx k })) ∧
    (w.holes ≠ [] ∨ (s.focus c).core.seq.cyc < w.earliest → Does (.variableResultLanding c k) s (s.focus c))) ∧
  (∀ (c n m : Nat) (s : State),
    let x := (s.focus c).core
    (x.seq.spill = some (false, n, m) → ∃ y : Core, Does (.spillFill c) s ((s.focus c).onCore fun _ => y) ∧
      y = { x with seq := { x.seq with spill := none }, sc := { x.sc with low := n + 1 }, loc := { x.loc with pool := y.loc.pool } } ∧
      (∀ j < 16, w64 (leNat (Sparse.read 0 y.loc.pool (128 * n + 8 * j) 8)) = Sparse.get 0 x.sc.g (8 + 16 * (n % 15) + j)) ∧
      ∀ a, a < 128 * n ∨ 128 * n + 128 ≤ a → Sparse.get 0 y.loc.pool a = Sparse.get 0 x.loc.pool a) ∧
    (x.seq.spill = some (true, n, m) → ∃ y : Core, Does (.spillFill c) s ((s.focus c).onCore fun _ => y) ∧
      y = { x with seq := { x.seq with spill := none }, sc := { x.sc with low := n, g := y.sc.g } } ∧
      (∀ j < 16, Sparse.get 0 y.sc.g (8 + 16 * (n % 15) + j) = w64 (leNat (Sparse.read 0 x.loc.pool (128 * n + 8 * j) 8))) ∧
      ∀ r, r < 8 + 16 * (n % 15) ∨ 24 + 16 * (n % 15) ≤ r → Sparse.get 0 y.sc.g r = Sparse.get 0 x.sc.g r)) ∧
  (∀ (c h n : Nat) (s : State) (k : Kernel) (g : Segment), h < 2 → (s.focus c).core.loc.half h = .loading n →
    (s.focus c).myKernel = some k → k.segs[n]? = some g → s.fab.wanted = none →
    let who := Reader.segment c h
    (∀ bs, (reading (s.focus c) who).segmentImage k.ctx g = .ok bs → ∃ y : Store,
      Does (.segmentCopyComplete c h) s (((s.focus c).onLoc fun _ => y).forget who) ∧ y.half h = .resident n ∧
      y.half (1 - h) = (s.focus c).core.loc.half (1 - h) ∧
      ∀ j, Sparse.get 0 y.imem j = if 131072 * h ≤ j ∧ j < 131072 * h + bs.length then bs.getD (j - 131072 * h) 0
        else Sparse.get 0 (s.focus c).core.loc.imem j) ∧
    (∀ e, (reading (s.focus c) who).segmentImage k.ctx g = .error e → isLack e.cause = false → ∃ y : Store,
      Does (.segmentCopyComplete c h) s (((s.focus c).onLoc fun _ => y).forget who) ∧ y.half h = .faulted n e.cause e.reason e.va ∧
      y.imem = (s.focus c).core.loc.imem) ∧
    (∀ e, (reading (s.focus c) who).segmentImage k.ctx g = .error e → isLack e.cause = true →
      Does (.segmentCopyComplete c h) s ((s.focus c).ask who (lackVa e.va) (e.cause - 256) e.reason)))

/-- R101, R318, R376, R378, R380, R384, R387: the arrival interrupt saves the PC and the active loops and goes to AVEC, unless a
transfer, a held IWAIT or a higher event stands before it; STEP traps after a bundle; STOP and REQ ask for a stop, which is taken at
its point, or forced after 4096 cycles; RUN ends it; DATA reads and writes the selected register of a stopped core; HBIND and UE_CORE.
The order behind UE_CORE, that a boundary event takes no cycle, what becomes of a held CWAIT or WADD, and what stands for the shipped
monitor behind STEP are the model's choice (logs 46, 101, 102, 105, 125). -/
def Obligations.BoundaryAndDebugEvents : Prop :=
  ∀ (c : Nat) (s : State),
    let u := s.focus c
    let x := u.core
    (AtBoundary x → Unforestalled u 7 → x.dbg.stopped = false → x.tr.aie = true → x.tr.aip = true → x.tr.ain = false →
      x.tr.tlvl = false → x.seq.xfer = none → x.seq.iwait = false →
      Does (.arrivalInterrupt c) s { u.cancelWait with core := { u.cancelWait.core with
        tr := { x.tr with apc := BitVec.ofNat 32 x.seq.pc, ain := true, aip := false, asrc := x.tr.apend }
        lp := { x.lp with iact := x.lp.act, l0 := { x.lp.l0 with act := false }, l1 := { x.lp.l1 with act := false } }
        seq := { x.seq with pc := x.tr.avec.toNat, wadd := none } } }) ∧
    (x.tr.aie = false ∨ x.tr.aip = false ∨ x.tr.ain = true ∨ x.tr.tlvl = true ∨ x.tr.mlvl = true ∨ x.dbg.stopped = true ∨
        x.seq.xfer ≠ none ∨ x.seq.iwait = true ∨ x.seq.ext ≠ none ∨ x.tr.ue = true ∨ x.tr.late ≠ [] ∨ x.tr.gang ≠ none ∨
        x.tr.skew ≠ none ∨ x.tr.step = true →
      Does (.arrivalInterrupt c) s u) ∧
    (AtBoundary x → Unforestalled u 5 → x.tr.step = true → Does (.step c) s
      ((between (u.onTr fun t => { t with step := false }) { cause := 0x0A, slot := false }).onCore fun y =>
        { y with dbg := { (if y.dbg.stop then y.dbg else { y.dbg with stop := true, asked := y.seq.cyc, reason := 2 }) with
          skip := true } })) ∧
    (∀ k, x.task = some k →
      let due := 1 ≤ x.dbg.sper ∧ x.dbg.sper ≤ 12 ∧ k.born < (x.seq.cyc : Int) ∧
        ((x.seq.cyc : Int) - k.born) % 2 ^ (x.dbg.sper + 7) = 0 ∧ x.tr.mlvl = false ∧ x.dbg.sampled ≠ x.seq.cyc + 1
      (due → Does (.traceSample c) s (u.recordSample.onDbg fun d => { d with sampled := x.seq.cyc + 1 })) ∧
      (¬ due → Does (.traceSample c) s u)) ∧
    (AtBoundary x → Unforestalled u 6 → x.dbg.stop = true → (x.lp.pv = true → x.dbg.iterEnd = true) →
      (x.lp.pv = false → x.flight = [] ∧ x.seq.xfer = none) →
      Does (.debugStop c) s (((u.recordStop x.dbg.reason).onDbg fun d =>
        { d with stop := false, stopped := true, reason := 0 }).ended (.held .stopped))) ∧
    (AtBoundary x → Unforestalled u 6 → x.dbg.stop = true → x.dbg.asked + 4096 ≤ x.seq.cyc → ∃ t : State,
      Does (.debugStopForce c) s t ∧ t.core.dbg.stopped = true ∧ t.core.dbg.stop = false ∧
      t.core.dbg.frame = some x.rejoin.frame ∧ t.core.flight = x.rejoin.flight.filter fun l => !l.dst.captured) ∧
    Does (.stop c) s (u.onDbg fun d => if d.stop then d else { d with stop := true, asked := x.seq.cyc, reason := 2 }) ∧
    (x.task.isSome = true →
      Does (.req c) s (u.onDbg fun d => if d.stop then d else { d with stop := true, asked := x.seq.cyc, reason := 0 })) ∧
    (x.task = none → Does (.req c) s u) ∧
    (x.dbg.stopped = true → ∃ y : Core, Does (.run c) s (u.onCore fun _ => y) ∧ y.dbg.stopped = false ∧ y.seq.last = .issued ∧
      y.flight = (match x.dbg.frame with
        | some f => f.writes.map fun l => { l with due := (if x.seq.resumed then 0 else x.seq.cyc) + l.due }
        | none => []) ++ x.flight) ∧
    (x.dbg.stopped = false → Does (.run c) s u ∧ ∀ v, Does (.data c (some v)) s u) ∧
    (x.dbg.stopped = true →
      let num := x.dbg.sel.toNat % 2 ^ 12
      let space := x.dbg.sel.toNat / 2 ^ 62
      let at_ := 4096 * (num / 16) + 256 * (num % 16) + 8 * x.dbg.dix
      let reads (v : Nat) : Prop := Does (.data c none) s (({ u with host := { u.host with
        answers := (0, leBytes 8 v) :: u.host.answers } }).onCore nextWord)
      let writes (f : Word → Core → Core) : Prop := ∀ v, Does (.data c (some v)) s (u.onCore fun y => nextWord (f v y))
      (space = 0 → num < 248 → reads (Sparse.get 0 x.sc.g num).toNat ∧
        writes fun v y => { y with sc := { y.sc with g := Sparse.set 0 y.sc.g num v } }) ∧
      (space = 1 → reads ((u.readSr num).getD 0) ∧ writes fun v y => y.writeSr num v.toNat) ∧
      (space = 2 → num / 16 < 160 → x.dbg.dix < 32 → reads (leNat (Sparse.read 0 x.vec.v at_ 8)) ∧
        writes fun v y => { y with vec := { y.vec with v := Sparse.write 0 y.vec.v at_ (leBytes 8 v.toNat) } }) ∧
      (space = 3 ∨ (space = 0 ∧ 248 ≤ num) ∨ (space = 2 ∧ 160 ≤ num / 16) → reads 0 ∧ writes fun _ y => y)) ∧
    (∀ n k v, n < 16 → k < 2 → ∃ t : State, Does (.hbind c n k v) s t ∧ t = { u with core := { x with st := t.core.st } } ∧
      (t.core.handle n).tr = none ∧ (t.core.handle n).rev = false ∧ (t.core.handle n).gv = false ∧ (∀ m, m ≠ n → t.core.handle m = x.handle m) ∧
      (k = 0 → (t.core.handle n).w0.toNat = (if v.toNat / 2 ^ 62 = 3 then (x.handle n).w0.toNat / 2 ^ 62 else v.toNat / 2 ^ 62) *
        2 ^ 62 + v.toNat / 2 ^ 60 % 4 * 2 ^ 60 + v.toNat % 2 ^ 52 ∧ (t.core.handle n).w1 = (x.handle n).w1) ∧
      (k = 1 → (t.core.handle n).w1.toNat = v.toNat % 2 ^ 53 ∧ (t.core.handle n).w0 = (x.handle n).w0)) ∧
    (∃ t : State, exec (.ueCore c) s = .next t ∧ (c < 256 → t.crook.retired.getLsbD c = true) ∧
      (∀ d < 256, d ≠ c → t.crook.retired.getLsbD d = s.crook.retired.getLsbD d))

/-- R210, R216, R219, R224, R363: a completed walk is cached with its lease for core and die; a walk that is abandoned is counted
with its operation, which faults with reason 1 after the fourth; a lease that has expired is dropped from the die's TLB and its
cores'; an access that the host does not answer faults PROT with reason 3. That the host's failure is told of one access at a time, that a
re-walk starts at once, and which translation is dropped first are the model's choice (logs 11, 12, 69, 103). -/
def Obligations.TranslationEvents : Prop :=
  (∀ (c va : Nat) (s : State) (e level : Nat), va < 2 ^ 52 →
    (s.focus c).walkTimed (s.focus c).core.ctx va = .leaf e level →
    Does (.pageWalk c va) s ((s.focus c).cacheXlation
      ((s.focus c).filled (dieOf (s.focus c).core.id) (s.focus c).core.ctx va e level) true)) ∧
  (∀ (c va : Nat) (s : State), 2 ^ 52 ≤ va → Does (.pageWalk c va) s (s.focus c)) ∧
  (∀ (c : Nat) (s : State),
    let first := s.fab.asks.find? fun a => decide (a.who.core? = some c) && a.va.isSome && a.answer.isNone
    (∀ a va, first = some a → a.va = some va → ∃ t : State, exec (.walkTimeout c) s = .next t ∧
      t = { s with fab := { s.fab with asks := t.fab.asks, tries := t.fab.tries } } ∧
      (∀ b, b ∈ t.fab.asks ↔ b ∈ s.fab.asks ∧ ¬ (b.who = a.who ∧ b.va = some va)) ∧
      t.triesOf a.who va = s.triesOf a.who va + 1) ∧
    (first = none → exec (.walkTimeout c) s = .next s)) ∧
  (∀ (s : State) (ctx va : Nat) (u : Use) (own : Bool), va < 2 ^ 52 → s.lookup ctx va = none → 4 ≤ s.triesOf s.me va →
    s.translate ctx va u own = .trap { cause := 0x10, info := 2 ^ 28, addr := va } s) ∧
  (∀ (d : Nat) (s : State), ∃ t : State, exec (.leaseExpiry d) s = .next t ∧ t.mem = s.mem ∧ t.fab = s.fab ∧ t.fe = s.fe ∧
    (∀ x, x ∈ (t.die d).tlb ↔ x ∈ (s.die d).tlb ∧ (s.die d).dtb < x.exp) ∧
    (dieOf s.core.id = d → ∀ x, (x ∈ t.core.loc.tlb ↔ x ∈ s.core.loc.tlb ∧ (s.die d).dtb < x.exp) ∧
      (x ∈ t.core.loc.victims ↔ x ∈ s.core.loc.victims ∧ (s.die d).dtb < x.exp)) ∧
    (dieOf s.core.id ≠ d → t.core = s.core)) ∧
  (∀ (c k r : Nat) (s : State) (w : Waiting) (v : Word) (em : Bool), (s.focus c).core.waiting[k]? = some w →
    (w.host = false → Does (.completionTimeout c (.result k)) s (s.focus c)) ∧
    (w.host = true → w.dst = [.g r v em] →
      let x := (s.focus c).core
      let t : State := { s.focus c with core := { x with
        sc := { x.sc with empty := dropNat r x.sc.empty }, waiting := x.waiting.eraseIdx k } }
      (x.seq.ext = none → x.seq.targetOpen = false →
        Does (.completionTimeout c (.result k)) s (between t { cause := 0x11, info := 3 * 2 ^ 28 })) ∧
      (¬ (x.seq.ext = none ∧ x.seq.targetOpen = false) → Does (.completionTimeout c (.result k)) s
        (t.onTr fun y => { y with late := y.late ++ [(0x11, 3 * 2 ^ 28, 0, 0)] })))) ∧
  (∀ (c : Nat) (y : HostAccess) (who : Reader) (s : State),
    hostReader c y = some who → exec (.completionTimeout c y) s = .next { s with host := { s.host with failed := who :: s.host.failed } }) ∧
  (∀ (s : State) (pa n : Nat), s.remote pa = false → paSpace pa = 1 → s.me ∈ s.host.failed →
    s.fetched pa n = .error ⟨0x11, 3, 0⟩)

/-! ### Events of the engines (R54, R149 to R158, R171, R176, R186, R241, R242, R246) -/

/-- R44, R45, R158, R162, R164, R167, R170, R171, R174, R176, R190: a step that needs no byte of another package is what its meaning
says, faults with the bytes done before it, or asks for the bytes that it lacks and keeps the pages it has found, no more (log 103); a
product step adds, at each element of its Z tile, or of its pair in FP64, the products of a row and a column in ascending order to
what the element held, and counts them in ZK; the step of a byte copy
within the pool moves the bytes and nothing else, and leaves open the destination bytes that are source bytes too; a Z tile
that is left open takes free values (log 8). -/
def Obligations.EngineSteps : Prop :=
  (∀ (g : Engines) (tag : ZTag) (z : Nat) (rows cols : List (List Machine.Num)) (lock bkk bcc : Nat),
    tag = .fp32 ∨ tag = .int32 → rows.length = 64 → cols.length = 64 →
    let h := g.product tag z rows cols lock bkk bcc
    (∀ i j r c, i < 64 → j < 64 → rows[i]? = some r → cols[j]? = some c →
      let old := Sparse.get 0 g.z (4096 * z + 64 * i + j)
      Sparse.get 0 h.z (4096 * z + 64 * i + j) = if tag = .fp32 then mac fp32 old r c else macInt old r c) ∧
    (∀ k, k < 4096 * z ∨ 4096 * z + 4096 ≤ k → Sparse.get 0 h.z k = Sparse.get 0 g.z k) ∧
    (h.ztile z).tag = tag ∧ (∀ r, rows.head? = some r → (h.ztile z).zk = min ((g.ztile z).zk + r.length) (2 ^ 32 - 1)) ∧
    ∀ k, k ≠ z → h.ztile k = g.ztile k) ∧
  (∀ (g : Engines) (z : Nat) (rows cols : List (List Machine.Num)) (lock bkk bcc : Nat), rows.length = 64 → cols.length = 64 →
    let h := g.product .fp64Low z rows cols lock bkk bcc
    let low (i j : Nat) : Nat := 4096 * z + 64 * i + j
    (∀ i j r c, i < 64 → j < 64 → rows[i]? = some r → cols[j]? = some c →
      let new := mac fp64 (Sparse.get 0 g.z (low i j) + 2 ^ 32 * Sparse.get 0 g.z (4096 + low i j)) r c
      Sparse.get 0 h.z (low i j) = new % 2 ^ 32 ∧ Sparse.get 0 h.z (4096 + low i j) = new / 2 ^ 32) ∧
    (∀ k, k < 4096 * z ∨ 4096 * z + 8192 ≤ k → Sparse.get 0 h.z k = Sparse.get 0 g.z k) ∧
    (h.ztile z).tag = .fp64Low ∧ (h.ztile (z + 1)).tag = .fp64High ∧
    (∀ r, rows.head? = some r → (h.ztile z).zk = min ((g.ztile z).zk + r.length) (2 ^ 32 - 1)) ∧
    ∀ k, k ≠ z → k ≠ z + 1 → h.ztile k = g.ztile k) ∧
  (∀ (f : Fmt) (x : Nat) (r c : List Machine.Num), mac f x [] c = x ∧ mac f x r [] = x ∧ ∀ p q,
    mac f x (p :: r) (q :: c) = mac f (((f.decode x).add (p.mul q).1).1.rne f).1 r c) ∧
  (∀ (c : Nat) (s : State) (k : Nat) (x : Cmd), (s.focus c).core.eng.activeProduct = some (k, x) →
    ((s.focus c).cluster (clusterOf (s.focus c).core.id)).holder = some (s.focus c).core.id → x.weighted = false →
    let u := s.focus c
    let who := Reader.command u.core.id x.tok
    let start := ({ x with prev := x.pages, pages := [] }, reading u who)
    (∀ y v, engProductStep.run start = .ok () (y, v) → v.fab.wanted = none → y.wild = [] → y.dst = [] → y.crs = none →
      Does (.productStep c) s ((back u v who).onEng fun g => g.setCmd 0 k (Cmd.stepped x.steps { y with prev := [] }))) ∧
    (∀ f y v, engProductStep.run start = .error f (y, v) → v.fab.wanted = none →
      (isLack f.cause = false →
        Does (.productStep c) s ((back u v who).cmdFaulted 0 k { y with prev := [], bytes := x.bytes } f)) ∧
      (isLack f.cause = true →
        Does (.productStep c) s (match u.askOnce who (lackVa f.va) (f.cause - 256) f.reason with
          | some t => t.onEng fun g => g.setCmd 0 k { x with pages := y.pages ++ x.pages.filter fun p => !y.pages.contains p }
          | none => u)))) ∧
  (∀ (c : Nat) (s : State), (s.focus c).core.eng.activeProduct = none → Does (.productStep c) s (s.focus c)) ∧
  (∀ (s : State) (z j : Nat), j < 4096 →
    Sparse.get 0 (s.leaveZ z).core.eng.z (4096 * z + j) = (Config.freeValue (s.free + j)).toNat % 2 ^ 32) ∧
  (∀ (c e k : Nat) (s : State) (x : Cmd) (p q n : Nat) (e' : BitVec 1) (t a b : BitVec 6) (tc : BitVec 2) (rf : BitVec 1), e < 2 →
    (s.focus c).core.eng.mayStep e k = some x → x.instr = .cpy e' t a b tc rf → x.a.pool = true → x.b.pool = true → x.step = 0 →
    x.wild = [] → x.src = [] → x.dst = [] → x.crs = none → s.fab.wanted = none →
    (x.xr 4).toNat = n → 0 < n → n ≤ 4096 → (x.a.base : Int) + (x.xr 2).toInt = p → (x.b.base : Int) + (x.xr 3).toInt = q →
    p < 2 ^ 63 → q < 2 ^ 63 → ∃ u : State, Does (.copyStepBoundary c e k) s u ∧
      u = { (s.focus c).forget (.command (s.focus c).core.id x.tok) with
        free := u.free
        core := { (s.focus c).core with
          eng := u.core.eng, loc := { (s.focus c).core.loc with pool := u.core.loc.pool }
          waiting := (s.focus c).core.waiting.map fun w =>
            if ∃ b ∈ w.banks, b < (s.focus c).core.st.b2 then { w with latest := none } else w } } ∧
      (∀ j, ¬ (p ≤ j ∧ j < p + n ∧ q ≤ j ∧ j < q + n) → Sparse.get 0 u.core.loc.pool j = if q ≤ j ∧ j < q + n then Sparse.get 0 (s.focus c).core.loc.pool (p + (j - q))
        else Sparse.get 0 (s.focus c).core.loc.pool j) ∧
      ∃ y : Cmd, (u.core.eng.queue (e + 1))[k]? = some y ∧ y.finished = true ∧ y.fault = x.fault ∧ y.bytes = x.bytes + n)

/-- R149, R151 to R153, R157, R158, R185, R242: the first waiting command of a queue starts once its consumed tokens have
retired and what it follows is performed, faulted where one of them retired faulted; on a FAILED array an M command faults UE_CORE; MLEASE asks for the array, MFREE gives it up; a complete command's
token retires with its fault; the free array goes to the requester of the highest priority. When a command starts, that it waits
only for the generation it named and for its core's own stores, that a later MLEASE replaces the priority of a pending request and that
MZERO acts as a whole is the model's choice (logs 2, 25, 28, 114, 115). -/
def Obligations.CommandsAndLeases : Prop :=
  (∀ (c q k : Nat) (s : State) (x : Cmd), q < 3 → (s.focus c).core.eng.head q = some (k, x) →
    let u := s.focus c
    (u.core.blocked x = true ∨ u.core.follows x = true → Does (.commandStart c q) s u) ∧
    (u.core.blocked x = false → u.core.follows x = false →
      (∀ f, x.fault = some f → x.crs = none → Does (.commandStart c q) s
        (u.onEng fun g => g.setCmd q k { x with started := true, finished := true })) ∧
      (x.fault = none → q = 0 → (u.cluster (u.core.id / 4)).failed = true → x.crs = none → Does (.commandStart c q) s
        (u.onEng fun g => g.setCmd 0 k { x with started := true, finished := true, fault := some ⟨0x30, 0, 0⟩ })) ∧
      (x.fault = none → q = 0 → (u.cluster (u.core.id / 4)).failed = false →
        (∀ t, x.instr = .mlease t →
          ((u.cluster (u.core.id / 4)).holder ≠ some u.core.id → Does (.commandStart c q) s (u.onEng fun g =>
            { g.setCmd 0 k { x with started := true } with asked := true, prio := ((x.reg 1).toNat / 2 ^ 8 % 4), cap := if (x.reg 1).toNat % 2 ^ 7 = 0 then 16 else (x.reg 1).toNat % 2 ^ 7 })) ∧
          ((u.cluster (u.core.id / 4)).holder = some u.core.id → Does (.commandStart c q) s (u.onEng fun g =>
            g.setCmd 0 k { x with started := true, finished := true, zsave := [], ztsave := [], held := false }))) ∧
        (∀ t, x.instr = .mfree t → (∀ y ∈ u.core.eng.qm.take k, y.finished = true ∧ y.tags = []) → ∃ v : State,
          Does (.commandStart c q) s v ∧ v.core.eng.asked = false ∧
          ((u.cluster (u.core.id / 4)).holder = some u.core.id → (v.cluster (u.core.id / 4)).holder = none) ∧
          v.core.eng.qm = setAt u.core.eng.qm k
            { x with started := true, finished := true, zsave := [], ztsave := [], held := false }) ∧
        (∀ t z, x.instr = .mzero t z → x.wild = [] → x.dst = [] → x.crs = none → s.fab.wanted = none → u.arrayReady = true → ∃ v : State, Does (.commandStart c q) s v ∧
          (∀ j, Sparse.get 0 v.core.eng.z j = if 4096 * z.toNat ≤ j ∧ j < 4096 * z.toNat + 4096 then 0
            else Sparse.get 0 u.core.eng.z j) ∧ v.core.eng.ztile z.toNat = {} ∧
          (∀ j, j ≠ z.toNat → v.core.eng.ztile j = u.core.eng.ztile j) ∧ v.mem = u.mem)))) ∧
  (∀ (c q : Nat) (s : State), (s.focus c).core.eng.head q = none → Does (.commandStart c q) s (s.focus c)) ∧
  (∀ (c t : Nat) (s : State) (x : Cmd),
    let u := s.focus c
    let g := u.core.eng
    (g.qm ++ g.q0 ++ g.q1 ++ g.qv).find? (fun y => y.tok == t && y.finished && y.tags.isEmpty) = some x →
    x.product = false → (∀ y ∈ g.q0 ++ g.q1, y.tok ≠ t) → (∀ k, u.core.task = some k → k.ending = none) →
    let w := u.cacheYields x.wrote
    ∃ v : State, Does (.tokenRetire c t) s v ∧ v = { w with core := { w.core with eng := v.core.eng } } ∧
      v.core.token t = { gen := (u.core.token t).gen, out := false, flt := x.fault } ∧
      (∀ j, j ≠ t → v.core.token j = u.core.token j) ∧ v.core.eng.z = g.z ∧
      v.core.eng.qm.length = (g.qm.filter fun y => y.tok != t).length ∧
      ∀ (i : Nat) (y z : Cmd), (g.qm.filter fun y => y.tok != t)[i]? = some y → v.core.eng.qm[i]? = some z →
        (y.started = true ∨ (t, (u.core.token t).gen) ∉ y.uses → z = y) ∧
        (y.started = false → (t, (u.core.token t).gen) ∈ y.uses →
          z = { y with uses := z.uses, fault := if y.fault = none then x.fault else y.fault } ∧
          z.uses = y.uses.filter fun v => decide (v ≠ (t, (u.core.token t).gen)))) ∧
  (∀ (k : Nat) (s : State), (s.cluster k).holder = none →
    ((∀ c, c / 4 = k → (s.coreAt c).eng.asked = false) → exec (.leaseGrant k) s = .next s) ∧
    (∀ c, c / 4 = k → (s.coreAt c).eng.asked = true → (∀ d, d / 4 = k → (s.coreAt d).eng.prio < 4) →
      ∃ (t : State) (d : Nat), exec (.leaseGrant k) s = .next t ∧ (t.cluster k).holder = some d ∧ d / 4 = k ∧
        (s.coreAt d).eng.asked = true ∧ (t.cluster k).lastHolder = d % 4 ∧
        ∀ b, b / 4 = k → (s.coreAt b).eng.asked = true → (s.coreAt b).eng.prio ≤ (s.coreAt d).eng.prio))

/-- R241, R242, R246: the repair of an array takes a row or a column out of service while spares are left, and fails the
array without one; the fault history forgets what is 2^36 ns old; a soft error changes one bit. -/
def Obligations.ArrayFaults : Prop :=
  (∀ (k : Nat) (s : State) (l : Loc), (s.cluster k).repair = some l →
    (∀ c, c / 4 = k → ∀ x ∈ (s.coreAt c).eng.qm, ¬ (x.onArray = true ∧ x.running = true)) →
    ∃ t : State, exec (.arrayRepair k) s = .next t ∧ (t.cluster k).repair = none ∧ t.mem = s.mem ∧
      (∀ i, l = .row i → i ∉ (s.cluster k).rows →
        ((s.cluster k).rows.length < 8 → (t.cluster k).rows = (s.cluster k).rows ++ [i] ∧ (t.cluster k).failed = (s.cluster k).failed) ∧
        (8 ≤ (s.cluster k).rows.length → (t.cluster k).rows = (s.cluster k).rows ∧ (t.cluster k).failed = true)) ∧
      (∀ j, l = .column j → j ∉ (s.cluster k).cols →
        ((s.cluster k).cols.length < 4 → (t.cluster k).cols = (s.cluster k).cols ++ [j] ∧ (t.cluster k).failed = (s.cluster k).failed) ∧
        (4 ≤ (s.cluster k).cols.length → (t.cluster k).cols = (s.cluster k).cols ∧ (t.cluster k).failed = true))) ∧
  (∀ (k : Nat) (s : State), (s.cluster k).repair = none → exec (.arrayRepair k) s = .next s) ∧
  (∀ (k : Nat) (s : State), ∃ t : State, exec (.faultHistoryExpiry k) s = .next t ∧ t = { s with clusters := t.clusters } ∧
    ∀ h, h ∈ (t.cluster k).hist ↔ h ∈ (s.cluster k).hist ∧ (s.die (k / 8)).dtb < h.2 + 2 ^ 36) ∧
  (∀ (a b : Nat) (s : State), b < 8 → ∃ t : State, exec (.softError none a b) s = .next t ∧ t = { s with mem := t.mem } ∧
    ∀ k, Memory.byte t.mem k = if k = a then Memory.byte s.mem a ^^^ BitVec.twoPow 8 b else Memory.byte s.mem k) ∧
  (∀ (c a b : Nat) (s : State), a < 65536 → b < 32 →
    Does (.softError (some c) a b) s ((s.focus c).onEng fun g =>
      { g with z := Sparse.set 0 g.z a ((Sparse.get 0 g.z a) ^^^ 2 ^ b) }))

/-! ### Events of tasks and of what they share (R208, R231, R296 to R298, R307 to R319, R325, R330 to R336) -/

namespace Sys2Proof.Claims

/-- The state in which an EXIT that has issued leaves its task: ENDING, the results in flight dropped (R319). -/
def ending (s : State) (status : Nat) : State := s.onCore fun c => { c with
  flight := [], seq := { c.seq with moved := true }, task := c.task.map fun t => { t with ending := some status } }

end Sys2Proof.Claims

/-- R296, R319, R321: EXIT waits for the task's tokens, writes back, and ends the task, unless the task is to be aborted with its
gang; dispatch gives a task its entry address,
its argument, index and task count in G1 to G3, its group numbers, the handles and the identifiers of its record, its stochastic
states, and everything else cleared: predicates, windows, FFLAGS, staging registers, AG, VMODE, loops, traps, tokens and Z tiles,
flags and counters. That the staging registers are 0, and that CYC keeps counting, is the model's choice (logs 55, 109). -/
def Obligations.DispatchAndExit : Prop :=
  (∀ (i : BitVec 16) (s : State) (t : Task) (k : Kernel), s.core.eng.busy = false → s.core.faultedToken = none →
    s.core.vec.bad = [] → s.core.task = some t → s.myKernel = some k →
    let u := ending s i.toNat
    let e : Task := { t with ending := some i.toNat }
    (s.core.tr.gang = none →
      (Released u → Issues (.exit i) s (u.writeBackAll.endTask e i.toNat)) ∧
      (¬ Released u → Issues (.exit i) s u.writeBackAll)) ∧
    (s.core.tr.gang ≠ none → Issues (.exit i) s u)) ∧
  (∀ (i : BitVec 16) (s : State), s.core.eng.busy = true → exec (.exit i) s = .next (s.ended (.held .exit))) ∧
  (∀ (s : State) (t : Task) (n : Nat) (k : Kernel), s.kernel t.kern = some k →
    let u := s.endTask t n
    u.core.task = none ∧ u.core.flight = [] ∧ u.core.waiting = [] ∧ u.others = s.others ∧
    u.core.eng = { z := s.core.eng.z, zt := s.core.eng.zt, tok := s.core.eng.tok } ∧
    u.kernel t.kern = some (k.taskEnded t.idx) ∧ (∀ j, j ∈ (k.taskEnded t.idx).ended ↔ j = t.idx ∨ j ∈ k.ended)) ∧
  (∀ s : State, (s.nextDispatch = none → exec .taskDispatch s = .next s) ∧
    (∀ k ps, s.nextDispatch = some (k, ps) → exec .taskDispatch s = .next (s.dispatchAt k ps))) ∧
  (∀ (s : State) (k : Kernel) (i runs cause c : Nat),
    let d := s.dispatched k i runs cause c
    (∃ t : Task, d.task = some t ∧ t.kern = k.id ∧ t.idx = i ∧ t.ctx = k.ctx ∧ t.ending = none) ∧ d.id = c ∧
    (∀ r, Sparse.get 0 d.sc.g r = if r = 1 then k.arg else if r = 2 then w64 i else if r = 3 then w64 k.tasks else 0) ∧
    (∀ n < 8, Sparse.get 0 d.st.gid n = k.gid n i) ∧
    (∀ n < 16, Sparse.get {} d.st.h n = { w0 := k.handles.getD (2 * n) 0, w1 := k.handles.getD (2 * n + 1) 0 }) ∧
    d.st.tit = k.tits.foldl (fun l t => Sparse.write 0 l (5 * t.1) t.2) [] ∧
    d.vec.vrs0 = (let x := k.seed ^^^ (i * 0x9E3779B1 % 2 ^ 32); if x = 0 then 1 else x) ∧
    d.seq = { pc := k.entry, cyc := (s.coreAt c).seq.cyc, lastCyc := (s.coreAt c).seq.cyc } ∧ d.sc = { g := d.sc.g } ∧
    d.st = { tit := d.st.tit, h := d.st.h, gid := d.st.gid, b1 := k.b1, b2 := k.b2, b3 := k.b3 } ∧
    d.vec = { vrs0 := d.vec.vrs0, vrs1 := d.vec.vrs0, crs0 := d.vec.vrs0, crs1 := d.vec.vrs0 } ∧
    d.lp = {} ∧ d.tr = {} ∧ d.eng = {} ∧ d.sy = {} ∧ d.flight = [] ∧ d.waiting = [] ∧ d.dbg = (s.coreAt c).dbg.own ∧
    (d.sc.fflags = 0 ∧ d.sc.p = 0 ∧ d.sc.depth = 0 ∧ d.sc.empty = [] ∧ d.st.x = [] ∧ d.st.ag = [] ∧ d.vec.v = [] ∧
      d.vec.e0.vl = 0 ∧ d.vec.e0.type = 0 ∧ d.vec.e0.rm = 0 ∧ d.vec.e0.sat = false ∧ d.vec.e0.fl = 0 ∧ d.vec.e1 = d.vec.e0) ∧
    ((s.coreAt c).loc.poolCtx ≠ k.ctx → d.loc.pool = []) ∧ d.loc.lines = [])

/-- R231, R309 to R318, R325: a task that is to be pre-empted is saved with its registers, its results in flight as offsets, and
resumes with them once no slot of higher PRIO can place a task; an aborted task is run again by the rules of R317, or fails its kernel; a page that has come lets its tasks run. -/
def Obligations.PreemptionAndAbort : Prop :=
  (∀ (c : Nat) (s : State),
    let u := s.focus c
    let v := (u.onCore Core.rejoin).drained
    (u.core.tr.pre = false → Does (.preemption c) s u) ∧
    (u.core.tr.pre = true → ¬ Unforestalled u 4 → Does (.preemption c) s u) ∧
    (u.core.tr.pre = true → Unforestalled u 4 →
      (u.core.task = none → Does (.preemption c) s (u.onTr fun x => { x with pre := false })) ∧
      (∀ t, u.core.task = some t → (¬ AtBoundary u.core ∨ t.ending.isSome = true ∨ u.saveFree = false) →
        Does (.preemption c) s u) ∧
      (∀ t, u.core.task = some t → AtBoundary u.core → t.ending = none → u.saveFree = true →
        (v.core.quiet = true → Does (.preemption c) s (v.saveTask t)) ∧
        (v.core.quiet = false →
          Does (.preemption c) s ((v.onTr fun x => { x with pre := true }).ended (.held .release)))))) ∧
  (∀ (s : State) (t : Task),
    let u := s.saveTask t
    u.core.task = none ∧ u.core.sy.caught = some s.fe.nextSaved ∧
    u.fe.saved = s.fe.saved ++ [{ key := s.fe.nextSaved, core := s.core.saved, sinceDtb := s.dtb }]) ∧
  (∀ c : Core, (∀ x ∈ c.flight, x.dst.captured = true) → c.saved.sc = c.sc ∧ c.saved.lp = c.lp ∧ c.saved.sy = c.sy ∧
    c.saved.seq.pc = c.seq.pc ∧ c.saved.seq.xfer = c.seq.xfer ∧ c.saved.vec.v = c.vec.v ∧ c.saved.st.tit = c.st.tit ∧
    c.saved.flight = c.flight.map (fun x => { x with due := x.due - c.seq.lastCyc }) ∧ c.saved.loc.lines = []) ∧
  (∀ (k : Nat) (s : State),
    (s.fe.saved.find? (fun v => v.key == k) = none → exec (.resumption k) s = .next s) ∧
    (∀ v t x, s.fe.saved.find? (fun v => v.key == k) = some v → v.core.task = some t → s.kernel t.kern = some x →
      (s.outranked x = true → exec (.resumption k) s = .next s) ∧
      (s.outranked x = false → ∀ vs, (s.resumable x).find? (fun vs => vs.any fun w => w.key == k) = some vs →
        (s.resumePlaces x vs = none → exec (.resumption k) s = .next s) ∧
        (∀ ps, s.resumePlaces x vs = some ps → (x.needsTags ps).length + s.fe.tags.length ≤ 8 → ∃ u : State,
          u = ps.foldl (fun s p => s.restore x vs p) (s.takeTags x ps) ∧
          exec (.resumption k) s = .next { u with fe := { u.fe with waits := Sparse.set 0 u.fe.waits x.slot 0 } })))) ∧
  (∀ (s : State) (v : Saved) (c : Nat),
    let d := s.restored v c
    d.id = c ∧ d.sc = v.core.sc ∧ d.lp = v.core.lp ∧ d.tr = v.core.tr ∧ d.st = v.core.st ∧ d.eng = v.core.eng ∧ d.sy = v.core.sy ∧
    d.seq.pc = v.core.seq.pc ∧ d.seq.xfer = v.core.seq.xfer ∧ d.vec.v = v.core.vec.v ∧
    d.flight = v.core.flight ∧ d.seq.resumed = true) ∧
  (∀ c : Core, (c.seq.resumed = false → c.rejoin = c) ∧
    (c.seq.resumed = true → c.rejoin.flight = c.flight.map (fun x => { x with due := c.seq.cyc + x.due - 1 }) ∧
      c.rejoin.vec.e0 = { c.vec.e0 with busy := c.seq.cyc + c.vec.e0.busy } ∧
      c.rejoin.vec.e1 = { c.vec.e1 with busy := c.seq.cyc + c.vec.e1.busy } ∧ c.rejoin.seq.resumed = false ∧ c.rejoin.sc = c.sc)) ∧
  (∀ (c cause : Nat) (s : State) (t : Task) (k : Kernel), (s.focus c).core.task = some t → t.gang = none →
    (s.focus c).kernel t.kern = some k → cause < 2 ^ 8 →
    ∃ v : State, Does (.taskAbort c cause) s v ∧ v.core.task = none ∧
      (k.idem = true → cause = 0x20 → t.runsWith cause < 3 → k.state = .dispatching ∨ k.state = .running → ∃ x, v.kernel k.id = some x ∧ x.state = .dispatching ∧
        (t.idx, t.runsWith cause, cause) ∈ x.again ∧ t.idx ∉ x.ended ∧ x.fails = k.fails) ∧
      (k.idem = false ∨ (cause = 0x20 ∧ 3 ≤ t.runsWith cause) → k.state = .running → ∃ x, v.kernel k.id = some x ∧
        x.state = .failing ∧ x.fails = k.fails ++ [(t.idx, cause)] ∧ x.again = []) ∧
      (k.state ≠ .dispatching → k.state ≠ .running → ∃ x, v.kernel k.id = some x ∧ x.state = k.state ∧
        x.fails = k.fails ++ [(t.idx, cause)])) ∧
  (∀ (p : Nat) (s : State), s.starved p = false →
    exec (.priorityPreemption p) s = .next { s with fe := { s.fe with waits := Sparse.set 0 s.fe.waits p 0 } }) ∧
  (∀ (p : Nat) (s : State) (x : Nat × Nat), s.starved p = true → Sparse.get 0 s.fe.waits p ≠ 0 →
    Sparse.get 0 s.fe.waits p + 100000 ≤ s.dtb + 1 → s.saveFree = true → eldest (s.displaceable p) = some x →
    ∃ t : State, exec (.priorityPreemption p) s = .next t ∧ t.mem = s.mem ∧ (∀ y, (s.coreAt x.2).task = some y → x.2 = s.core.id →
      t.core.tr.pre = true)) ∧
  (∀ (ctx va : Nat) (s : State), exec (.pageResidentReport ctx va) s = .next
      { s with fe := { s.fe with kernels := s.fe.kernels.map fun k => if k.ctx == ctx then k.unblock va else k } } ∧
    ∀ (k : Kernel) (b : Nat × Nat × Nat × Nat), b ∈ (k.unblock va).blocked ↔ b ∈ k.blocked ∧ b.2.1 / 65536 ≠ va / 65536)

/-- R190, R206, R297, R298, R303, R307, R308: a kernel whose tasks are all over, with everything that they have sent performed,
writes its status record, cleans the caches and ends, once the messages of its record are acknowledged; one that is checked with
other packages starts, or is rejected, when all have answered; a cancelled one is forgotten when it holds no region instance; a
part of another package's kernel is taken up, and reported when it is over. The messages between packages, when a kernel's end comes,
that what it reads is asked for again (logs 1, 2, 58, 103), and that a record that cannot be written is skipped (log 57), are the
model's choice. -/
def Obligations.KernelEvents : Prop :=
  (∀ (n : Nat) (s : State) (k : Kernel), s.kernel n = some k →
    let parts := k.parts.all fun p => p.2
    let does (f : State → State) : Prop := exec (.kernelComplete n) s = .next (acted s (.kernel k.id) f)
    (k.state = .completing → (s.slot k.slot).state ≠ .held → (s.slot k.slot).telling = false → k.tags = [] → does fun s => s.finishKernel k) ∧
    (k.state = .completing → (s.slot k.slot).state = .held ∨ (s.slot k.slot).telling = true ∨ k.tags ≠ [] → exec (.kernelComplete n) s = .next s) ∧
    (k.state = .checking → parts = true →
      (k.fails = [] → does fun s => s.partsStart k) ∧ (k.fails ≠ [] → does fun s => s.rejectKernel k)) ∧
    (k.state = .cancelled → parts = true → (∀ r ∈ s.fab.regions, r.armedBy k.id = false) → s.unperformed k.id = false →
        k.tags = [] →
      (k.home = s.fab.pkg → does fun s => s.dropKernelRecord k.id) ∧ (k.home ≠ s.fab.pkg → does fun s => s.reportPart k)) ∧
    (k.state = .checking ∨ k.state = .cancelled → parts = false → exec (.kernelComplete n) s = .next s) ∧
    (k.state = .cancelled → (∃ r ∈ s.fab.regions, r.armedBy k.id = true) ∨ s.unperformed k.id = true ∨ k.tags ≠ [] →
      exec (.kernelComplete n) s = .next s) ∧
    (k.state = .dispatching ∨ k.state = .running ∨ k.state = .failing →
      (s.tasksOver k = true →
        (k.home = s.fab.pkg → does fun s => s.concludeKernel k) ∧ (k.home ≠ s.fab.pkg → does fun s => s.cleanAll.reportPart k)) ∧
      (s.tasksOver k = false → exec (.kernelComplete n) s = .next s))) ∧
  (∀ (s : State) (k x : Kernel),
    let u := ((s.onKernel k.id fun x => { x with state := .completing }).writeStatus k).cleanAll
    u.kernel k.id = some x → (x.tags = [] → s.concludeKernel k = u.finishKernel x) ∧ (x.tags ≠ [] → s.concludeKernel k = u)) ∧
  (∀ (s : State) (k : Kernel), k.next = 0 → (s.slot k.slot).packets = [] →
    ∃ t : State, s.finishKernel k = t ∧ (∀ x ∈ t.fe.kernels, x.id ≠ k.id) ∧ t.mem = s.mem) ∧
  (∀ (kern g rec ctx src : Nat) (args : List Word) (s : State), s.fab.wanted = none →
    let i := Instr.launchHandOff kern g rec ctx src args
    let arg := args.headD 0
    let words := args.drop 1
    let n := 2 ^ 40 + 2 ^ 32 * src + kern
    let t := s.forget (.event i)
    let answer (fs : List (Nat × Nat)) : State := { t with fab := { t.fab with
      out := t.fab.out ++ [{ cls := 3, dst := src, msg := .packagePartComplete kern s.fab.pkg fs, die := 0 }] } }
    (rec ≠ 0 → words = [] → exec i s = .next (answer (if (s.ctxOf ctx).state = .live then [] else [(0, 0x11)]))) ∧
    (rec ≠ 0 → words ≠ [] →
      (∀ k, s.kernelOf 64 0 ctx rec arg (words.map BitVec.toNat) = .ok k →
        exec i s = .next (acted s (.event i) fun s => s.addKernel { k.part g with id := n, home := src })) ∧
      (∀ e, s.kernelOf 64 0 ctx rec arg (words.map BitVec.toNat) = .error e → exec i s = .next (answer [(0, 0x11)]))) ∧
    (rec = 0 → (s.kernel n = none → exec i s = .next t) ∧
      ∀ k, s.kernel n = some k → (arg = 0 → exec i s = .next (acted s (.event i) fun s => s.cancelKernel k)) ∧
        (arg ≠ 0 → exec i s = .next (acted s (.event i) fun s => s.failKernel n [] 0)))) ∧
  (∀ (kern pkg : Nat) (fails : List (Nat × Nat)) (s : State) (k : Kernel), s.kernel kern = some k →
    fails = [] ∨ k.state = .checking ∨ k.state = .cancelled →
    ∃ t : State, exec (.packagePartComplete kern pkg fails) s = .next t ∧ t = { s with fe := { s.fe with kernels := t.fe.kernels } } ∧
      t.kernel kern = some { k with
        parts := k.parts.map fun p => if p.1 = pkg then (p.1, true) else p
        fails := if k.state = .checking then k.fails ++ fails else k.fails })

/-- A participant of barrier `b` of kernel `k` with the tasks from `p.1` on, `p.2` of them, that has arrived (R330). -/
def Sys2Proof.Claims.Takes (k : Kernel) (p : Nat × Nat) (b : Nat) (c : Core) : Prop :=
  ∃ t, c.task = some t ∧ t.kern = k.id ∧ p.1 ≤ t.idx ∧ t.idx < p.1 + p.2 ∧ b ∈ c.sy.arr

/-- What the completion of a phase of barrier `b` makes of a participant (R327, R330): ARR falls, PH rises, and an arrival made by
BARS at a barrier of number 15, at which no bundle waits, is an arrival event. -/
def Sys2Proof.Claims.Passed (b : Nat) (c d : Core) : Prop :=
  d = { c with
    sy := { c.sy with arr := c.sy.arr.filter (fun x => decide (x ≠ b)), bars := c.sy.bars.filter (fun x => decide (x ≠ b))
                      ph := Sparse.set 0 c.sy.ph b ((Sparse.get 0 c.sy.ph b + 1) % 2 ^ 32) }
    tr := if b % 16 = 15 ∧ b ∈ c.sy.bars ∧ c.waitsAt b = false ∧ c.tr.aip = false
          then { c.tr with aip := true, apend := BitVec.ofNat 8 (128 + b) } else c.tr }

/-- `u` is `s` after the phase `ph` of barrier `b` at every participant of kernel `k` in this package, on whatever core it runs. -/
def Sys2Proof.Claims.PhaseOver (s u : State) (k : Kernel) (p : Nat × Nat) (b ph : Nat) : Prop :=
  let passes (c d : Core) : Prop := (Takes k p b c → Passed b c d) ∧ (¬ Takes k p b c → d = c)
  u = { s with
    core := u.core, others := u.others
    fab := { s.fab with barriers := s.fab.barriers.filter fun e => !decide (e.1 = k.key s.fab.pkg ∧ e.2.1 = b ∧ e.2.2.1 = ph) } } ∧
  passes s.core u.core ∧ u.others.length = s.others.length ∧
  ∀ (j : Nat) (c d : Core), s.others[j]? = some c → u.others[j]? = some d → passes c d

/-- R208, R325, R330 to R332, R336, R337: atomics and increments at the fold unit; a counter that covers its oldest request is
lowered and the request granted, to the core that asked or by an answer to another package; a post raises its flag at the task of
its context, or at the saved task that the core holds a catch for, or is dropped and counted; a barrier whose participants have all
arrived lowers ARR and raises PH at each of them; of a domain barrier the part of this package is told to the others, and the phase
is over once every package's part has arrived; the part of another package is recorded. The numbers of remote requesters, the
messages and when each of these comes are the model's choice (logs 1, 2, 24, 94). -/
def Obligations.SharedSynchronisation : Prop :=
  (∀ (pa op : Nat) (x y : Word) (s : State), exec (.foldAtomicApply pa op x y) s = .next
    (s.storeMem (s.key pa) (leBytes 8 (amoOp op (w64 (leNat (s.homeBytes pa 8))) x y).toNat))) ∧
  (∀ (pa n : Nat) (s : State), exec (.cincApply pa n) s = .next
    (s.storeMem (s.key pa) (leBytes 8 (min (leNat (s.homeBytes pa 8) + n) (2 ^ 64 - 1))))) ∧
  (∀ (pa : Nat) (s : State),
    ((∀ w ∈ s.fab.cwaits, w.1 ≠ pa) → exec (.cwaitGrant pa) s = .next s) ∧
    (∀ w, s.fab.cwaits.find? (fun w => w.1 == pa) = some w →
      let v := leNat (s.homeBytes pa 8)
      let u := { s with
        mem := Memory.store s.mem (s.key pa) (leBytes 8 (v - w.2.1))
        fab := { s.fab with cwaits := s.fab.cwaits.filter (fun x => x.2.2 != w.2.2)
                            cregions := s.fab.cregions.filter fun x => x.1 != w.2.2 } }
      (v < w.2.1 → exec (.cwaitGrant pa) s = .next s) ∧
      (w.2.1 ≤ v → w.2.2 < 256 → w.2.2 = s.core.id → exec (.cwaitGrant pa) s = .next
        { u with core := { s.core with sy := { s.core.sy with granted := true } } }) ∧
      (w.2.1 ≤ v → w.2.2 < 256 → w.2.2 ≠ s.core.id → (∃ c ∈ s.others, c.id = w.2.2) → (∀ c ∈ s.others, c.id ≠ s.core.id) →
        ∃ t : State, exec (.cwaitGrant pa) s = .next t ∧ t = { u with others := t.others } ∧
          t.coreAt w.2.2 = { s.coreAt w.2.2 with sy := { (s.coreAt w.2.2).sy with granted := true } } ∧
          ∀ d, d ≠ w.2.2 → t.coreAt d = s.coreAt d) ∧
      (w.2.1 ≤ v → 256 ≤ w.2.2 → exec (.cwaitGrant pa) s = .next
        (u.send ((w.2.2 - 256) % 64) (.atomicResponse ((w.2.2 - 256) / 64) 0 0))))) ∧
  (∀ (c f n ctx : Nat) (s : State),
    (n = 0 → exec (.flagPost c f n ctx) s = .next s) ∧
    (∀ k, n ≠ 0 → (s.coreAt c).task = some k → k.ctx = ctx → ∃ (t : State) (d : Core), exec (.flagPost c f n ctx) s = .next t ∧
      Posts (s.coreAt c) d f n ∧ d = { s.coreAt c with sy := d.sy, tr := d.tr } ∧
      (c = s.core.id → t = { s with core := d }) ∧
      (c ≠ s.core.id → t = { s with others := t.others } ∧ t.coreAt c = d ∧ ∀ b, b ≠ c → t.coreAt b = s.coreAt b)) ∧
    (n ≠ 0 → (∀ k, (s.coreAt c).task = some k → k.ctx ≠ ctx) →
      ((∀ v ∈ s.fe.saved, (s.coreAt c).sy.caught ≠ some v.key ∨ v.core.ctx ≠ ctx) →
        ∃ t : State, exec (.flagPost c f n ctx) s = .next t ∧ t = { s with dies := t.dies } ∧
          (t.die (c / 32)).postdrop = min ((s.die (c / 32)).postdrop + 1) (2 ^ 32 - 1)) ∧
      (∀ v ∈ s.fe.saved, (s.coreAt c).sy.caught = some v.key → v.core.ctx = ctx → ∃ t : State,
        exec (.flagPost c f n ctx) s = .next t ∧ t = { s with fe := { s.fe with saved := t.fe.saved } } ∧
        t.fe.saved.length = s.fe.saved.length ∧ ∀ (j : Nat) (x y : Saved), s.fe.saved[j]? = some x → t.fe.saved[j]? = some y →
          (x.key = v.key → Posts x.core y.core f n ∧ y = { x with core := { x.core with sy := y.core.sy, tr := y.core.tr } }) ∧
          (x.key ≠ v.key → y = x)))) ∧
  (∀ (c b : Nat) (s : State) (t : Task) (k : Kernel), (s.coreAt c).task = some t → s.kernel t.kern = some k →
    let ph := Sparse.get 0 (s.coreAt c).sy.ph b
    let p := k.participants b t.idx
    let key := k.key s.fab.pkg
    let own := (key, b, ph, s.fab.pkg)
    let told : State := (s.kernelPkgs k).foldl (fun u q => if q = s.fab.pkg then u else u.send q (.barrierCombine key b ph s.fab.pkg))
      { s with fab := { s.fab with barriers := s.fab.barriers ++ [own] } }
    let others : Prop := ∀ q ∈ s.kernelPkgs k, q = s.fab.pkg ∨ (key, b, ph, q) ∈ s.fab.barriers
    (b ∉ (s.coreAt c).sy.arr ∨ s.allArrived k b t.idx = false → exec (.barrierPhaseComplete c b) s = .next s) ∧
    (b ∈ (s.coreAt c).sy.arr → s.allArrived k b t.idx = true →
      (k.domainBarrier b = false → ∃ u, exec (.barrierPhaseComplete c b) s = .next u ∧ PhaseOver s u k p b ph) ∧
      (k.domainBarrier b = true → own ∉ s.fab.barriers →
        (¬ others → exec (.barrierPhaseComplete c b) s = .next told) ∧
        (others → ∃ u, exec (.barrierPhaseComplete c b) s = .next u ∧ PhaseOver told u k p b ph)) ∧
      (k.domainBarrier b = true → own ∈ s.fab.barriers →
        (¬ others → exec (.barrierPhaseComplete c b) s = .next s) ∧
        (others → ∃ u, exec (.barrierPhaseComplete c b) s = .next u ∧ PhaseOver s u k p b ph)))) ∧
  (∀ (kern b phase pkg : Nat) (s : State), (kern, b, phase, pkg) ∉ s.fab.barriers →
    exec (.barrierCombine kern b phase pkg) s =
      .next { s with fab := { s.fab with barriers := s.fab.barriers ++ [(kern, b, phase, pkg)] } }) ∧
  (∀ (kern b phase pkg : Nat) (s : State), (kern, b, phase, pkg) ∈ s.fab.barriers →
    exec (.barrierCombine kern b phase pkg) s = .next s)

/-! ### Events of the queues, of their slots and of the mailbox (R263 to R290) -/

namespace Sys2Proof.Claims

/-- The packet that slot `p` starts next is `k`, well formed and of TYPE `kind`, and a NOTIFY that may be made (R277, R278, R286). -/
def Starts (s : State) (p kind : Nat) (k : Packet) : Prop :=
  s.startable p = some k ∧ k.kind = kind ∧ s.packetOk (s.slot p) k = true

/-- Entry `n` of the mailbox is served next, holds operation `op` and has no reserved bit set (R267). -/
def Mailed (s : State) (k n op : Nat) : Prop :=
  s.nextMail = some n ∧ n % 16 = k % 16 ∧ bits (s.mail n 0) 8 8 = op ∧ bits (s.mail n 0) 16 40 = 0 ∧ bits (s.mail n 1) 12 52 = 0

/-- Nothing but the crook's own state differs: the mailbox's words and pointers, the context table; and what the crook was sent
serves no other operation. -/
def OnlyCrook (s t : State) : Prop := t = { s.forget .crook with crook := t.crook }

/-- The words of the QCB at which slot `p` is bound, as they stand in memory. -/
def qcbWord (s : State) (p k : Nat) : Nat := leNat (s.homeBytes ((s.slot p).home + 8 * k) 8)

end Sys2Proof.Claims

/-- R190, R273 to R276, R280, R286, R289: NOTIFY latches its value and pends the index, and wakes an aperture that is gated; the slot
bound to it takes it as WRIDX if it lies within the ring, or enters ERROR; packets are fetched in order into the slot, one whose
address is not permitted as a faulted packet. The model's own choices in it: of a ring that is not aligned a packet is a NOP without
a signal whose other words are free values (logs 8, 118); the latch at reset and who owns an index (logs 60, 66); an index that
arrives in ERROR (log 93); an operation that lacks bytes of another package asks for them (log 103). -/
def Obligations.NotifyAndFetch : Prop :=
  (∀ (n v : Nat) (s : State), s.boundSlot n = none → n ∉ s.fe.pend →
    exec (.notify n v) s = .next { s with fe := { s.fe with
      latch := Sparse.set 0 s.fe.latch n (v % 2 ^ 32), pend := insertNat n s.fe.pend, events := (1, 64 + n) :: s.fe.events
      waking := if n ∈ s.fe.gated then insertNat n s.fe.waking else s.fe.waking } }) ∧
  (∀ (n v p : Nat) (s : State), s.boundSlot n = some p → (s.slot p).nidx = n → s.host.stage = 7 → (s.slot p).state = .active →
    (s.ctxOf (s.slot p).ctx).state = .live → n ∉ s.fe.gated → v < 2 ^ 32 → s.fab.wanted = none →
    ahead (s.slot p).rdidx v ≤ 2 ^ (s.slot p).rlog ∨ (s.slot p).errsig = 0 →
    ∃ t : State, exec (.notify n v) s = .next t ∧ Sparse.get 0 t.fe.latch n = v ∧
      (ahead (s.slot p).rdidx v ≤ 2 ^ (s.slot p).rlog → n ∉ t.fe.pend ∧
        t.mem = s.mem ∧ (t.slot p).state = .active ∧ (t.slot p).rdidx = (s.slot p).rdidx ∧
        (t.slot p).wridx = if ahead (s.slot p).rdidx (s.slot p).wridx < ahead (s.slot p).rdidx v then v else (s.slot p).wridx) ∧
      (2 ^ (s.slot p).rlog < ahead (s.slot p).rdidx v → n ∉ t.fe.pend ∧
        (t.slot p).state = .error ∧ (t.slot p).errcode = 2 ∧ (t.slot p).erridx = v)) ∧
  (∀ (n v p : Nat) (s : State), s.boundSlot n = some p → n ∈ s.fe.gated → (s.slot p).nidx = n →
    exec (.notify n v) s = .next { s with fe := { s.fe with
      latch := Sparse.set 0 s.fe.latch n (v % 2 ^ 32), pend := insertNat n s.fe.pend, waking := insertNat n s.fe.waking } }) ∧
  (∀ (n : Nat) (s : State), exec (.apertureGate n) s = .next { s with fe := { s.fe with gated := insertNat n s.fe.gated } } ∧
    exec (.apertureUngate n) s = .next { s with fe := { s.fe with
      gated := dropNat n s.fe.gated, waking := dropNat n s.fe.waking } }) ∧
  (∀ (n : Nat) (v : Word) (s : State), ∃ t : State, exec (.qpend n v) s = .next t ∧ t = { s with fe := { s.fe with pend := t.fe.pend } } ∧
    ∀ i, i ∈ t.fe.pend ↔ i ∈ s.fe.pend ∧ ¬ (i / 64 = n ∧ v.getLsbD (i % 64) = true)) ∧
  (∀ (p : Nat) (s : State),
    let x := s.slot p
    let who := Reader.slot p x.fetch
    let read := (reading s who).agentRead x.ctx (x.rbase + 64 * (x.fetch % 2 ^ x.rlog)) 64
    let put (t : State) (k : Packet) : State := (t.onSlot p fun y => { y with
      packets := y.packets ++ [k], fetch := (y.fetch + 1) % 2 ^ 32 }).forget who
    s.mayFetch x = true → s.fab.wanted = none →
    (x.rbase % (64 * 2 ^ x.rlog) = 0 →
      (∀ bs, read = .ok bs → exec (.packetFetch p) s =
        .next (put s { idx := x.fetch, words := (chunks 8 8 bs).map fun b => w64 (leNat b) })) ∧
      (∀ e, read = .error e → isLack e.cause = false → e.cause ≠ 0x10 → exec (.packetFetch p) s =
        .next (put s { idx := x.fetch, words := [], fault := true })) ∧
      (∀ e, read = .error e → e.cause = 0x10 → exec (.packetFetch p) s = .next ((s.queueHold p none).forget who)) ∧
      (∀ e, read = .error e → isLack e.cause = true → exec (.packetFetch p) s =
        .next ((s.askOnce who (lackVa e.va) (e.cause - 256) e.reason).getD s))) ∧
    (x.rbase % (64 * 2 ^ x.rlog) ≠ 0 → ∃ k : Packet, exec (.packetFetch p) s = .next (put { s with free := s.free + 3 } k) ∧
      k.idx = x.fetch ∧ k.started = false ∧ k.complete = false ∧ k.kind = 1 ∧ k.sigop = 0 ∧ k.irq = false ∧ k.wf = true ∧
      k.word 1 = (Config.freeValue (s.free + 1)).toNat ∧ k.word 2 = (Config.freeValue (s.free + 2)).toNat)) ∧
  (∀ (p : Nat) (at_ : Option Nat) (s : State), (s.slot p).state = .active → ∃ t : State, s.queueHold p at_ = t ∧
    t.slot p = { s.slot p with state := .held, heldAt := at_ } ∧ t.fe.events = (1, p) :: s.fe.events ∧
    (∀ q, q ≠ p → t.slot q = s.slot q) ∧ t.mem = s.mem ∧ t.fe.pend = s.fe.pend ∧ t.fe.latch = s.fe.latch) ∧
  (∀ (p : Nat) (s : State), s.mayFetch (s.slot p) = false → exec (.packetFetch p) s = .next s)

/-- R190, R277 to R279, R286, R295: a packet of each TYPE starts as its rule says: NOP and FFENCE complete, LAUNCH starts the
kernel of its record, WAITSIG completes once its condition holds, NOTIFY latches, and one that is not well formed puts
the slot in ERROR. A packet that completes at the head leaves the ring. While the slot is HELD every started WAITSIG but the held
packet goes on reading. The model's own choices in it: when BADPKT is raised (log 61), what a fault of a signal leaves (logs 62, 63),
an operation that lacks bytes of another package (log 103), the layout of the drover's event (log 106). -/
def Obligations.Packets : Prop :=
  (∀ (p : Nat) (s : State) (k : Packet),
    let who := Reader.slot p k.idx
    let does (i : Instr) (f : State → State) : Prop := exec i s = .next (acted s who f)
    let started (s : State) : State := s.markStarted p k.idx
    (Starts s p 1 k → does (.nopPacket p) fun s => (started s).packetDone p k.idx) ∧
    (Starts s p 4 k → does (.ffence p) fun s => (started s).packetDone p k.idx) ∧
    (Starts s p 5 k → does (.notifyPacket p) fun s => ((started s).capture (k.word 3) (k.word 4)).packetDone p k.idx) ∧
    (Starts s p 3 k → k.met = false →
      ∀ bs, (started (reading s who)).agentRead (s.slot p).ctx (k.word 3) 8 = .ok bs →
      let v := leNat bs
      let met : Prop := if k.word 5 = 0 then v = k.word 4 else if k.word 5 = 1 then v ≠ k.word 4 else k.word 4 ≤ v
      (met → does (.waitsig p) fun s =>
        ((started s).onSlot p fun y => y.onPacket k.idx fun x => { x with met := true }).packetDone p k.idx) ∧
      (¬ met → does (.waitsig p) started)) ∧
    (Starts s p 2 k →
      let record := (reading s who).launchRecord p k.idx (s.slot p).ctx (k.word 3) (w64 (k.word 4))
      (∀ n, record = .ok n → does (.launch p) fun s => (started s).startKernel n) ∧
      (record = .error .rejected → does (.launch p) fun s => (started s).queueError p 4 k.idx) ∧
      (record = .error .held → does (.launch p) fun s => s.queueHold p (some k.idx)) ∧
      (∀ e, record = .error (.lacking e) → isLack e.cause = true →
        exec (.launch p) s = .next ((s.askOnce who (lackVa e.va) (e.cause - 256) e.reason).getD s))) ∧
    (s.startable p = some k → k.kind = 0 → does (.invalid p) fun s => s.queueError p 1 k.idx) ∧
    (s.startable p = some k → s.packetOk (s.slot p) k = false →
      ∃ i ∈ [Instr.invalid p, .nopPacket p, .launch p, .waitsig p, .ffence p, .notifyPacket p],
        does i fun s => s.queueError p 1 k.idx)) ∧
  (∀ (p : Nat) (s : State) (k : Packet) (rest : List Packet), (s.slot p).packets = k :: rest → k.started = true →
    k.complete = false → k.sigop = 0 → (∀ x ∈ rest, x.complete = false ∧ x.idx ≠ k.idx) →
    ∃ t : State, s.packetDone p k.idx = t ∧ t.mem = s.mem ∧ (t.slot p).packets = rest ∧
      (t.slot p).rdidx = ((s.slot p).rdidx + 1) % 2 ^ 32 ∧
      t.fe.msix = if k.irq then (s.slot p).msiv :: s.fe.msix else s.fe.msix) ∧
  (∀ (p code idx : Nat) (s : State), (s.slot p).state = .active → (s.slot p).errsig = 0 →
    ∃ t : State, s.queueError p code idx = t ∧ (t.slot p).state = .error ∧ (t.slot p).errcode = code ∧
      (t.slot p).erridx = idx % 2 ^ 32 ∧
      t.fe.events = (1, p + 2 ^ 16 * (if code = 2 then 0 else (s.slot p).ptag idx)) :: s.fe.events) ∧
  (∀ (p : Nat) (s : State), exec (.waitsigPoll p) s = .next ((s.slot p).waiting.foldl (fun s k =>
    if (s.slot p).state = .held ∧ ((s.slot p).heldAt = some k.idx ∨ k.kind ≠ 3) then s
    else acted s (.slot p k.idx) fun s => if k.kind = 3 then s.pollWait p k else s.packetDone p k.idx) s)) ∧
  (∀ (p : Nat) (s : State), ((s.slot p).state = .held ∧ ∀ k ∈ (s.slot p).waiting, (s.slot p).heldAt = some k.idx ∨ k.kind ≠ 3) ∨
    (s.slot p).waiting = [] → exec (.waitsigPoll p) s = .next s) ∧
  (∀ (p : Nat) (s : State) (k : Packet), k ∈ (s.slot p).waiting ↔
    k ∈ (s.slot p).packets ∧ k.started = true ∧ k.complete = false ∧ k.kind ≠ 2 ∧ k.kind ≠ 0) ∧
  (∀ (p : Nat) (s : State) (k : Packet) (bs : List Byte), k.met = false →
    s.agentRead (s.slot p).ctx (k.word 3) 8 = .ok bs → k.word 5 = 0 →
    (leNat bs = k.word 4 → s.pollWait p k =
      (s.onSlot p fun y => y.onPacket k.idx fun x => { x with met := true }).packetDone p k.idx) ∧
    (leNat bs ≠ k.word 4 → s.pollWait p k = s))

/-- R206, R269, R273, R282 to R285, R290: the requests written to SCTL: MAP makes a FREE slot BINDING, and the queue that its control
block describes is bound where the checks hold; UNMAP and RESET take it out of use until its launches are over, SETPRIO and RESUME
change an ACTIVE or HELD one; a request that the slot's state does not take answers STATUS 4. The model's own choices in it: a MAP
that R399 does not let through yet answers STATUS 3 (logs 64, 121), the PRIO of a slot is that of the SCTL write (log 65), MAP takes
the latch (log 60), and an operation that lacks bytes of another package asks for them (log 103). -/
def Obligations.SlotRequests : Prop :=
  (∀ (p : Nat) (s : State),
    let x := s.slot p
    let does (i : Instr) (f : State → State) : Prop := exec i s = .next (acted s (.slot p (2 ^ 32)) f)
    let answers (i : Instr) (n : Nat) : Prop := does i fun s => s.onSlot p fun y => { y with status := n, req := 0 }
    (x.req = 1 → (x.state ≠ .free → answers (.map p) 4) ∧
      (x.state = .free → does (.map p) fun s => s.onSlot p fun y =>
        { y with state := .binding, ctx := y.rqctx, prio := y.rqprio, home := y.qcb, req := 0 })) ∧
    (x.req = 2 → (x.running = false → answers (.unmap p) 4) ∧
      (x.running = true → does (.unmap p) fun s => (s.forgetSlot p).onSlot p fun y =>
        { y with state := .unbinding, req := 0, fetch := y.rdidx, packets := y.packets.filter fun k => k.started })) ∧
    (x.req = 3 → (x.running = false → answers (.queueReset p) 4) ∧
      (x.running = true → does (.queueReset p) fun s => ((s.cancelSlot p).forgetSlot p).onSlot p fun y =>
        { y with state := .resetting, req := 0, packets := [] })) ∧
    (x.req = 4 → (x.state ≠ .active → x.state ≠ .held → answers (.setprio p) 4) ∧
      (x.state = .active ∨ x.state = .held →
        (x.rqprio ≤ (s.ctxOf x.ctx).priomax → s.fab.wanted = none → ∃ t : State, exec (.setprio p) s = .next t ∧
          t.slot p = { x with prio := x.rqprio, status := 1, req := 0 } ∧
          t = { s.forget (.slot p (2 ^ 32)) with fe := { s.fe with slots := t.fe.slots } }) ∧
        ((s.ctxOf x.ctx).priomax < x.rqprio → answers (.setprio p) 3))) ∧
    (x.req = 5 → (x.state ≠ .held → answers (.resume p) 4) ∧
      (x.state = .held → does (.resume p) fun s =>
        ((s.onSlot p fun y => { y with status := 1, req := 0 }).onSlot p fun y => { y with state := .active }).pollSlot p))) ∧
  (∀ (p : Nat) (s : State), (s.slot p).state = .binding →
    let w := qcbWord s p
    (s.mapOk (s.slot p) w = false → s.bind? p = some (s.onSlot p fun x => x.freed 3)) ∧
    (s.mapOk (s.slot p) w = true → s.host.stage = 7 ∧ s.host.hwSet = true ∧ s.host.master = true ∧
      (∀ j < 48, j ∈ s.host.portsRead) ∧ bits (w 1) 20 12 = (s.slot p).ctx ∧ (s.slot p).ctx ≠ 0 ∧
      (s.ctxOf (s.slot p).ctx).state = .live ∧ (s.slotsOf (s.slot p).ctx).length ≤ (s.ctxOf (s.slot p).ctx).budget ∧
      (s.slot p).prio ≤ (s.ctxOf (s.slot p).ctx).priomax ∧ 4 ≤ bits (w 1) 11 5 ∧ bits (w 1) 11 5 ≤ 20 ∧ bits (w 3) 32 8 ≤ 4 ∧
      ahead (bits (w 2) 0 32) (bits (w 2) 32 32) ≤ 2 ^ bits (w 1) 11 5 ∧ s.boundSlot (bits (w 1) 32 12) = none) ∧
    (s.mapOk (s.slot p) w = true →
      let n := bits (w 1) 32 12
      let v := Sparse.get 0 s.fe.latch n
      ahead (bits (w 2) 0 32) v ≤ 2 ^ bits (w 1) 11 5 ∨ w 4 = 0 → ∃ t : State, s.bind? p = some t ∧ n ∉ t.fe.pend ∧ (t.slot p).nidx = n ∧ (t.slot p).ctx = (s.slot p).ctx ∧
        (t.slot p).rdidx = bits (w 2) 0 32 ∧ (t.slot p).rbase = bits (w 0) 6 46 * 2 ^ 6 ∧ (t.slot p).rlog = bits (w 1) 11 5 ∧
        (t.slot p).packets = [] ∧
        (ahead (bits (w 2) 0 32) v ≤ 2 ^ bits (w 1) 11 5 → t.mem = s.mem ∧ (t.slot p).state = .active ∧
          ((s.slot p).req = 0 → (t.slot p).status = 1) ∧
          (t.slot p).wridx = if ahead (bits (w 2) 0 32) (bits (w 2) 32 32) < ahead (bits (w 2) 0 32) v then v
            else bits (w 2) 32 32) ∧
        (2 ^ bits (w 1) 11 5 < ahead (bits (w 2) 0 32) v → (t.slot p).state = .error ∧ (t.slot p).errcode = 2))) ∧
  (∀ (p : Nat) (s : State), (s.slot p).state = .unbinding → (∀ k ∈ s.fe.kernels, k.slot ≠ p) → (s.slot p).tags = [] →
    let x := s.slot p
    ∃ t : State, exec (.unbindComplete p) s = .next t ∧ t.slot p = x.freed 1 ∧ (t.slot p).state = .free ∧
      (t.slot p).sqcb = x.sqcb ∧ (t.slot p).packets = [] ∧
      (∀ a, a < x.home ∨ x.home + 40 ≤ a → Memory.byte t.mem a = Memory.byte s.mem a) ∧
      Memory.bytes t.mem (x.home + 16) 8 = leBytes 8 (x.wridx % 2 ^ 32 * 2 ^ 32 + x.rdidx % 2 ^ 32) ∧
      Memory.bytes t.mem (x.home + 24) 8 = leBytes 8 (x.qcode * 2 ^ 32 + x.erridx % 2 ^ 32)) ∧
  (∀ (p : Nat) (s : State) (i : Nat) (a : Ask), a ∈ (s.forgetSlot p).fab.asks → a.who ≠ .slot p i) ∧
  (∀ (p : Nat) (s : State), (s.slot p).state ≠ .unbinding ∨ (∃ k ∈ s.fe.kernels, k.slot = p) ∨ (s.slot p).tags ≠ [] →
    exec (.unbindComplete p) s = .next s)

/-- R190, R263, R264, R267 to R272, R288: the requests of the protection mailbox, each on the context that its entry names, after the
contexts whose deadline has come are FREE: status 1 where it is accepted, and the context's new state; CREATE makes the context
CREATING, and LIVE once the checks hold; SETMASK, RESET and DESTROY owe their status until what they wait for is over: a RESET
leaves the context LIVE, a DESTROY leaves it DRAINING until its deadline, and both mark the cores of its mask as used by no context.
A polling position serves what stands at it. The model's own choices in it: how MBTAIL advances (log 67), whose root CREATE copies
(log 68), the moment of a polling position (log 96), an operation that lacks bytes of another package (log 103), and that the verdict
on a monitor image, which the checks of CREATE take in, is a function of its bytes without a body (log 7). -/
def Obligations.MailboxRequests : Prop :=
  (∀ (k n : Nat) (s : State), s.fab.wanted = none →
    let u := s.deadlines
    let c := u.mailCtx n
    let w := u.mail n
    (Mailed u k n 1 →
      ((u.ctxOf c).state = .free → c ≠ 0 → ∃ t : State, exec (.create k) s = .next t ∧ OnlyCrook u t ∧
        (t.ctxOf c).state = .creating ∧ (n, 1, c) ∈ t.crook.owed ∧ (∀ d, d ≠ c → t.ctxOf d = u.ctxOf d)) ∧
      ((u.ctxOf c).state ≠ .free ∨ c = 0 → ∃ t : State, exec (.create k) s = .next t ∧ OnlyCrook u t ∧
        t.crook.ctx = u.crook.ctx ∧
        t.mail n 0 % 256 = if (u.ctxOf c).state = .free ∨ (u.ctxOf c).state = .live then 3 else 2)) ∧
    (Mailed u k n 2 → (u.ctxOf c).state = .live →
      let m := maskWords (w 2) (w 3) (w 4) (w 5)
      u.maskOk m = true → ∃ t : State, exec (.setmask k) s = .next t ∧ (t.ctxOf c).mask = m ∧ t.mem = u.mem ∧
        (n, 2, c) ∈ t.crook.owed) ∧
    (Mailed u k n 3 → (u.ctxOf c).state = .live →
      let b := bits (w 2) 0 8
      1 ≤ b → b ≤ 64 → u.crook.budgets - (u.ctxOf c).budget + b ≤ 64 → (u.slotsOf c).length ≤ b →
      ∃ t : State, exec (.setbudget k) s = .next t ∧ OnlyCrook u t ∧ t.mail n 0 % 256 = 1 ∧
        t.ctxOf c = { u.ctxOf c with budget := b }) ∧
    (Mailed u k n 4 → (u.ctxOf c).state = .live →
      let v := w 2
      bits v 0 8 ≤ bits v 8 8 → bits v 8 8 ≤ bits v 16 8 → bits v 16 8 ≤ 128 →
      ∃ t : State, exec (.setpool k) s = .next t ∧ OnlyCrook u t ∧ t.mail n 0 % 256 = 1 ∧
        t.ctxOf c = { u.ctxOf c with d1 := bits v 0 8, d2 := bits v 8 8, d3 := bits v 16 8 }) ∧
    (Mailed u k n 5 → exec (.contextReset k) s = .next (acted u .crook fun s => (s.serveEntry n).tailUp) ∧
      ((u.ctxOf c).state = .live → ((reading u .crook).serveEntry n).fab.wanted = none → ∃ t : State,
        exec (.contextReset k) s = .next t ∧ (t.ctxOf c).state = .resetting ∧ (n, 5, c) ∈ t.crook.owed)) ∧
    (Mailed u k n 6 → exec (.destroy k) s = .next (acted u .crook fun s => (s.serveEntry n).tailUp) ∧
      ((u.ctxOf c).state = .live → ((reading u .crook).serveEntry n).fab.wanted = none → ∃ t : State,
        exec (.destroy k) s = .next t ∧ (t.ctxOf c).state = .quiescing ∧ (n, 6, c) ∈ t.crook.owed)) ∧
    (Mailed u k n 7 → (u.ctxOf c).state ≠ .free → ∃ t : State,
      exec (.query k) s = .next t ∧ OnlyCrook u t ∧ t.mail n 0 % 256 = 1 ∧
      (∀ j < 6, t.mail n (2 + j) = ((u.ctxOf c).words c).getD j 0 % 2 ^ 64) ∧
      t.mail (n + 1) 0 = ((u.ctxOf c).words c).getD 6 0 % 2 ^ 64) ∧
    (Mailed u k n 16 → c = 0 → bits (w 2) 0 6 ∈ u.crook.replaced → ∃ t : State,
      exec (.clrrepair k) s = .next t ∧ t.mem = u.mem ∧ t.mail n 0 % 256 = 1 ∧ bits (w 2) 0 6 ∉ t.crook.replaced ∧
      t.cluster (bits (w 2) 0 6) = { u.cluster (bits (w 2) 0 6) with rows := [], cols := [], failed := false }) ∧
    (Mailed u k n 16 → c ≠ 0 → ∃ t : State, exec (.clrrepair k) s = .next t ∧ OnlyCrook u t ∧ t.crook.ctx = u.crook.ctx ∧
      t.crook.replaced = u.crook.replaced ∧
      t.mail n 0 % 256 = if (u.ctxOf c).state = .free then 4 else if (u.ctxOf c).state = .live then 3 else 2) ∧
    (Mailed u k n 7 → (u.ctxOf c).state = .free → ∃ t : State, exec (.query k) s = .next t ∧ OnlyCrook u t ∧
      t.crook.ctx = u.crook.ctx ∧ t.mail n 0 % 256 = 4) ∧
    (∀ op, 2 ≤ op → op ≤ 6 → Mailed u k n op → (u.ctxOf c).state ≠ .live →
      ∃ i ∈ [Instr.setmask k, .setbudget k, .setpool k, .contextReset k, .destroy k], ∃ t : State, exec i s = .next t ∧
        OnlyCrook u t ∧ t.crook.ctx = u.crook.ctx ∧ t.mail n 0 % 256 = if (u.ctxOf c).state = .free then 4 else 2)) ∧
  (∀ (n : Nat) (s : State), let c := s.mailCtx n
    (s.createOk n = false → ∃ t : State, s.payStatus (n, 1, c) = some t ∧ t.ctxOf c = {} ∧ t.mail n 0 % 256 = 3 ∧
      t = { s with crook := t.crook } ∧ ∀ d, d ≠ c → t.ctxOf d = s.ctxOf d) ∧
    (s.createOk n = true → (s.shareRoot (s.newContext n).root).1 = [] → ∃ t : State, s.payStatus (n, 1, c) = some t ∧
      (t.ctxOf c).state = .live ∧ (t.ctxOf c).lmax = bits (s.mail n 2) 9 5 ∧ (t.ctxOf c).budget = bits (s.mail n 7) 0 8 ∧
      (t.ctxOf c).mask = maskWords (s.mail n 3) (s.mail n 4) (s.mail n 5) (s.mail n 6) ∧ t.mail n 0 % 256 = 1 ∧
      (∀ d, d ≠ c → t.ctxOf d = s.ctxOf d) ∧ ∀ x ∈ t.crook.owed, x.1 ≠ n)) ∧
  (∀ (n c : Nat) (s : State), s.quietCtx c = true →
    (∃ t : State, s.payStatus (n, 5, c) = some t ∧ (t.ctxOf c).state = .live ∧ t.mail n 0 % 256 = 1 ∧ t.mem = s.mem ∧
      ∀ x ∈ t.cores, (s.ctxOf c).mask.getLsbD x.id = true → x.loc.poolCtx = 0 ∧ x.loc.monCtx = 0) ∧
    (∃ t : State, s.payStatus (n, 6, c) = some t ∧ t.ctxOf c = s.ctxOf c ∧ t.mail n 0 = s.mail n 0 ∧ t.mem = s.mem ∧
      ∀ x ∈ t.cores, (s.ctxOf c).mask.getLsbD x.id = true → x.loc.poolCtx = 0 ∧ x.loc.monCtx = 0)) ∧
  (∀ (n c : Nat) (s : State), s.quietCtx c = false → s.payStatus (n, 5, c) = none ∧ s.payStatus (n, 6, c) = none) ∧
  (∀ (n c : Nat) (s : State), s.slotsOf c = [] → (s.ctxOf c).deadline ≠ 0 → ∃ t : State, s.payStatus (n, 9, c) = some t ∧
    t.mail n 0 % 256 = 1 ∧ t.ctxOf c = { s.ctxOf c with
      state := .draining, deadline := (s.ctxOf c).deadline + 2 ^ ((s.ctxOf c).lmax - 1) * 1000 + 2050 }) ∧
  (∀ (k : Nat) (s : State), s.deadlines.nextMail = none →
    ∀ i ∈ [Instr.create k, .setmask k, .setbudget k, .setpool k, .contextReset k, .destroy k, .query k, .clrrepair k],
      exec i s = .next s.deadlines) ∧
  (∀ s : State, s.deadlines = { s with crook := s.deadlines.crook } ∧ ∀ c, s.deadlines.ctxOf c =
    if (s.ctxOf c).state = .draining ∧ (s.ctxOf c).deadline ≤ (s.die 0).dtb then {} else s.ctxOf c) ∧
  (∀ (c : Nat) (s : State),
    ((s.ctxOf c).state = .draining → (s.ctxOf c).deadline ≤ (s.die 0).dtb → ∃ t : State, exec (.deadline c) s = .next t ∧
      t = { s with crook := t.crook } ∧ t.ctxOf c = {} ∧ ∀ d, d ≠ c → t.ctxOf d = s.ctxOf d) ∧
    ((s.ctxOf c).state ≠ .draining ∨ (s.die 0).dtb < (s.ctxOf c).deadline → exec (.deadline c) s = .next s)) ∧
  (∀ (p : Nat) (s : State), p < 64 → (s.slot p).state ≠ .unbinding → (s.slot p).state ≠ .resetting →
    (s.slot p).state ≠ .binding → exec (.pollingPosition p) s = .next (acted s (.slot p (2 ^ 32)) fun s => s.serveSlot p)) ∧
  (∀ (p n : Nat) (s : State), 64 ≤ p → p < 72 → s.payNext = none → s.nextMail = some n →
    exec (.pollingPosition p) s = .next (acted s .crook fun s => (s.serveEntry n).tailUp)) ∧
  (∀ (p : Nat) (s : State), 72 ≤ p → (s.die (p - 72)).set = false → exec (.pollingPosition p) s = .next s)

/-! ### Events of the links and of the rings (R22, R341 to R345, R350 to R361, R396) -/

namespace Sys2Proof.Claims

/-- `s` with one more message to send from a die, in a class. -/
def sending (s : State) (die cls dst : Nat) (m : Instr) : State :=
  { s with fab := { s.fab with out := s.fab.out ++ [⟨cls, dst, m, none, die⟩] } }

/-- How far SEQ `q` lies behind the first flit that port `p` has not had acknowledged. -/
def seqOffset (p : Port) (q : Nat) : Nat := (q + 4096 - p.ackNext) % 4096

/-- The replay buffer of `p` holds the flit of SEQ `q` (R342). -/
def Buffered (p : Port) (q : Nat) : Prop := Claims.seqOffset p q < Claims.seqOffset p p.txSeq

/-- How often `ok` holds in a list of SEQs, added to a counter that saturates at 2^32 − 1. -/
def countedReplay (p : Port) (ok : Nat → Bool) : Nat := min (p.replay + (p.failed.filter ok).length) (2 ^ 32 - 1)

/-- The receive credits that a control flit leaves of class `c`. -/
def creditsAfter (p : Port) (f : ControlFlit) (c : Nat) : Option Nat :=
  if c < 4 ∧ c < f.credits.length then some (f.credits.getD c 0) else Sparse.get none p.credits c

/-- The FAIL messages with which a member answers that a reset has taken its instance away (R358). -/
def memberReset (s : State) (id inst : Nat) : List Parcel :=
  (s.fab.domain.filter fun p => decide (p ≠ s.fab.pkg)).map fun p => ⟨3, p, .fail id inst s.fab.pkg 0x11 5, none, s.me.die⟩

end Sys2Proof.Claims

/-- R341 to R344, R346: a port trains from DOWN, comes UP where the handshake names the right peer, retrains on a lasting fault or
where it is told to, and goes DOWN with every message that holds an unacknowledged flit back at the head of those to be sent. An ACK
frees the replay buffer up to its SEQ, a NAK makes the port replay from its SEQ, and the second NAK of a SEQ after its replay makes it
retrain; a retrain that succeeds replays from the first flit that is not acknowledged. The receiver accepts flits in sequence, acknowledges with the thirty-second and refuses
any other, once, with the SEQ it expects. The model's own choices in it: a message keeps the SEQ of its last flit (logs 1, 76), and the hop
delay that training measures is a free value (logs 8, 119). -/
def Sys2Proof.Claims.PortEvents : Prop :=
  (∀ (d j : Nat) (s : State),
    let p := s.port d j
    let now := (s.die d).dtb
    let becomes (i : Instr) (f : Port → Port) : Prop := ∃ t : State, exec i s = .next t ∧ t = { s with dies := t.dies } ∧ t.port d j = f p ∧
      (∀ e, e ≠ j → t.port d e = s.port d e) ∧ ∀ c, c ≠ d → t.die c = s.die c
    let recalled (t : State) : Prop := t.fab.out = p.sent.map Prod.snd ++ p.tails.map Prod.fst ++ s.fab.out ∧ (t.port d j).sent = [] ∧
      (t.port d j).tails = [] ∧ (t.port d j).ackNext = p.txSeq ∧ (t.port d j).wire = p.txSeq ∧ (t.port d j).failed = [] ∧ t.mem = s.mem
    (p.state = .down → becomes (.trainingStart d j) fun p => { p with state := .training, since := now }) ∧
    (p.state ≠ .down → exec (.trainingStart d j) s = .next s) ∧
    (∀ pp pd pj, p.state = .training →
      (pd = d ∧ pj = (if j % 2 = 0 then j + 1 else j - 1) → ∃ t : State, exec (.trainingComplete d j pp pd pj) s = .next t ∧
        t = { s with dies := t.dies, free := s.free + 1 } ∧ (t.port d j).state = .up ∧ (t.port d j).miswire = false ∧
        (t.port d j).peerPkg = pp ∧ (t.port d j).peerDie = pd ∧ (t.port d j).peerPort = pj ∧ (t.port d j).txSeq = 0 ∧ (t.port d j).ackNext = 0 ∧
        (t.port d j).wire = 0 ∧ (t.port d j).rxSeq = 0 ∧ (t.port d j).delay ≤ 140 ∧ (t.port d j).since = now) ∧
      (¬ (pd = d ∧ pj = (if j % 2 = 0 then j + 1 else j - 1)) → becomes (.trainingComplete d j pp pd pj) fun p =>
        { p with state := .down, miswire := true, peerPkg := pp, peerDie := pd, peerPort := pj, since := now })) ∧
    (∀ pp pd pj, p.state ≠ .training → exec (.trainingComplete d j pp pd pj) s = .next s) ∧
    (p.state = .training → becomes (.trainingTimeout d j) fun p => { p with state := .down, since := now }) ∧
    (p.state ≠ .training → exec (.trainingTimeout d j) s = .next s) ∧
    (p.state = .retraining →
      becomes (.retrainComplete d j true) (fun p => { p with state := .up, since := now, wire := p.ackNext, failed := [], rxFailed := none }) ∧
      ∃ t : State, exec (.retrainComplete d j false) s = .next t ∧ recalled t ∧ (t.port d j).state = .down ∧
        (t.port d j).downs = min (p.downs + 1) 65535) ∧
    (∀ ok, p.state ≠ .retraining → exec (.retrainComplete d j ok) s = .next s) ∧
    (p.state = .up → becomes (.retrain d j) fun p => { p with state := .retraining, since := now, retrain := min (p.retrain + 1) 65535 }) ∧
    (p.state ≠ .up → exec (.retrain d j) s = .next s) ∧
    (p.state = .disabled → becomes (.en d j true) fun p => { p with state := .down, since := now, en := true }) ∧
    (p.state ≠ .disabled → becomes (.en d j true) fun p => { p with en := true }) ∧
    (∃ t : State, exec (.en d j false) s = .next t ∧ recalled t ∧ (t.port d j).state = .disabled ∧ (t.port d j).en = false) ∧
    (∀ f : ControlFlit, let q := f.seq % 4096
      (∀ i ∈ [Instr.ack d j f, .nak d j f], ∃ t : State, exec i s = .next t ∧ t = { s with dies := t.dies } ∧
        (∀ c, Sparse.get none (t.port d j).credits c = Claims.creditsAfter p f c) ∧ (t.port d j).txSeq = p.txSeq) ∧
      (Claims.Buffered p q → ∃ t : State, exec (.ack d j f) s = .next t ∧ (t.port d j).ackNext = (q + 1) % 4096 ∧ (t.port d j).state = p.state ∧
        (t.port d j).sent = p.sent.filter (fun m => decide (Claims.seqOffset p q < Claims.seqOffset p m.1)) ∧
        (t.port d j).failed = p.failed.filter (fun r => decide (Claims.seqOffset p q < Claims.seqOffset p r)) ∧
        (t.port d j).replay = Claims.countedReplay p (fun r => decide (Claims.seqOffset p r ≤ Claims.seqOffset p q)) ∧
        (¬ Claims.Buffered p p.wire ∨ Claims.seqOffset p q < Claims.seqOffset p p.wire → (t.port d j).wire = p.wire)) ∧
      (¬ Claims.Buffered p q → ∀ i ∈ [Instr.ack d j f, .nak d j f], ∃ t : State, exec i s = .next t ∧
        t.port d j = { p with credits := (t.port d j).credits }) ∧
      (p.state ≠ .up → ∃ t : State, exec (.nak d j f) s = .next t ∧ t.port d j = { p with credits := (t.port d j).credits }) ∧
      (p.state = .up → Claims.Buffered p q →
        (q ∉ p.failed ∨ p.wire = q → ∃ t : State, exec (.nak d j f) s = .next t ∧ (t.port d j).state = .up ∧ (t.port d j).wire = q ∧
          q ∈ (t.port d j).failed ∧ (t.port d j).sent = p.sent ∧ (t.port d j).ackNext = p.ackNext ∧
          (t.port d j).replay = Claims.countedReplay p (fun r => decide (Claims.seqOffset p r < Claims.seqOffset p q))) ∧
        (q ∈ p.failed → p.wire ≠ q → ∃ t : State, exec (.nak d j f) s = .next t ∧ t.port d j = { p with
          state := .retraining, since := now, retrain := min (p.retrain + 1) 65535, credits := (t.port d j).credits }))) ∧
    (∀ f : ReceivedFlit, p.state = .up →
      (f.good = true → f.seq % 4096 = p.rxSeq → p.rxGot < 31 → becomes (.crcFailure d j f) fun p =>
        { p with rxSeq := (p.rxSeq + 1) % 4096, rxGot := p.rxGot + 1, rxFailed := none, rxSince := if p.rxGot = 0 then now else p.rxSince }) ∧
      (f.good = true → f.seq % 4096 = p.rxSeq → p.rxGot = 31 → p.rxSeq < 4096 → ∃ t : State, exec (.crcFailure d j f) s = .next t ∧
        (t.port d j).rxSeq = (p.rxSeq + 1) % 4096 ∧ (t.port d j).rxGot = 0 ∧ (t.port d j).control = (true, p.rxSeq) :: p.control) ∧
      (f.good = false ∨ f.seq % 4096 ≠ p.rxSeq → p.rxFailed ≠ some p.rxSeq → becomes (.crcFailure d j f) fun p =>
        { p with rxFailed := some p.rxSeq, rxGot := 0, control := (false, p.rxSeq) :: p.control }) ∧
      (f.good = false → f.seq % 4096 = p.rxSeq → p.rxFailed = some p.rxSeq → becomes (.crcFailure d j f) fun p =>
        { p with state := .retraining, since := now, retrain := min (p.retrain + 1) 65535 }) ∧
      (f.seq % 4096 ≠ p.rxSeq → p.rxFailed = some p.rxSeq → becomes (.crcFailure d j f) id)) ∧
    (∀ f : ReceivedFlit, p.state ≠ .up → exec (.crcFailure d j f) s = .next s)) ∧
  (∀ (s t : State), s.replayNext = some t → ∃ d j : Nat, (s.port d j).state = .up ∧ (s.port d j).wire ≠ (s.port d j).txSeq ∧
    t = { s with dies := t.dies } ∧ t.port d j = { s.port d j with wire := (s.port d j).txSeq }) ∧
  (∀ (s t : State), s.acknowledgeNext = some t → ∃ d j : Nat, (s.port d j).state = .up ∧ 0 < (s.port d j).rxGot ∧
    (s.port d j).rxSince + 100 ≤ (s.die d).dtb ∧
    t.port d j = { s.port d j with rxGot := 0, control := (true, ((s.port d j).rxSeq + 4095) % 4096) :: (s.port d j).control })

/-- R341, R342, R345, R346: a port serves the bellwether class before any other, within 512 flits in any 4096 flit times, and of seven
turns that all three bulk classes ask for gives class 2 four, class 1 two and class 0 one (log 104); it sends no more flits than its replay buffer has room for
and its peer has given credits for, and none while it has a replay to make. Messages of one class from one die to one
package leave in their order, over one path: the port of their own die in the direction of the route where that is UP, else that of the
lowest-numbered die, else the opposite direction. The die that a message leaves from is the model's choice (log 119). -/
def Sys2Proof.Claims.TrafficClasses : Prop :=
  (∀ (p : Port) (cs : List Nat), (∀ c ∈ cs, c < 4) → cs ≠ [] → p.round < 7 →
    (p.nextClass cs).1 ∈ cs ∧ (p.nextClass cs).2 < 7 ∧ (3 ∈ cs → (p.nextClass cs).1 = 3) ∧
    (cs = [0, 1, 2] → ∀ c < 3, ((List.range 7).filter fun k =>
      (({ p with round := (p.round + k) % 7 } : Port).nextClass cs).1 == c).length = 2 ^ c)) ∧
  (∀ (p : Port) (now cls : Nat), p.allows now cls ≤ 512 - Claims.seqOffset p p.txSeq ∧
    (∀ n, Sparse.get none p.credits cls = some n → p.allows now cls ≤ n) ∧
    (cls = 3 → p.belled now + p.allows now cls ≤ max 512 (p.belled now)) ∧
    (0 < p.allows now cls ↔ Claims.seqOffset p p.txSeq < 512 ∧ Sparse.get none p.credits cls ≠ some 0 ∧ (cls = 3 → p.belled now < 512))) ∧
  (∀ (s t : State), s.transmit = some t → ∃ (x : Leaving) (r : Nat), x ∈ s.leaving ∧ t = s.launchOn x r ∧
    ∀ y ∈ s.leaving, y.die = x.die → y.port = x.port → y.parcel.cls = 3 → x.parcel.cls = 3) ∧
  (∀ (s : State) (x : Leaving), x ∈ s.leaving →
    let p := s.port x.die x.port
    p.state = .up ∧ p.wire = p.txSeq ∧ 0 < p.allows (flitTime (s.die 0).dtb) x.parcel.cls ∧
    (x.place = none → (x.parcel, x.flits) ∈ p.tails) ∧
    (∀ i, x.place = some i → s.fab.out[i]? = some x.parcel ∧ x.flits = flits x.parcel.msg ∧
      (∀ n, n < i → ∀ y, s.fab.out[n]? = some y → ¬ (y.die = x.parcel.die ∧ y.dst = x.parcel.dst ∧ y.cls = x.parcel.cls)) ∧
      (∀ y ∈ p.tails, y.1.cls ≠ x.parcel.cls) ∧
      (s.pathOf x.parcel = none → s.routeTo x.parcel.die x.parcel.dst = some (x.die, x.port)) ∧
      ∀ q, s.pathOf x.parcel = some q → q = (x.die, x.port))) ∧
  (∀ (s : State) (x : Leaving) (r : Nat),
    let p := s.port x.die x.port
    let k := min x.flits (p.allows (flitTime (s.die 0).dtb) x.parcel.cls)
    let t := s.launchOn x r
    let u := t.port x.die x.port
    let m : Parcel := { x.parcel with since := none }
    t.mem = s.mem ∧ u.txSeq = (p.txSeq + k) % 4096 ∧ u.wire = u.txSeq ∧ u.ackNext = p.ackNext ∧ u.round = r ∧
    t.fab.out = (match x.place with | some i => s.fab.out.eraseIdx i | none => s.fab.out) ∧
    (x.flits = k → u.sent = p.sent ++ [((p.txSeq + k + 4095) % 4096, m)] ∧ ∀ y ∈ u.tails, y.1.cls ≠ m.cls) ∧
    (k < x.flits → u.sent = p.sent ∧ (m, x.flits - k) ∈ u.tails) ∧
    (∀ n, Sparse.get none p.credits x.parcel.cls = some n → Sparse.get none u.credits x.parcel.cls = some (n - k)) ∧
    (x.parcel.cls = 3 → (flitTime (s.die 0).dtb, k) ∈ u.bell)) ∧
  (∀ s : State, s.leaving = [] → s.transmit = none) ∧
  (∀ (s : State) (dst : Nat) (m : Instr), s.send dst m = Claims.sending s s.me.die (msgClass m) dst m) ∧
  (∀ (s : State) (die dst k : Nat), k < 3 → (∀ i < k, s.fab.pkg / 4 ^ i % 4 = dst / 4 ^ i % 4) → s.fab.pkg / 4 ^ k % 4 ≠ dst / 4 ^ k % 4 →
    let near := if (dst / 4 ^ k % 4 + 4 - s.fab.pkg / 4 ^ k % 4) % 4 = 3 then 2 * k + 1 else 2 * k
    let far := if (dst / 4 ^ k % 4 + 4 - s.fab.pkg / 4 ^ k % 4) % 4 = 3 then 2 * k else 2 * k + 1
    let shut (j : Nat) : Prop := (s.port die j).state ≠ .up ∧ ∀ d < 8, (s.port d j).state ≠ .up
    let takes (j : Nat) : Prop := ((s.port die j).state = .up → s.routeTo die dst = some (die, j)) ∧
      ∀ d < 8, (s.port die j).state ≠ .up → (s.port d j).state = .up → (∀ e < d, (s.port e j).state ≠ .up) → s.routeTo die dst = some (d, j)
    takes near ∧ (shut near → takes far) ∧ (shut near → shut far → s.routeTo die dst = none))

/-- R341 to R344, R346: a port trains from DOWN, comes UP where the handshake names the right peer, retrains on a
lasting fault or where it is told to, and goes DOWN with every message that holds an unacknowledged flit back at the
head of those to be sent. An ACK frees the replay buffer up to its SEQ, a NAK makes the port replay from its SEQ, and
the second NAK of a SEQ after its replay makes it retrain; a retrain that succeeds replays from the first flit that
is not acknowledged. The receiver accepts flits in sequence, acknowledges with the thirty-second and refuses any
other, once, with the SEQ it expects. The model's own choices in it: a message keeps the SEQ of its last flit (logs
1, 76), and the hop delay that training measures is a free value (logs 8, 119). R341, R342, R345, R346: a port serves
the bellwether class before any other, within 512 flits in any 4096 flit times, and of seven turns that all three
bulk classes ask for gives class 2 four, class 1 two and class 0 one (log 104); it sends no more flits than its
replay buffer has room for and its peer has given credits for, and none while it has a replay to make. Messages of
one class from one die to one package leave in their order, over one path: the port of their own die in the direction
of the route where that is UP, else that of the lowest-numbered die, else the opposite direction. The die that a
message leaves from is the model's choice (log 119). -/
def Obligations.PortsAndTraffic : Prop := Claims.PortEvents ∧ Claims.TrafficClasses

/-- R153, R190, R286, R341, R345, R363: requests that another package sends are performed at their home and answered; an answer fills
what waits for it, here or with a fault by its status; a message that no route takes any more completes as unreachable. The model's own choices
in it: the numbers that the wire does not give (log 1), a late fault of a load (log 69), a lost store (log 70), a post caught or dropped
(log 94), operations that are tried again (log 103), and requests that pass on (log 119). -/
def Obligations.MessagesBetweenPackages : Prop :=
  (∀ (pa len tag src : Nat) (s : State),
    (paPkg pa ≠ s.fab.pkg → paPkg pa ∈ s.fab.domain →
      exec (.readRequest pa len tag src) s = .next (Claims.sending s (paDie pa) 0 (paPkg pa) (.readRequest pa len tag src))) ∧
    (paPkg pa = s.fab.pkg ∨ paPkg pa ∉ s.fab.domain → exec (.readRequest pa len tag src) s = .next (Claims.sending s (paDie pa) 0 src
      (if s.homeHere pa len then .readResponse tag 0 (Memory.bytes s.mem (s.key pa) len) else .readResponse tag 1 [])))) ∧
  (∀ (pa cls tag src ctx reg va : Nat) (bs : List Byte) (s : State), s.fab.wanted = none →
    let i := Instr.write pa cls tag src ctx reg va bs
    let answered (t : State) (status : Nat) : State :=
      (Claims.sending t (paDie pa) (min cls 3) src (.writeAck tag status)).forget (.event i)
    (pa < 2 ^ 52 → paPkg pa ≠ s.fab.pkg → paPkg pa ∈ s.fab.domain →
      exec i s = .next (Claims.sending s (paDie pa) (min cls 3) (paPkg pa) i)) ∧
    (pa < 2 ^ 60 → 2 ^ 52 ≤ pa ∨ paPkg pa = s.fab.pkg ∨ paPkg pa ∉ s.fab.domain →
      (s.homeHere pa bs.length = false → exec i s = .next (answered s 1)) ∧
      (s.homeHere pa bs.length = true → reg = 0 → exec i s = .next (answered (s.storeMem (s.key pa) bs) 0)) ∧
      (s.homeHere pa bs.length = true → reg ≠ 0 → exec i s = .next (Claims.acted s (.event i) fun s =>
        let r := s.regionWrite ctx reg va pa bs
        Claims.sending r.1 (paDie pa) (min cls 3) src (.writeAck tag (if r.2 then 3 else 0))))) ∧
    (2 ^ 60 ≤ pa →
      let c : Nat := (pa - 2 ^ 60) / 2 ^ 40
      let a : Nat := pa % 2 ^ 40
      let fits : Prop := (∃ t, (s.coreAt c).task = some t ∧ t.ctx = ctx) ∧ (s.coreAt c).inPool a bs.length = true
      (¬ fits → exec i s = .next (answered s 1)) ∧
      (fits → (s.coreAt c).id = c → ∃ t : State, exec i s = .next t ∧ t.mem = s.mem ∧
        t.fab.out = s.fab.out ++ [⟨min cls 3, src, .writeAck tag 0, none, paDie pa⟩] ∧
        ∀ k : Nat, Sparse.get 0 (t.coreAt c).loc.pool k = if a ≤ k ∧ k < a + bs.length then bs.getD (k - a) 0
          else Sparse.get 0 (s.coreAt c).loc.pool k))) ∧
  (∀ (pa op tag src : Nat) (x y : Word) (s : State),
    let does (t : State) : Prop := exec (.atomic pa op tag src x y) s = .next t
    let answered (t : State) (status : Nat) (old : Word) : Prop := does (Claims.sending t (paDie pa) 0 src (.atomicResponse tag status old))
    let old := leNat (s.homeBytes pa 8)
    let who := 256 + 64 * tag + src
    (paPkg pa ≠ s.fab.pkg → paPkg pa ∈ s.fab.domain → does (Claims.sending s (paDie pa) 0 (paPkg pa) (.atomic pa op tag src x y))) ∧
    (paPkg pa = s.fab.pkg ∨ paPkg pa ∉ s.fab.domain →
      s.homeHere pa (atomicWidth op) = false ∨ (12 < op ∧ op < 16) ∨ 64 ≤ op → answered s 1 0) ∧
    (s.homeHere pa (atomicWidth op) = true →
      (op < 10 → answered (s.storeMem (s.key pa) (leBytes 8 (amoOp op (w64 old) x y).toNat)) 0 (w64 old)) ∧
      (op = 10 → answered (s.storeMem (s.key pa) (leBytes 8 (min (old + x.toNat) (2 ^ 64 - 1)))) 0 0) ∧
      (op = 11 → does { s with fab := { s.fab with
        cwaits := s.fab.cwaits ++ [(pa, x.toNat, who)]
        cregions := if y.toNat % 2 ^ 12 = 0 then s.fab.cregions
          else s.fab.cregions ++ [(who, y.toNat % 2 ^ 12, y.toNat / 2 ^ 12 % 2 ^ 12)] } }) ∧
      (op = 12 → (∀ w ∈ s.fab.cwaits, w.2.2 ≠ 256 + 64 * y.toNat + src) →
        answered (s.storeMem (s.key pa) (leBytes 8 (min (old + x.toNat) (2 ^ 64 - 1)))) 0 0) ∧
      (op = 12 → (∃ w ∈ s.fab.cwaits, w.2.2 = 256 + 64 * y.toNat + src) → ∃ t : State, answered t 0 0 ∧ t.mem = s.mem ∧
        ∀ w ∈ t.fab.cwaits, w.2.2 ≠ 256 + 64 * y.toNat + src) ∧
      (16 ≤ op → op < 64 → answered (s.foldRequest pa op x y) 0 0))) ∧
  (∀ (tag k r : Nat) (s : State) (old v : Word) (em : Bool) (w : Waiting), s.awaiting tag = some s.core.id →
    s.core.waiting.findIdx? (fun w => w.holes.any fun h => h.tag == tag) = some k → s.core.waiting[k]? = some w →
    w.dst = [.g r v em] → w.holes = [{ tag := tag, off := 0, len := w.size }] → w.earliest ≤ s.core.seq.cyc →
    (∀ c, s.core.sy.cwait = some c → c.2.2 ≠ tag) → (∀ t, s.core.task = some t → t.ending = none) →
    (w.size = 8 → ∃ t : State, exec (.atomicResponse tag 0 old) s = .next t ∧ Sparse.get 0 t.core.sc.g r = old ∧
      t.core.waiting = s.core.waiting.eraseIdx k ∧ t.mem = s.mem ∧ (em = true → r ∉ t.core.sc.empty)) ∧
    ((∀ a ∈ s.fab.asks, a.tag ≠ tag) →
      (∀ bs, bs.length = w.size → ∃ t : State, exec (.readResponse tag 0 bs) s = .next t ∧
        Sparse.get 0 t.core.sc.g r = loaded w.signed bs ∧
        t.core.waiting = s.core.waiting.eraseIdx k ∧ t.mem = s.mem ∧ (em = true → r ∉ t.core.sc.empty)) ∧
      (∀ status bs, status = 1 ∨ status = 2 → s.core.seq.ext.isSome = true ∨ s.core.seq.targetOpen = true →
        (∀ x ∈ s.fe.slots, ∀ y ∈ x.2.tags, y.1 ≠ tag) → ∃ t : State,
        exec (.readResponse tag status bs) s = .next t ∧ t.core.waiting = s.core.waiting.eraseIdx k ∧ t.mem = s.mem ∧
        t.core.sc = { s.core.sc with empty := dropNat r s.core.sc.empty } ∧
        t.core.tr.late = s.core.tr.late ++ [(0x11, (if status = 2 then 2 else 0) * 2 ^ 28, 0, 0)]))) ∧
  (∀ (tag status c : Nat) (bs : List Byte) (s : State) (a : Ask), s.fab.asks.find? (fun a => a.tag == tag) = some a →
    a.va = none → a.who = .issue c → exec (.readResponse tag status bs) s = .next { s with fab := { s.fab with
      pending := s.fab.pending.filter fun p => p.1 != tag
      asks := s.fab.asks.map fun x => if x.tag == tag then { x with answer := some (status, bs) } else x } }) ∧
  (∀ (tag : Nat) (s : State), s.awaiting tag = none → exec (.writeAck tag 0) s = .next s) ∧
  (∀ (tag : Nat) (s : State), s.awaiting tag = some s.core.id → (∀ t, s.core.task = some t → t.ending = none) →
    ∃ t : State, exec (.writeAck tag 0) s = .next t ∧ t.mem = s.mem ∧ tag ∉ t.core.loc.remote ∧ tag ∉ t.core.loc.remoteNt ∧
      (∀ c ∈ t.core.eng.qm ++ t.core.eng.q0 ++ t.core.eng.q1 ++ t.core.eng.qv, tag ∉ c.tags) ∧
      (∀ k ∈ t.fe.kernels, tag ∉ k.tags) ∧ t.core.sc = s.core.sc) ∧
  (∀ (tag status p idx : Nat) (s : State), status ≠ 0 → (tag, some idx) ∈ (s.slot p).tags → (s.slot p).state = .active →
    ((s.settleTag tag status).slot p).state = .error ∧ ((s.settleTag tag status).slot p).errcode = 3) ∧
  (∀ (k : Nat) (s : State), s.fab.out[k]? = none → exec (.routeHoldTimeout k) s = .next s) ∧
  (∀ (k : Nat) (s : State) (m : Parcel), s.fab.out[k]? = some m →
    ((s.routeTo m.die m.dst).isSome = true → exec (.routeHoldTimeout k) s = .next s) ∧
    (s.routeTo m.die m.dst = none → exec (.routeHoldTimeout k) s = .next (Claims.acted s .crook fun s =>
      ({ s with fab := { s.fab with out := s.fab.out.eraseIdx k } } : State).unreachable m.dst m.msg)))

/-- R22, R224, R396: the first synchronisation sets a die's DTB to the time of the message and the hop delay of the port; later ones slew it by what it is off, and two within 20 ns
end the state in which leases are 0; a deviation above 100 ns drops every translation and is told to the die's tasks. The time master's D0 is the
reference and is not moved. The model's own choices in it: what SKEWCNT counts and which message is the first good one (logs 73, 74), how the time goes from D0 to the other dies (log 75), and
the measured hop delay (log 119). -/
def Obligations.TimeBase : Prop :=
  (∀ (m : SyncMessage) (s : State), (∀ p ∈ s.fab.domain, s.fab.pkg ≤ p) → exec (.dtbSynchronisation 0 m) s = .next s) ∧
  (∀ (d : Nat) (m : SyncMessage) (s : State), d ≠ 0 ∨ (∃ p ∈ s.fab.domain, p < s.fab.pkg) → (s.die d).set = false →
    ∃ u : State, exec (.dtbSynchronisation d m) s = .next u ∧
    u = { s with dies := u.dies } ∧ (u.die d).dtb = m.dtb + (s.port d m.port).delay ∧ (u.die d).set = true ∧ (u.die d).good = 0 ∧
    (u.die d).slew = 0 ∧ (u.die d).hops = m.hops + 1) ∧
  (∀ (d : Nat) (m : SyncMessage) (s : State), d ≠ 0 ∨ (∃ p ∈ s.fab.domain, p < s.fab.pkg) → (s.die d).set = true →
    let off : Int := ((s.die d).dtb : Int) - (m.dtb + (s.port d m.port).delay : Nat)
    ∃ u : State, exec (.dtbSynchronisation d m) s = .next u ∧ u.mem = s.mem ∧ (u.die d).dtb = (s.die d).dtb ∧ (u.die d).slew = -off ∧
      (u.die d).hops = m.hops + 1 ∧
      (off.natAbs ≤ 20 → (u.die d).good = min 2 ((s.die d).good + 1) ∧ u.core = s.core ∧
        (1 ≤ (s.die d).good → (u.die d).lease0 = false)) ∧
      (20 < off.natAbs → (u.die d).good = 0 ∧ (u.die d).lease0 = true) ∧
      (20 < off.natAbs → off.natAbs ≤ 100 → u.core = s.core ∧ (u.die d).skew = min ((s.die d).skew + 1) (2 ^ 32 - 1)) ∧
      (100 < off.natAbs → (u.die d).tlb = [] ∧ (s.core.id / 32 = d → u.core.loc.tlb = [] ∧ (∀ h, (u.core.handle h).tr = none) ∧
        (∀ c ∈ u.core.eng.qm ++ u.core.eng.q0 ++ u.core.eng.q1 ++ u.core.eng.qv, c.pages = []) ∧
        (s.host.stage = 7 → s.core.task.isSome = true → u.core.tr.skew = some off)))) ∧
  (∀ (d : Nat) (s : State), (s.die d).set = true → d ≠ 0 → (∀ j < 6, (s.port d j).state ≠ .up) → exec (.syncResend d) s = .next s) ∧
  (∀ (d : Nat) (s : State), (s.die d).set = false → exec (.syncResend d) s = .next s) ∧
  (∀ (d : Nat) (s : State), (s.die d).set = true → d ≠ 0 → (s.port d 0).state = .up → (∀ j, 0 < j → j < 6 → (s.port d j).state ≠ .up) →
    exec (.syncResend d) s = .next (Claims.sending s d 3 (s.port d 0).peerPkg
      (.dtbSynchronisation (s.port d 0).peerDie ⟨(s.port d 0).peerPort, (s.die d).dtb, (s.die d).hops⟩)))

/-- R190, R350 to R353, R358 to R361: what the ring sequencers do with a message of an instance: partials and results wait for
their chunk, ARMED changes nothing but, after a cold reset, ends the FAIL answers for its region; DONE is noted, and the last one makes a LOCALDONE region IDLE and arms the next instance of a PENDING
one; a DONE for an instance that is still to be armed counts once it is; FAIL fails the instance, ABORT clears it and is
answered, and the last ABORT-ACK makes the region IDLE; a chunk launches at its first member once its mask is full, and a staging
tile arrives once; every message of an instance that a reset has taken away is answered FAIL. The model's own choices in it: duplicates in IDLE (log 39), sparse density and the words of a partial (logs 78, 79),
an ABORT without a route (log 80), the die of a ring comparison (log 81), the counter after NEXTREG (log 91), instances at the end of a kernel
(log 111), which instances an ABORT ends (log 124), and operations that are tried again (log 103). -/
def Obligations.RingEvents : Prop :=
  (∀ (id inst chunk tile hop : Nat) (dense : Bool) (vals : List Word) (bs : List Byte) (pkg : Nat) (s : State),
    let ms := [Instr.ringPartial id inst chunk tile hop dense vals, .ringResult id inst chunk tile bs, .armed id inst pkg]
    let answered (i : Instr) : Prop := ∃ t : State, exec i s = .next t ∧ t.mem = s.mem ∧ t.fab.parked = s.fab.parked ∧
      t.fab.out = s.fab.out ++ Claims.memberReset s id inst ∧ Sparse.get none t.fab.refused id = some inst
    let taken : Prop := exec (.ringResult id inst chunk tile bs) s =
        .next { s with fab := { s.fab with parked := s.fab.parked ++ [.ringResult id inst chunk tile bs] } } ∧
      ((∀ r ∈ s.fab.past, ¬ (r.id = id ∧ r.inst = inst)) → exec (.ringPartial id inst chunk tile hop dense vals) s =
        .next { s with fab := { s.fab with parked := s.fab.parked ++ [.ringPartial id inst chunk tile hop dense vals] } }) ∧
      ((∃ r ∈ s.fab.past, r.id = id ∧ r.inst = inst) → exec (.ringPartial id inst chunk tile hop dense vals) s = .next s)
    let strange : Prop := id ∉ s.fab.known ∧ ∀ r ∈ s.fab.regions, r.id ≠ id
    (s.fab.coldLost = false → (id, inst) ∉ s.fab.lost → taken ∧ exec (.armed id inst pkg) s = .next s) ∧
    (s.fab.coldLost = true → ¬ strange → (id, inst) ∉ s.fab.lost → taken ∧
      exec (.armed id inst pkg) s = .next { s with fab := { s.fab with known := insertNat id s.fab.known } }) ∧
    (s.fab.coldLost = false → (id, inst) ∈ s.fab.lost → ∀ i ∈ ms, answered i) ∧
    (s.fab.coldLost = true → strange → Sparse.get none s.fab.refused id = none ∨ Sparse.get none s.fab.refused id = some inst →
      ∀ i ∈ ms, answered i) ∧
    (s.fab.coldLost = true → strange → ∀ n, Sparse.get none s.fab.refused id = some n → n ≠ inst →
      exec (.armed id inst pkg) s = .next { s with fab := { s.fab with known := insertNat id s.fab.known } })) ∧
  (∀ (id inst pkg : Nat) (s : State), s.fab.wanted = none → s.fab.coldLost = false → (id, inst) ∉ s.fab.lost →
    let i := Instr.done id inst pkg
    (s.heldBy id inst = none →
      ((∃ r ∈ s.fab.past, r.id = id ∧ r.inst = inst) → exec i s = .next (s.forget (.event i))) ∧
      ((∀ r ∈ s.fab.past, ¬ (r.id = id ∧ r.inst = inst)) → exec i s =
        .next (({ s with fab := { s.fab with early := s.fab.early ++ [(id, inst, pkg)] } } : State).forget (.event i)))) ∧
    (∀ r d, s.heldBy id inst = some r →
      let q : Region := { r with done := insertNat pkg r.done }
      let note (s : State) : State := s.onHeld r.ctx id fun _ => q
      (note (reading s (.event i))).desc r.ctx id = .ok d →
      exec i s = .next (acted s (.event i) fun s => (note s).allDone d q) ∧
      ((∃ m ∈ d.members, m ≠ pkg ∧ m ∉ r.done) → exec i s = .next ((note s).forget (.event i))) ∧
      ((∀ m ∈ d.members, m = pkg ∨ m ∈ r.done) → d.rstate = 2 →
        ((note (reading s (.event i))).setRegionState d r.inst 0 0 0).fab.wanted = none →
        ∃ t : State, exec i s = .next t ∧ t.held r.ctx id = none ∧ t.fab.out = s.fab.out ∧ q ∈ t.fab.past) ∧
      ((∀ m ∈ d.members, m = pkg ∨ m ∈ r.done) → d.rstate = 3 →
        exec i s = .next (acted s (.event i) fun s => (note s).armRegion { d with inst := r.inst } (r.next.getD r.kern))))) ∧
  (∀ (d : Desc) (kern : Nat) (s : State) (r : Region), (s.armRegion d kern).held d.ctx d.id = some r →
    r.inst = (d.inst + 1) % 256 ∧ r.kern = kern ∧ r.acks = [] ∧ r.chunks = [] ∧ r.results = [] ∧
    (∀ p, p ∈ r.done ↔ (d.id, (d.inst + 1) % 256, p) ∈ s.fab.early) ∧
    d.id ∈ (s.armRegion d kern).fab.known ∧ ∀ n, (d.id, n) ∉ (s.armRegion d kern).fab.lost) ∧
  (∀ (id inst pkg cause reason : Nat) (s : State), s.fab.wanted = none →
    let i := Instr.fail id inst pkg cause reason
    let u := reading s (.event i)
    (s.heldBy id inst = none → exec i s = .next (s.forget (.event i))) ∧
    (∀ r d, s.heldBy id inst = some r → u.desc r.ctx id = .ok d →
      exec i s = .next (acted s (.event i) fun s => s.regionFail d cause reason false) ∧
      (s.held r.ctx id = some r → d.rstate = 1 ∨ d.rstate = 2 ∨ d.rstate = 3 → cause < 256 →
        (u.setRegionState d r.inst 4 cause reason).fab.wanted = none →
        ∃ t : State, exec i s = .next t ∧ t.held r.ctx id = none ∧ t.fab.out = s.fab.out ∧ (∀ m ∈ t.fab.parked, ringOf m ≠ some (id, inst)) ∧
          t.mem = (u.setRegionState d r.inst 4 cause reason).mem))) ∧
  (∀ (id inst pkg : Nat) (s : State), s.fab.wanted = none →
    let i := Instr.ringAbort id inst pkg
    let u := (reading s (.event i)).unpark id inst
    let answered (t : State) : Prop := exec i s = .next t ∧
      t.fab.out = s.fab.out ++ [⟨3, pkg, .abortAck id inst s.fab.pkg, none, 0⟩] ∧ ∀ m ∈ t.fab.parked, ringOf m ≠ some (id, inst)
    (u.regionCtx id = none → ∃ t : State, answered t ∧ t.mem = s.mem ∧ t.fab.regions = s.fab.regions) ∧
    (∀ ctx, u.regionCtx id = some ctx →
      (∀ d, u.desc ctx id = .ok d →
        let now := match u.held ctx id with | some r => r.inst | none => d.inst
        let ends : Prop := now = inst ∨ (u.held ctx id = none ∧ (now + 1) % 256 = inst)
        let v := (u.clearRegion d).setRegionState d now 0 0 0
        (¬ ends → ∃ t : State, answered t ∧ t.mem = s.mem ∧ t.fab.regions = s.fab.regions) ∧
        (ends → v.fab.wanted = none → ∃ t : State, answered t ∧ t.held ctx id = none ∧ t.mem = v.mem) ∧
        (∀ x, ends → v.fab.wanted = some x → exec i s = .next ((s.askOnce (.event i) x.1 x.2.1 x.2.2).getD s))) ∧
      (∀ e, u.desc ctx id = .error e → isLack e.cause = false →
        ∃ t : State, answered t ∧ t.held ctx id = none ∧ t.mem = s.mem) ∧
      (∀ e, u.desc ctx id = .error e → isLack e.cause = true →
        exec i s = .next ((s.askOnce (.event i) (lackVa e.va) (e.cause - 256) e.reason).getD s)))) ∧
  (∀ (id inst pkg : Nat) (s : State), s.fab.wanted = none →
    let i := Instr.abortAck id inst pkg
    (s.heldBy id inst = none → exec i s = .next (s.forget (.event i))) ∧
    (∀ r d, s.heldBy id inst = some r →
      let q : Region := { r with acks := insertNat pkg r.acks }
      let note (s : State) : State := s.onHeld r.ctx id fun _ => q
      (note (reading s (.event i))).desc r.ctx id = .ok d →
      (d.rstate ≠ 5 ∨ (∃ m ∈ d.members, m ≠ pkg ∧ m ∉ r.acks) → exec i s = .next ((note s).forget (.event i))) ∧
      (d.rstate = 5 → (∀ m ∈ d.members, m = pkg ∨ m ∈ r.acks) →
        ((note (reading s (.event i))).setRegionState d r.inst 0 0 0).fab.wanted = none →
        ∃ t : State, exec i s = .next t ∧ t.held r.ctx id = none ∧ t.fab.out = s.fab.out))) ∧
  (∀ (id chunk : Nat) (s : State), (∀ r ∈ s.fab.regions, r.id ≠ id) → exec (.chunkLaunch id chunk) s = .next s) ∧
  (∀ (id chunk : Nat) (s : State) (r : Region), s.fab.regions.find? (fun r => r.id == id) = some r →
    let who := Reader.region r.ctx id
    let u := reading s who
    (u.armedRegion r = none → exec (.chunkLaunch id chunk) s = .next s) ∧
    (∀ d, u.armedRegion r = some d →
      (u.mayLaunch d r chunk = false → exec (.chunkLaunch id chunk) s = .next s) ∧
      (u.mayLaunch d r chunk = true → chunk < d.nchunk ∧ chunk ∉ r.chunks ∧ (d.mode = 2 ∨ d.mypos = chunk % d.nm) ∧ u.maskFull d chunk = true ∧
        exec (.chunkLaunch id chunk) s = .next (acted s who fun s =>
        ringTry d (if d.mode = 2 then s.ringHalo d r.inst chunk else s.ringStart d r.inst chunk)))) ∧
    ∀ (d : Desc) (t : State) (c n : Nat), ringTry d (.ok ((), t)) = t.doneHere d ∧
      ringTry d (.error (c, n, t)) = t.regionFail d c n true) ∧
  (∀ (id tile ctx : Nat) (s : State) (d : Desc) (m : Nat), s.fab.wanted = none →
    let i := Instr.stagingArrival id tile
    let u := reading s (.event i)
    u.regionCtx id = some ctx → u.desc ctx id = .ok d → u.maskOf d (tile / d.tpc) = .ok m →
    (bit m (tile % d.tpc) = true ∨ s.regionState d = 4 ∨ s.regionState d = 5 ∨ d.nchunk * d.tpc ≤ tile →
      exec i s = .next (s.forget (.event i))) ∧
    (bit m (tile % d.tpc) = false → s.regionState d ≠ 4 → s.regionState d ≠ 5 → tile < d.nchunk * d.tpc →
      exec i s = .next (acted s (.event i) fun s => tryState s (s.arrived d tile)) ∧
      ∀ t, u.arrived d tile = .ok t → t.fab.wanted = none → exec i s = .next (back s t (.event i)))) ∧
  (∀ (id tile : Nat) (s : State), s.fab.wanted = none →
    (reading s (.event (.stagingArrival id tile))).regionCtx id = none →
    exec (.stagingArrival id tile) s = .next (s.forget (.event (.stagingArrival id tile))))

/-! ### The host's side and the boot (R8, R207, R362 to R364, R387 to R399) -/

/-- R207, R350, R362, R364, R393, R394, R399: the two windows read and write HBM at its home once the device is READY; before, a read gets a
Completer Abort and a write is discarded. An AtomicOp of 4 or 8 aligned bytes answers the old value and stores the new. A write of a staging tile arrives or is diverted there as any other; every other write
stores its bytes. A relaxed read whose bytes the read-ahead buffer does not hold answers what an ordered one answers; which one answers
otherwise is a free value. A read of BAR 0 answers the register, and bit 2 of byte 4 of configuration space is Bus Master. The model's own choices in it: free values (log 8), what a failed stack or an AtomicOp before READY answers (log 84), how much is read ahead (log 87), which writes are a region's (log 123), and
the numbers from which an ordered access is one of BAR 0 or of configuration space (log 121). -/
def Obligations.HostAccesses : Prop :=
  (∀ (off : Nat) (s : State),
    let pa := s.fab.pkg * 2 ^ 46 + off % 2 ^ 41
    let answered (k : Nat) (bs : List Byte) (t : State) : State := { t with host := { t.host with answers := (k, bs) :: t.host.answers } }
    (∀ n, s.host.stage = 7 → s.windowOk off n = true →
      exec (.hostOrderedRead off n) s = .next (answered 0 (Memory.bytes s.mem pa n) s)) ∧
    (∀ n, s.host.stage = 7 → s.windowOk off n = false → off < 2 ^ 42 → exec (.hostOrderedRead off n) s = .next (answered 2 [] s)) ∧
    (∀ n, s.host.stage = 7 → s.windowOk off n = false → exec (.hostRelaxedRead off n) s = .next (answered 2 [] s)) ∧
    (∀ n, s.host.stage ≠ 7 → (off < 2 ^ 42 → exec (.hostOrderedRead off n) s = .next (answered 1 [] s)) ∧
      exec (.hostRelaxedRead off n) s = .next (answered 1 [] s)) ∧
    (∀ bs : List Byte, s.host.stage = 7 → s.windowOk off bs.length = true →
      exec (.hostOrderedWrite off bs) s = .next (s.landAt pa bs).1 ∧ exec (.hostRelaxedWrite off bs) s = .next (s.landAt pa bs).1) ∧
    (∀ bs : List Byte, s.host.stage ≠ 7 ∨ s.windowOk off bs.length = false →
      (off < 2 ^ 43 → exec (.hostOrderedWrite off bs) s = .next s) ∧ exec (.hostRelaxedWrite off bs) s = .next s) ∧
    (∀ n, s.host.stage = 7 → s.windowOk off n = true → s.host.buffered off n = none → ∃ t : State,
      exec (.hostRelaxedRead off n) s = .next t ∧ t = { s with host := t.host } ∧
      t.host.answers = (0, Memory.bytes s.mem pa n) :: s.host.answers) ∧
    (∀ n bs, s.host.stage = 7 → s.windowOk off n = true → s.host.buffered off n = some bs → ∃ t : State,
      exec (.hostRelaxedRead off n) s = .next t ∧ t.mem = s.mem ∧
      (t.host.answers = (0, bs) :: s.host.answers ∨ t.host.answers = (0, Memory.bytes s.mem pa n) :: s.host.answers)) ∧
    (∀ (op size : Nat) (x y : Word), s.host.stage = 7 → size = 4 ∨ size = 8 → off % size = 0 → s.windowOk off size = true →
      let old := leNat (Memory.bytes s.mem pa size)
      let bs := leBytes size ((if op = 0 then old + x.toNat else if op = 1 then x.toNat
        else if old = x.toNat % 2 ^ (8 * size) then y.toNat else old) % 2 ^ (8 * size))
      exec (.hostAtomicop off op size x y) s = .next (answered 0 (Memory.bytes s.mem pa size) (s.landAt pa bs).1) ∧
      (s.stagedAt pa = none → exec (.hostAtomicop off op size x y) s = .next (answered 0 (Memory.bytes s.mem pa size)
        { s with mem := Memory.store s.mem pa bs }))) ∧
    (∀ (op size : Nat) (x y : Word), s.host.stage ≠ 7 → exec (.hostAtomicop off op size x y) s = .next (answered 1 [] s)) ∧
    (∀ (op size : Nat) (x y : Word), s.host.stage = 7 → (size ≠ 4 ∧ size ≠ 8) ∨ off % size ≠ 0 →
      exec (.hostAtomicop off op size x y) s = .next (answered 2 [] s))) ∧
  (∀ (pa : Nat) (bs : List Byte) (s : State), bs ≠ [] →
    (pa % 64 + bs.length ≤ 64 → s.stagedAt pa = none → s.landAt pa bs = ({ s with mem := Memory.store s.mem pa bs }, false)) ∧
    (pa % 64 + bs.length ≤ 64 → ∀ x, s.stagedAt pa = some x → s.landAt pa bs = s.stagingLine x.1 x.2 bs) ∧
    ((∀ c ∈ s.crook.ctx, c.2.state = .free) → (s.landAt pa bs).2 = false ∧ (∀ a, Memory.byte (s.landAt pa bs).1.mem a =
      if pa ≤ a ∧ a < pa + bs.length then bs.getD (a - pa) 0 else Memory.byte s.mem a))) ∧
  (∀ (off : Nat) (s : State), off < 2 ^ 26 → off % 8 = 0 →
    let o := off % 0x800000
    ¬ (0x20000 ≤ o ∧ o < 0x20400 ∧ o % 32 = 24) → ∃ t : State, exec (.hostOrderedRead (2 ^ 42 + off) 8) s = .next t ∧
      t = { s with host := { s.host with answers := (0, leBytes 8 (s.register off)) :: s.host.answers, portsRead := t.host.portsRead } } ∧
      ∀ j, j ∈ t.host.portsRead ↔ j ∈ s.host.portsRead ∨ (0x10000 ≤ o ∧ o < 0x100C0 ∧ o % 32 = 0 ∧ j = 6 * (off / 0x800000) + (o - 0x10000) / 32)) ∧
  (∀ (b : Byte) (s : State), exec (.hostOrderedWrite (2 ^ 43 + 4) [b]) s = .next { s with host := { s.host with master := b.getLsbD 2 } })

/-- R8, R276, R282, R344, R387, R394, R397 to R399: writes of device registers, the power limit of the board, SAVEBASE, the fuse and the
answers of management, the measurements among them. What a sensor reads and what SPDM answers are free values. The model's own choices in it: free values
(logs 7, 8), the fuse only grows (log 86), a limit beyond the largest is taken as that (log 85). -/
def Obligations.RegistersAndManagement : Prop :=
  (∀ (v : Word) (s : State), ∃ t : State, exec (.savebase v) s = .next t ∧ t = { s with host := t.host } ∧
    (s.host.saveSet = true → t = s) ∧ (s.host.saveSet = false → t.host.savebase = v ∧ t.host.saveSet = true)) ∧
  (∀ (w n : Nat) (s : State),
    (s.host.board = none → exec (.powerLimit w) s = .next { s with host := { s.host with power := min w 5400 } }) ∧
    (∀ b, s.host.board = some b → exec (.powerLimit w) s = .next { s with host := { s.host with power := min w b } }) ∧
    exec (.svncommit n) s = .next { s with host := { s.host with fuse := max s.host.fuse (n % 2 ^ 32) } }) ∧
  (∀ (off : Nat) (v : Word) (s : State), off % 8 ≠ 0 → exec (.registerWrite off v) s = .next s) ∧
  (∀ (v : Word) (d : Nat) (s : State), d < 8 →
    exec (.registerWrite (0x800000 * d) v) s = .next (s.onDie d fun x => { x with corr := v.toNat % 2 ^ 32 }) ∧
    exec (.registerWrite (0x800000 * d + 8) v) s = .next (s.onDie d fun x => { x with regen := v.toNat % 2 ^ 32 }) ∧
    exec (.registerWrite (0x800000 * d + 0x1000) v) s = .next s) ∧
  (∀ (v : Word) (d j : Nat) (s : State), d < 8 → j < 6 →
    let o := 0x800000 * d + 0x10000 + 32 * j
    exec (.registerWrite (o + 8) v) s = .next (s.onPort d j fun p =>
      { p with replay := v.toNat / 2 ^ 32, retrain := v.toNat / 2 ^ 16 % 2 ^ 16, downs := v.toNat % 2 ^ 16 }) ∧
    (v.getLsbD 1 = false → exec (.registerWrite (o + 16) v) s = exec (.en d j (v.getLsbD 0)) s) ∧
    exec (.registerWrite o v) s = .next s ∧ exec (.registerWrite (o + 24) v) s = .next s) ∧
  (∀ (v : Word) (p w : Nat) (s : State), p < 64 → w < 4 →
    exec (.registerWrite (0x102000 + 32 * p + 8 * w) v) s = .next (
      if w = 0 then s.onSlot p fun x => { x with sqcb := w64 (v.toNat / 2 ^ 7 % 2 ^ 45 * 2 ^ 7) }
      else if w = 1 then s.onSlot p fun x => { x with rqctx := v.toNat / 2 ^ 12 % 2 ^ 12, rqprio := v.toNat / 2 ^ 8 % 2 ^ 3, status := if v.toNat % 2 ^ 4 = 0 then x.status else 0, req := if v.toNat % 2 ^ 4 = 0 then x.req else v.toNat % 2 ^ 4 }
      else s)) ∧
  (∀ (v : Word) (k : Nat) (s : State), k < 128 →
    exec (.registerWrite (0x100000 + 8 * k) v) s = .next { s with crook := { s.crook with mail := Sparse.set 0 s.crook.mail k v } }) ∧
  (∀ (v : Word) (s : State), exec (.registerWrite 0x30028 v) s = .next { s with host := { s.host with hwbase := v, hwSet := true } }) ∧
  (∀ (n : Nat) (s : State), ∃ t : State, exec (.pldmSensorRead n) s = .next t ∧ t = { s with host := t.host, free := s.free + 1 } ∧
    ∃ bs : List Byte, bs.length = 4 ∧ t.host = { s.host with answers := (0, bs) :: s.host.answers }) ∧
  (∀ (nonce : List Byte) (i : Instr) (s : State),
    i ∈ [Instr.getVersion, .getCapabilities, .negotiateAlgorithms, .getDigests, .getCertificate, .challenge nonce, .getMeasurements] →
    ∃ bs : List Byte, exec i s = .next { s with host := { s.host with spdm := s.host.spdm + 1, answers := (0, bs) :: s.host.answers } }) ∧
  (∀ s : State, ∃ maps : List Byte, s.measurements = [Config.romDigest, s.host.digest, leBytes 4 s.host.svn ++ leBytes 4 s.host.fuse, maps])

/-- R358, R389 to R393, R398: a reset sends FAIL for every region instance that the ring sequencers hold, while its ports are still UP,
drops all work, keeps the repair and retired-core maps, the fuse and what lies outside
this package, and begins the boot; a cold reset loses HBM and the DTB; only RESETPKG keeps the ports' training. An image is accepted where both its signatures pass and its SVN is not below the fuse, and RECOVER
takes a good image of the window. The model's own choices in it: what passes is a constant without a body of the bytes (log 7), the layout of
the header (log 120), RECOVER elsewhere than in RECOVERY (log 82), and that answers outlive a reset (log 88). -/
def Obligations.Resets : Prop :=
  (∀ (i : Instr) (s : State), i ∈ [Instr.coldReset, .warmReset, .resetpkg] → ∃ t : State, exec i s = .next t ∧
    t.core = { id := s.core.id } ∧ t.others = [] ∧ t.host.stage = 0 ∧ t.host.fuse = s.host.fuse ∧ t.host.saveSet = false ∧
    t.host.hwSet = false ∧ t.host.master = false ∧ t.host.portsRead = [] ∧ t.host.power = s.host.board.getD 5400 ∧
    t.host.flash = s.host.flash ∧ t.host.ecdsaKey = s.host.ecdsaKey ∧ t.host.lmsKey = s.host.lmsKey ∧
    t.crook.retired = s.crook.retired ∧ t.crook.ctx = [] ∧ t.fe.kernels = [] ∧ t.fe.slots = [] ∧ t.fe.saved = [] ∧
    t.fe.latch = [] ∧ t.fab.regions = [] ∧ t.fab.pending = [] ∧ t.fab.out = [] ∧ t.fab.pkg = s.fab.pkg ∧
    (s.clusters.Pairwise (fun a b => a.1 ≠ b.1) → ∀ k, (t.cluster k).rows = (s.cluster k).rows ∧ (t.cluster k).cols = (s.cluster k).cols ∧
      (t.cluster k).failed = (s.cluster k).failed ∧ (t.cluster k).holder = none)) ∧
  (∀ s : State, s.fab.regions = [] → s.dies.Pairwise (fun a b => a.1 ≠ b.1) → ∃ t u v : State,
    exec .coldReset s = .next t ∧ exec .warmReset s = .next u ∧ exec .resetpkg s = .next v ∧ u.mem = s.mem ∧ v.mem = s.mem ∧
    (Memory.wf s.mem = true → ∀ a, Memory.byte t.mem a = if a < 2 ^ 52 ∧ paPkg a = s.fab.pkg then 0 else Memory.byte s.mem a) ∧
    (∀ d, (t.die d).dtb = 0 ∧ (u.die d).dtb = (s.die d).dtb ∧ (v.die d).dtb = (s.die d).dtb) ∧
    (∀ d j, (v.port d j).state = (s.port d j).state ∧ (u.port d j).state = (Port.state {}))) ∧
  (∀ (s : State) (r : Region) (d : Desc) (p e j : Nat), s.fab.regions = [r] → s.desc r.ctx r.id = .ok d →
    d.rstate = 1 ∨ d.rstate = 2 ∨ d.rstate = 3 → d.members = [s.fab.pkg, p] → p ≠ s.fab.pkg → s.routeTo 0 p = some (e, j) →
    s.dies.Pairwise (fun a b => a.1 ≠ b.1) → (s.port e j).wire = (s.port e j).txSeq →
    0 < (s.port e j).allows (flitTime (s.die 0).dtb) 3 →
    (∀ k < 8, ∀ x ∈ (s.die k).ports, ∀ m ∈ x.2.sent, ¬ (m.2.die = 0 ∧ m.2.cls = 3 ∧ m.2.dst = p)) →
    ∃ v : State, exec .resetpkg s = .next v ∧ ∃ q, (q, ⟨3, p, .fail d.id r.inst s.fab.pkg 0x11 5, none, 0⟩) ∈ (v.port e j).sent) ∧
  (∀ s : State,
    (s.host.stage ≠ 2 → exec .recover s = .next s) ∧
    (s.host.stage = 2 → let x : Flash := { readable := true, bytes := s.host.window }
      (s.host.verdict x = 0 → exec .recover s = .next { s with host := { s.host with flash := x, stage := 1 } }) ∧
      (s.host.verdict x ≠ 0 → exec .recover s = .next { s with host := { s.host with err := s.host.verdict x } }))) ∧
  (∀ s : State, s.host.stage = 1 →
    (s.host.verdict s.host.flash = 0 → ∃ t : State, s.bootNext = some t ∧ t = { s with host := t.host } ∧ t.host.stage = 3 ∧ t.host.err = 0 ∧
      t.host.svn = leNat (Sparse.read 0 s.host.flash.bytes 8 4) ∧ t.host.fuse = s.host.fuse) ∧
    (s.host.verdict s.host.flash ≠ 0 → s.bootNext = some { s with host := { s.host with stage := 2, err := s.host.verdict s.host.flash } })) ∧
  (∀ (h : HostSide) (x : Flash),
    let f := x.bytes
    let ecdsa := Config.ecdsaPasses h.ecdsaKey (imageBytes f) (Sparse.read 0 f 4096 96)
    let lms := Config.lmsPasses h.lmsKey (imageBytes f) (Sparse.read 0 f 4192 2508)
    let svn := leNat (Sparse.read 0 f 8 4)
    (h.verdict x = 0 ↔ x.readable = true ∧ imageFormed f = true ∧ ecdsa = true ∧ lms = true ∧ h.fuse ≤ svn) ∧
    (x.readable = false → h.verdict x = 4) ∧ (x.readable = true → imageFormed f = false ∨ ecdsa = false → h.verdict x = 1) ∧
    (x.readable = true → imageFormed f = true → ecdsa = true → lms = false → h.verdict x = 2) ∧
    (x.readable = true → imageFormed f = true → ecdsa = true → lms = true → svn < h.fuse → h.verdict x = 3))
/-! ### The step (R56, R57, R59, R79) -/

namespace Sys2Proof.Claims

/-- A word of slot `k` alone in a bundle, NOP in the other slots. -/
def only (k : Nat) (w : SlotWord) : Nat := w.toNat * 2 ^ (32 * k)

/-- Nothing that R59 checks before execution, R64 or R94 stops instruction `i` of slot `k`: an EXT prefix stands only
before an S-slot word that takes one, no pipelined loop runs, no V register number exceeds 159, the mode may run it, it is
no NOP, and in a delay bundle it is no K-slot instruction but SEGB. -/
def Plain (k : Nat) (w : SlotWord) (i : Instr) (s : State) : Prop :=
  k < 8 ∧ decodeSlot k w = some i ∧ (s.core.seq.ext = none ∨ (k = 1 ∧ takesExt w.toNat = true)) ∧
  s.core.lp.pv = false ∧ SlotIn.badReg ⟨k, w.toNat, some i, false⟩ = false ∧
  (privileged i = false ∨ s.core.tr.mlvl = true) ∧ i ≠ .nop ∧ (k = 0 → s.core.seq.xfer = none ∨ ∃ g, i = .segb g)

/-- The lists of empty registers are rising. -/
def EmptiesRise (c : Core) : Prop := c.sc.empty.Pairwise (· < ·) ∧ c.vec.empty.Pairwise (· < ·)

/-- What the bundle's slot `t` did from `s`, as the bundle leaves it: what was empty stays empty, and a token or a handle is
as the slot left it. -/
def joined (s t : State) : State :=
  t.onCore fun d => { d with
    st := { d.st with h := joinHandles s.core.st.h d.st.h s.core.st.h }
    sc := { d.sc with empty := unionNat s.core.sc.empty d.sc.empty }
    vec := { d.vec with empty := unionNat s.core.vec.empty d.vec.empty }
    eng := { d.eng with tok := joinTokens s.core.eng.tok d.eng.tok s.core.eng.tok } }

/-- The sequencer of a bundle that takes effect: a prefix that stood before it is used up. -/
def begun (q : Seq) : Seq := { q with lastCyc := q.cyc, iwait := false, ext := none }

/-- The same with instruction `i` in the bundle: the prefix of an EXT stands. -/
def begunWith (i : Instr) (q : Seq) : Seq :=
  { begun q with ext := match i with | .ext _ => q.ext | _ => none }

/-- A BARV of the bundle waits at its barrier in `s`. -/
def WaitsAt (i : Instr) (s : State) : Prop := ∃ b, i = .barv b ∧ s.core.waitsAt b.toNat = true

/-- What a held slot other than Y leaves of its attempt `t`: what it sent, and the translations that it walked for (R218). -/
def walked (s t : State) : State :=
  ({ s with fab := t.fab }.onDie (s.core.id / 32) fun x => { x with tlb := (t.die (s.core.id / 32)).tlb }).onCore fun c =>
    { c with loc := { c.loc with tlb := t.core.loc.tlb, victims := t.core.loc.victims } }

/-- The bundle is held for `h`: of what its slot left in `t`, a Y slot's state stays, and of any other what it sent and walked for. -/
def heldBy (k : Nat) (s t : State) (h : Hold) : State :=
  (((if k = 7 then t else walked s t).onSeq fun q => { q with iwait := decide (h = .iwait) }).ended (.held h)).tick

/-- A K-slot instruction leaves the watch filter, and what goes with it, as the other slots left them (R383, R386). -/
def filterOf (s t : State) : State :=
  t.onDbg fun d => { d with filter := s.core.dbg.filter, exact := s.core.dbg.exact, ovf := s.core.dbg.ovf
                            skip := s.core.dbg.skip, unscr := s.core.dbg.unscr }

/-- The bundle of `i` in slot `k` alone, which the checks of R59 pass, does what exec of `i` does: `t` is what exec answers
in `s`, and the bundle is held, arrives at its barrier, traps, or issues with what exec answers as the bundle takes
effect. -/
def OneSlot (s t : State) (k : Nat) (w : SlotWord) (i : Instr) : Prop :=
  let b := s.issue (only k w)
  (∀ x : Option Nat × Nat × Nat, t.fab.wanted = some x →
    b = heldBy k s ((s.ask s.me x.1 x.2.1 x.2.2).ended (.held (.remote x.1 x.2.1 x.2.2))) (.remote x.1 x.2.1 x.2.2)) ∧
  (t.fab.wanted = none →
    (∀ h, t.core.seq.last = .held h → WaitsAt i s ∨ ¬ WaitsAt i t → b = heldBy k s t h) ∧
    (∀ h, t.core.seq.last = .held h → ¬ WaitsAt i s → WaitsAt i t → ∃ l : List Xlation,
      b = (t.onSy fun y => { y with judged := some (t.core.level, t.core.seq.pc, l) }).tick ∧
      ∀ x, x ∈ l ↔ x ∈ s.core.loc.tlb ∨ ∃ p ∈ s.core.st.h, p.2.tr = some x) ∧
    (∀ c n, n ≤ 2 → t.core.seq.last = .trapped c n → ¬ WaitsAt i s → ¬ WaitsAt i t →
      b = State.trapped s (t.onDbg fun d => { d with fpcnt := s.core.dbg.fpcnt })) ∧
    (∀ u, t.core.seq.last = .issued → k ≠ 0 → exec i (s.ended .issued) = .next u → u.fab.wanted = none →
      u.core.seq.last = .issued → b = State.completed s ((joined s u).onSeq (begunWith i))) ∧
    (∀ u, t.core.seq.last = .issued → k = 0 → (∀ n, i ≠ .exit n) → exec i ((s.ended .issued).onSeq begun) = .next u →
      u.fab.wanted = none → u.core.seq.last = .issued → b = State.completed s (filterOf s (joined s u))))

end Sys2Proof.Claims

/-- R56, R57: a step runs what is decoded. An event at the head of the agenda is run by exec; one that is no event, or
names what does not exist, is the machine's one fault. With an empty agenda and no core named by the schedule a step is
one cycle of the current core: the bundle at PC, of the resident segment or of the monitor store, is fetched; the word
of its slot is decoded, and the bundle does what exec of that instruction does (OneSlot): it is held, it traps, or it
issues, and then the sequencer goes on (TwoDelayBundlesThenTheTarget). The other seven slots hold NOP. TRAP, SYSCALL and
ABORT act behind them whatever they end in, and EXIT ends the task there. The model's own choices in it: the agenda, the turns and
what follows a cycle (log 2), the bookkeeping of one bundle (log 4), that a boundary event takes no cycle of its own (log 46), that
what lands in a cycle lands behind its boundary event (log 36), what a bundle keeps of its judgement once its BARV has arrived (logs 52, 117), slots
that trap behind others (log 53), the times at which results land (logs 10, 12), and that an operation waits for another package (log 103). -/
def Obligations.StepRunsTheDecodedInstruction : Prop :=
  (∀ (s : State) (e : Instr) (rest : List Instr), s.agenda = e :: rest →
    (e.isEvent = true → e.wellFormed = true → step s = exec e { s with agenda := rest }) ∧
    (e.isEvent = false ∨ e.wellFormed = false → step s = .fault .illFormedEvent)) ∧
  (∀ s : State, s.agenda = [] → s.turn = [] →
    let t := s.tickDies.deadlines.frame.cycle
    step s = .next (if t.agenda = [] then t.others? else t)) ∧
  (∀ (s u : State) (x : Task) (b : Nat),
    let p := s.countArray.tableDone
    let q : State := { p with core := p.core.landDue.settleSpill }
    let r : State := { q with core := q.core.rejoin.landDue }
    p.core.task = some x → x.ending = none → p.core.dbg.stopped = false → p.core.tr.mstop = false → p.boundary = none →
    p.core.sampleDue = false → q.core.seq.resumed = false → r.core.busyFor = none →
    r.fetch = .ok b u → s.cycle = u.issue b) ∧
  (∀ (s t : State) (x : Task),
    let p := s.countArray.tableDone
    p.core.task = some x → x.ending = none → p.core.dbg.stopped = false → p.core.tr.mstop = false → p.boundary = some t →
    s.cycle = t) ∧
  (∀ s : State, s.core.seq.table = none → (s.cluster (s.core.id / 4)).holder ≠ some s.core.id → s.countArray.tableDone = s) ∧
  (∀ s : State, s.core.tr.mlvl = true → s.core.seq.pc < 512 →
    s.fetch = .ok (leNat (Sparse.read 0 s.core.loc.mon (32 * s.core.seq.pc) 32)) s) ∧
  (∀ (s : State) (k : Kernel) (n : Nat) (g : Segment), s.core.tr.mlvl = false → s.myKernel = some k →
    k.segAt s.core.seq.pc = some (n, g) → s.core.loc.half g.half = .resident n →
    s.fetch = .ok (leNat (Sparse.read 0 s.core.loc.imem (32 * (4096 * g.half + (s.core.seq.pc - g.sb))) 32)) s) ∧
  (∀ (s t : State) (k : Nat) (w : SlotWord) (i : Instr), Plain k w i s → EmptiesRise s.core → actsAfter i = false →
    exec i s = .next t → OneSlot s t k w i) ∧
  (∀ (s u : State) (w : SlotWord) (i : Instr), Plain 0 w i s → EmptiesRise s.core → actsAfter i = true →
    exec i ((s.ended .issued).onSeq begun) = .next u → u.fab.wanted = none →
    s.issue (only 0 w) = State.completed s (filterOf s (joined s u))) ∧
  (∀ (s t : State) (w : SlotWord) (n : BitVec 16), Plain 0 w (.exit n) s → EmptiesRise s.core →
    exec (.exit n) s = .next t → t.core.seq.last = .issued → t.fab.wanted = none →
    let u := ((s.ended .issued).onSeq begun).exits n.toNat
    u.core.seq.last = .issued → s.issue (only 0 w) = State.completed s u) ∧
  (∀ s : State, s.core.seq.ext = none → s.core.lp.pv = false → EmptiesRise s.core →
    s.issue 0 = State.completed s ((s.ended .issued).onSeq begun)) ∧
  (∀ s : State, s.core.seq.moved = false → s.core.seq.xfer = none → s.core.lp.l0.act = false →
    s.core.lp.l1.act = false → s.core.task.isSome = true →
    (State.completed s s).core.seq.pc = s.core.seq.pc + 1 ∧ (State.completed s s).core.seq.cyc = s.core.seq.cyc + 1)

/-- Every instruction and event answers a next state in every state: the model refuses nothing, and the one fault is
that of an agenda that is no schedule. This says that the model is whole, and cites no rule. -/
def Obligations.NothingIsRefused : Prop :=
  (∀ (i : Instr) (s : State), ∃ t, exec i s = .next t) ∧
  (∀ s : State, (∀ e ∈ s.agenda, e.isEvent = true ∧ e.wellFormed = true) → ∃ t, step s = .next t)

/-! ### Encoding (R58, R66 to R75) -/

/-- R58, R66 to R75: of every well-formed slot instruction, the decoder of its slot reads the encoder's word back with
every operand; and what a slot's decoder reads is well-formed, belongs in that slot, and is encoded by the word it was
read from. -/
def Obligations.DecodeAndEncodeAgree : Prop :=
  (∀ (i : Instr) (k : Nat), i.slot = some k → i.wellFormed = true → decodeSlot k (encode i) = some i) ∧
  (∀ (k : Nat) (w : SlotWord) (i : Instr), k < 8 → decodeSlot k w = some i → i.wellFormed = true ∧ encode i = w) ∧
  (∀ k < 8, decodeSlot k 0 = some .nop)

/-- Words written out from the encodings of R66 to R75 decode to the instructions they stand for, and words with a
reserved value to none. -/
def Obligations.EncodingSamples : Prop :=
  decodeSlot 0 0x053FFFFC = some (.brn 3 0xFFFFC) ∧ decodeSlot 0 0x12030003 = some (.loopi 0 3 3) ∧
  decodeSlot 1 0x02952E00 = some (.add true 9 10 11) ∧ decodeSlot 1 0x3D219142 = some (.ldD true 4 3 2 5 2) ∧
  decodeSlot 1 0x51209801 = some (.amoAdd true 4 1 6 0 1) ∧ decodeSlot 2 0x05030102 = some (.vadd 0 true 3 1 2) ∧
  decodeSlot 2 0x690A2832 = some (.vgath 0 true 10 40 3 2) ∧ decodeSlot 4 0x082A0600 = some (.mmul 5 4 3 0) ∧
  decodeSlot 5 0x06610488 = some (.ctile 0 12 8 9 0 1 0) ∧ decodeSlot 7 0x06280C01 = some (.fpostr 20 6 1) ∧
  decodeSlot 0 0xFFFFFFFF = none ∧ decodeSlot 1 0x1B24A000 = some (.cmpi true 2 9 2 0) ∧
  decodeSlot 1 0x1B24E000 = none ∧ decodeSlot 4 0x10320E07 = none

/-! ### Memory and reset (R16, R389, R393) -/

/-- Every step keeps the canonical form of memory: addresses rising, no entry equal to what an unlisted address reads
as. -/
def Obligations.MemoryStaysCanonical : Prop :=
  ∀ s t : State, Memory.wf s.mem = true → step s = .next t → Memory.wf t.mem = true

/-- The memory of the reset state has the canonical form; what is stored is read back and every other byte of memory
reads as before, in every memory. -/
def Obligations.MemoryReadsWhatWasStored : Prop :=
  Memory.wf State.reset.mem = true ∧
  ∀ (m : List Host.Cell) (a : Nat) (bs : List Byte),
    (Memory.wf m = true → Memory.wf (Memory.store m a bs) = true) ∧
    Memory.bytes (Memory.store m a bs) a bs.length = bs ∧
    (∀ b, b < a ∨ a + bs.length ≤ b → Memory.byte (Memory.store m a bs) b = Memory.byte m b)

/-- What the reset state holds where R95, R96, R103, R126, R127, R374, R375 and R376 give a reset value: the loop,
arrival, trap, vector-mode, handle-binding and debug registers read 0, LSM0 to LSM15 read 0xFFFF_FFFF. -/
def Obligations.ResetValues : Prop :=
  (∀ n ∈ ([0x018, 0x019, 0x01A, 0x01B, 0x01C, 0x01D, 0x01E, 0x01F, 0x020, 0x038, 0x039, 0x03A, 0x040, 0x041, 0x042, 0x043,
      0x048, 0x049, 0x04A, 0x04B, 0x04C, 0x04D, 0x100, 0x101, 0x102, 0x103, 0x104, 0x108, 0x109, 0x10A, 0x10B, 0x140,
      0x141, 0x142, 0x144, 0x145] : List Nat), State.reset.readSr n = some 0) ∧
  (∀ n, 0x028 ≤ n → n ≤ 0x037 → State.reset.readSr n = some 0xFFFFFFFF) ∧
  (∀ n, 0x120 ≤ n → n ≤ 0x13F → State.reset.readSr n = some 0)

/-! ### Frames -/

namespace Sys2Proof.Claims

/-- A result is for G register `d`, as the window names it in `c`. -/
def toG (d : BitVec 5) (c : Core) : Dest → Bool
  | .g r _ _ => r == c.phys d.toNat
  | _ => false

/-- A result is for G register `d`, or for FFLAGS. -/
def toGF (d : BitVec 5) (c : Core) : Dest → Bool
  | .g r _ _ => r == c.phys d.toNat
  | .fl e _ => e == 2
  | _ => false

/-- A result is for predicate `p`. -/
def toP (p : BitVec 4) (_ : Core) : Dest → Bool
  | .p n _ => n == p.toNat
  | _ => false

/-- A result is for predicate `p`, or for FFLAGS. -/
def toPF (p : BitVec 4) (_ : Core) : Dest → Bool
  | .p n _ => n == p.toNat
  | .fl e _ => e == 2
  | _ => false

/-- The S-slot instructions that reach no memory, with the results each may leave. -/
def writesOnly : Instr → Option (Core → Dest → Bool)
  | .add _ d _ _ => some (toG d)
  | .sub _ d _ _ => some (toG d)
  | .and _ d _ _ => some (toG d)
  | .or _ d _ _ => some (toG d)
  | .xor _ d _ _ => some (toG d)
  | .andn _ d _ _ => some (toG d)
  | .shl _ d _ _ => some (toG d)
  | .shr _ d _ _ => some (toG d)
  | .sar _ d _ _ => some (toG d)
  | .rol _ d _ _ => some (toG d)
  | .mul _ d _ _ => some (toG d)
  | .mulh _ d _ _ => some (toG d)
  | .mulhu _ d _ _ => some (toG d)
  | .div _ d _ _ => some (toG d)
  | .divu _ d _ _ => some (toG d)
  | .rem _ d _ _ => some (toG d)
  | .remu _ d _ _ => some (toG d)
  | .min _ d _ _ => some (toG d)
  | .max _ d _ _ => some (toG d)
  | .minu _ d _ _ => some (toG d)
  | .maxu _ d _ _ => some (toG d)
  | .clz _ d _ => some (toG d)
  | .ctz _ d _ => some (toG d)
  | .popc _ d _ => some (toG d)
  | .sextb _ d _ => some (toG d)
  | .sexth _ d _ => some (toG d)
  | .sextw _ d _ => some (toG d)
  | .addi _ d _ _ => some (toG d)
  | .andi _ d _ _ => some (toG d)
  | .ori _ d _ _ => some (toG d)
  | .xori _ d _ _ => some (toG d)
  | .shli _ d _ _ => some (toG d)
  | .shri _ d _ _ => some (toG d)
  | .sari _ d _ _ => some (toG d)
  | .muli _ d _ _ => some (toG d)
  | .movi d _ => some (toG d)
  | .sel _ d _ _ _ => some (toG d)
  | .hinfo _ d _ => some (toG d)
  | .titr _ d _ _ => some (toG d)
  | .cmp _ p _ _ _ => some (toP p)
  | .cmpi _ p _ _ _ => some (toP p)
  | .pand p _ _ => some (toP p)
  | .por p _ _ => some (toP p)
  | .pxor p _ _ => some (toP p)
  | .pandn p _ _ => some (toP p)
  | .pnot p _ => some (toP p)
  | .fadd _ d _ _ => some (toGF d)
  | .fsub _ d _ _ => some (toGF d)
  | .fmul _ d _ _ => some (toGF d)
  | .fdiv _ d _ _ => some (toGF d)
  | .fsqrt _ d _ => some (toGF d)
  | .fmin _ d _ _ => some (toGF d)
  | .fmax _ d _ _ => some (toGF d)
  | .fabs _ d _ => some (toGF d)
  | .fneg _ d _ => some (toGF d)
  | .fcvtid _ d _ _ => some (toGF d)
  | .fcvtdi _ d _ _ => some (toGF d)
  | .ffmaD _ d _ _ _ => some (toGF d)
  | .fcmp _ p _ _ _ => some (toPF p)
  | .movx _ e x _ => some fun _ y => match y with | .staging k _ => k == 8 * e.toNat + x.toNat | _ => false
  | .movsr _ _ n => some fun _ y => match y with | .sr k _ => k == n.toNat | _ => false
  | .titw _ _ t n => some fun _ y => match y with | .tit k _ => k == 5 * t.toNat + n.toNat | _ => false
  | _ => none

/-- The slot instructions that may read, write, acquire or release memory, walk tables, send to other cores or
packages, or end the task. -/
def reachesOut : Instr → Bool
  | .jtab _ _ _ => true
  | .exit _ => true
  | .ldB _ _ _ _ _ _ => true
  | .ldBu _ _ _ _ _ _ => true
  | .ldH _ _ _ _ _ _ => true
  | .ldHu _ _ _ _ _ _ => true
  | .ldW _ _ _ _ _ _ => true
  | .ldWu _ _ _ _ _ _ => true
  | .ldD _ _ _ _ _ _ => true
  | .stB _ _ _ _ _ _ => true
  | .stH _ _ _ _ _ _ => true
  | .stW _ _ _ _ _ _ => true
  | .stD _ _ _ _ _ _ => true
  | .stntD _ _ _ _ _ _ => true
  | .amoAdd _ _ _ _ _ _ => true
  | .amoAnd _ _ _ _ _ _ => true
  | .amoOr _ _ _ _ _ _ => true
  | .amoXor _ _ _ _ _ _ => true
  | .amoMin _ _ _ _ _ _ => true
  | .amoMax _ _ _ _ _ _ => true
  | .amoMinu _ _ _ _ _ _ => true
  | .amoMaxu _ _ _ _ _ _ => true
  | .amoSwap _ _ _ _ _ _ => true
  | .cas _ _ _ _ _ _ => true
  | .xlat _ _ _ _ => true
  | .vld _ _ _ _ _ _ => true
  | .vst _ _ _ _ _ _ => true
  | .vlds _ _ _ _ _ _ => true
  | .vsts _ _ _ _ _ _ => true
  | .vgath _ _ _ _ _ _ => true
  | .vscat _ _ _ _ _ _ => true
  | .vscata _ _ _ _ _ _ => true
  | .vstnt _ _ _ _ _ _ => true
  | .vldp _ _ _ _ => true
  | .vstp _ _ _ _ => true
  | .vldtRow _ _ _ _ _ => true
  | .vldtCol _ _ _ _ _ => true
  | .hgld _ _ _ _ _ => true
  | .hgscat _ _ _ _ _ _ _ => true
  | .hgfold _ _ _ _ => true
  | .hgfoldAdd _ _ _ _ => true
  | .fwait _ _ => true
  | .fpostr _ _ _ => true
  | .barv _ => true
  | .barw _ => true
  | .bars _ => true
  | .rel _ => true
  | .acq _ => true
  | .cwait _ _ _ => true
  | .cinc _ _ _ => true
  | .rgo _ => true
  | _ => false

/-- Registers that only a result's landing, or the entry into a handler, changes: the general registers, predicates,
exception bits, vector registers, staging registers, the identifier table, the pool and the engines' commands. -/
def KeepsRegisters (c d : Core) : Prop :=
  d.sc.g = c.sc.g ∧ d.sc.p = c.sc.p ∧ d.sc.fflags = c.sc.fflags ∧ d.vec.v = c.vec.v ∧ d.vec.bad = c.vec.bad ∧
  d.st.x = c.st.x ∧ d.st.tit = c.st.tit ∧ d.st.ag = c.st.ag ∧ d.st.gid = c.st.gid ∧ d.loc.pool = c.loc.pool ∧
  d.loc.mon = c.loc.mon ∧ d.loc.imem = c.loc.imem ∧ d.id = c.id ∧ d.task = c.task

/-- The runs of bytes that the current core's first-level cache has still to write back hold address `a`. -/
def Masked (s : State) (a : Nat) : Prop :=
  ∃ l ∈ s.core.loc.lines, ∃ r ∈ runs l.mask, s.key (l.pa + r.1) ≤ a ∧ a < s.key (l.pa + r.1) + r.2

/-- `size` bytes stored at the place that the handle's checks and the translation find hold memory address `a`. -/
def StoredAt (s : State) (x : Act Target) (size a : Nat) : Prop :=
  match x with
  | .ok (.mem pa _ _) _ => s.key pa ≤ a ∧ a < s.key pa + size
  | _ => False

/-- The same for pool address `a`. -/
def StoredInPool (x : Act Target) (size a : Nat) : Prop :=
  match x with
  | .ok (.pool p) _ => p ≤ a ∧ a < p + size
  | _ => False

/-- The frame of a load, a store or an atomic of `size` bytes, `x` being what the checks and the translation answer: if
`stores`, the bytes at that place may change; of all other memory only what the first-level cache wrote back; of the
pool nothing else; registers wait for their results. A store to a reduction region (CLASS 2, R350) is governed by the
region and not by this frame. -/
def MemFrame (s t : State) (x : Act Target) (stores : Bool) (size : Nat) : Prop :=
  (∀ pa leaf va u, x = .ok (.mem pa leaf va) u → leafRing leaf = 0) →
  (∀ a, ¬ (stores = true ∧ StoredAt s x size a) → ¬ Masked s a → Memory.byte t.mem a = Memory.byte s.mem a) ∧
  (∀ a, ¬ (stores = true ∧ StoredInPool x size a) → Sparse.get 0 t.core.loc.pool a = Sparse.get 0 s.core.loc.pool a) ∧
  t.core.sc.g = s.core.sc.g ∧ t.core.sc.p = s.core.sc.p ∧ t.core.sc.fflags = s.core.sc.fflags ∧
  t.core.vec.v = s.core.vec.v ∧ t.core.st.x = s.core.st.x ∧ t.core.st.tit = s.core.st.tit ∧ t.core.eng = s.core.eng ∧
  t.others = s.others ∧ (t.core.seq.last = .issued → t.core.tr = s.core.tr ∧ t.core.lp = s.core.lp)

/-- The frame of the load, store and atomic instructions, with what each applies the checks to. -/
def LoadFrame (mk : Bool → BitVec 5 → BitVec 4 → BitVec 4 → BitVec 5 → BitVec 6 → Instr) (size : Nat) (stores : Bool) :
    Prop :=
  ∀ (w : Bool) (g : BitVec 5) (h c : BitVec 4) (a : BitVec 5) (i : BitVec 6) (s t : State), Full s [a, g] →
    exec (mk w g h c a i) s = .next t →
    MemFrame s t (s.scalarTarget h.toNat (offset s a i size) size (if stores then .write else .read)) stores size
def AtomicFrame (mk : Bool → BitVec 5 → BitVec 4 → BitVec 5 → BitVec 4 → BitVec 2 → Instr) (more : Bool) : Prop :=
  ∀ (w : Bool) (d : BitVec 5) (h : BitVec 4) (a : BitVec 5) (c : BitVec 4) (z : BitVec 2) (s t : State),
    Full s (if more then [a, d, d + 1] else [a, d]) → exec (mk w d h a c z) s = .next t →
    MemFrame s t (s.scalarTarget h.toNat (s.core.g a.toNat).toInt 8 .atomic) true 8

end Sys2Proof.Claims

/-- What the S-slot instructions without memory leave unchanged, in every next state: every byte of memory and of the
pool, every register that no result of theirs is for, the other cores and the rest of the package. Where one issues, the
only results it leaves are for its own destination (and FFLAGS, for an FP64 form), the only register it may make empty
is its destination, and of the vector state only VRS0 may be drawn from, by FCVTID and FCVTDI in RSTO. -/
def Sys2Proof.Claims.ScalarFrame : Prop :=
  ∀ (i : Instr) (f : Core → Dest → Bool) (s t : State), writesOnly i = some f → exec i s = .next t →
    (∀ a, Memory.byte t.mem a = Memory.byte s.mem a) ∧
    t = { s with agenda := t.agenda, core := t.core, dies := t.dies, free := t.free } ∧
    (s.core.tr.mlvl = false ∨ t.core.seq.last = .issued → t.dies = s.dies ∧ t.free = s.free) ∧ KeepsRegisters s.core t.core ∧ t.core.eng = s.core.eng ∧ t.core.loc = s.core.loc ∧ t.core.st = s.core.st ∧
    t.core.sy = s.core.sy ∧ t.core.dbg = s.core.dbg ∧ t.core.waiting = s.core.waiting ∧
    (t.core.seq.last = .issued → t.agenda = s.agenda ∧ t.core.tr = s.core.tr ∧ t.core.lp = s.core.lp ∧
      t.core.seq = { s.core.seq with last := .issued } ∧
      t.core.vec = { s.core.vec with vrs0 := t.core.vec.vrs0 } ∧
      ((∀ w d a, i ≠ .fcvtid w d a 4 ∧ i ≠ .fcvtdi w d a 4) → t.core.vec = s.core.vec) ∧
      (∃ l, t.core.flight = s.core.flight ++ l ∧ ∀ x ∈ l, f s.core x.dst = true) ∧
      (∀ r, r ∈ t.core.sc.empty → r ∈ s.core.sc.empty ∨ f s.core (.g r 0 true) = true) ∧
      (∀ r ∈ s.core.sc.empty, r ∈ t.core.sc.empty))

/-- What the scalar loads, stores and atomics leave unchanged: see MemFrame. -/
def Obligations.ScalarMemoryFrame : Prop :=
  LoadFrame .ldB 1 false ∧ LoadFrame .ldBu 1 false ∧ LoadFrame .ldH 2 false ∧ LoadFrame .ldHu 2 false ∧
  LoadFrame .ldW 4 false ∧ LoadFrame .ldWu 4 false ∧ LoadFrame .ldD 8 false ∧ LoadFrame .stB 1 true ∧
  LoadFrame .stH 2 true ∧ LoadFrame .stW 4 true ∧ LoadFrame .stD 8 true ∧ LoadFrame .stntD 8 true ∧
  AtomicFrame .amoAdd false ∧ AtomicFrame .amoAnd false ∧ AtomicFrame .amoOr false ∧ AtomicFrame .amoXor false ∧
  AtomicFrame .amoMin false ∧ AtomicFrame .amoMax false ∧ AtomicFrame .amoMinu false ∧ AtomicFrame .amoMaxu false ∧
  AtomicFrame .amoSwap false ∧ AtomicFrame .cas true

/-- What every other slot instruction of the K, V, M, C and Y slots leaves unchanged as it issues, traps or holds: every
byte of memory, of the pool, of the instruction and monitor stores, the registers that only a landing changes, the other
cores and the rest of the package. An engine command acts on memory only as its engine runs it. -/
def Sys2Proof.Claims.QuietFrame : Prop :=
  ∀ (i : Instr) (s t : State), i.slot.isSome = true → reachesOut i = false → exec i s = .next t →
    (∀ a, Memory.byte t.mem a = Memory.byte s.mem a) ∧
    t = { s with agenda := t.agenda, core := t.core, dies := t.dies, free := t.free } ∧
    (s.core.tr.mlvl = false ∨ t.core.seq.last = .issued → t.dies = s.dies) ∧ KeepsRegisters s.core t.core

/-- What the S-slot instructions without memory leave unchanged, in every next state: every byte of memory and of the
pool, every register that no result of theirs is for, the other cores and the rest of the package. Where one issues,
the only results it leaves are for its own destination (and FFLAGS, for an FP64 form), the only register it may make
empty is its destination, and of the vector state only VRS0 may be drawn from, by FCVTID and FCVTDI in RSTO. What
every other slot instruction of the K, V, M, C and Y slots leaves unchanged as it issues, traps or holds: every byte
of memory, of the pool, of the instruction and monitor stores, the registers that only a landing changes, the other
cores and the rest of the package. An engine command acts on memory only as its engine runs it. -/
def Obligations.RegisterFrames : Prop := Claims.ScalarFrame ∧ Claims.QuietFrame
end

