-- ==== Sys2Proof/Laws/State.lean ====
section
/-! SUPPORT. One lemma per field for each update of the state: what it sets, and what it leaves. -/

namespace Sys2Proof.Machine


/-! ### A change of the current core -/

@[simp] theorem State.onCore_agenda (s : State) (f : Core → Core) : (s.onCore f).agenda = s.agenda := rfl
@[simp] theorem State.onCore_turn (s : State) (f : Core → Core) : (s.onCore f).turn = s.turn := rfl
@[simp] theorem State.onCore_core (s : State) (f : Core → Core) : (s.onCore f).core = f s.core := rfl
@[simp] theorem State.onCore_others (s : State) (f : Core → Core) : (s.onCore f).others = s.others := rfl
@[simp] theorem State.onCore_mem (s : State) (f : Core → Core) : (s.onCore f).mem = s.mem := rfl
@[simp] theorem State.onCore_dies (s : State) (f : Core → Core) : (s.onCore f).dies = s.dies := rfl
@[simp] theorem State.onCore_clusters (s : State) (f : Core → Core) : (s.onCore f).clusters = s.clusters := rfl
@[simp] theorem State.onCore_fe (s : State) (f : Core → Core) : (s.onCore f).fe = s.fe := rfl
@[simp] theorem State.onCore_crook (s : State) (f : Core → Core) : (s.onCore f).crook = s.crook := rfl
@[simp] theorem State.onCore_fab (s : State) (f : Core → Core) : (s.onCore f).fab = s.fab := rfl
@[simp] theorem State.onCore_host (s : State) (f : Core → Core) : (s.onCore f).host = s.host := rfl
@[simp] theorem State.onCore_free (s : State) (f : Core → Core) : (s.onCore f).free = s.free := rfl

/-! ### onSeq -/

@[simp] theorem State.onSeq_agenda (s : State) (f : Seq → Seq) : (s.onSeq f).agenda = s.agenda := rfl
@[simp] theorem State.onSeq_turn (s : State) (f : Seq → Seq) : (s.onSeq f).turn = s.turn := rfl
@[simp] theorem State.onSeq_others (s : State) (f : Seq → Seq) : (s.onSeq f).others = s.others := rfl
@[simp] theorem State.onSeq_mem (s : State) (f : Seq → Seq) : (s.onSeq f).mem = s.mem := rfl
@[simp] theorem State.onSeq_dies (s : State) (f : Seq → Seq) : (s.onSeq f).dies = s.dies := rfl
@[simp] theorem State.onSeq_clusters (s : State) (f : Seq → Seq) : (s.onSeq f).clusters = s.clusters := rfl
@[simp] theorem State.onSeq_fe (s : State) (f : Seq → Seq) : (s.onSeq f).fe = s.fe := rfl
@[simp] theorem State.onSeq_crook (s : State) (f : Seq → Seq) : (s.onSeq f).crook = s.crook := rfl
@[simp] theorem State.onSeq_fab (s : State) (f : Seq → Seq) : (s.onSeq f).fab = s.fab := rfl
@[simp] theorem State.onSeq_host (s : State) (f : Seq → Seq) : (s.onSeq f).host = s.host := rfl
@[simp] theorem State.onSeq_free (s : State) (f : Seq → Seq) : (s.onSeq f).free = s.free := rfl
@[simp] theorem State.onSeq_core_id (s : State) (f : Seq → Seq) : (s.onSeq f).core.id = s.core.id := rfl
@[simp] theorem State.onSeq_core_task (s : State) (f : Seq → Seq) : (s.onSeq f).core.task = s.core.task := rfl
@[simp] theorem State.onSeq_core_seq (s : State) (f : Seq → Seq) : (s.onSeq f).core.seq = f s.core.seq := rfl
@[simp] theorem State.onSeq_core_sc (s : State) (f : Seq → Seq) : (s.onSeq f).core.sc = s.core.sc := rfl
@[simp] theorem State.onSeq_core_lp (s : State) (f : Seq → Seq) : (s.onSeq f).core.lp = s.core.lp := rfl
@[simp] theorem State.onSeq_core_tr (s : State) (f : Seq → Seq) : (s.onSeq f).core.tr = s.core.tr := rfl
@[simp] theorem State.onSeq_core_st (s : State) (f : Seq → Seq) : (s.onSeq f).core.st = s.core.st := rfl
@[simp] theorem State.onSeq_core_vec (s : State) (f : Seq → Seq) : (s.onSeq f).core.vec = s.core.vec := rfl
@[simp] theorem State.onSeq_core_eng (s : State) (f : Seq → Seq) : (s.onSeq f).core.eng = s.core.eng := rfl
@[simp] theorem State.onSeq_core_loc (s : State) (f : Seq → Seq) : (s.onSeq f).core.loc = s.core.loc := rfl
@[simp] theorem State.onSeq_core_sy (s : State) (f : Seq → Seq) : (s.onSeq f).core.sy = s.core.sy := rfl
@[simp] theorem State.onSeq_core_dbg (s : State) (f : Seq → Seq) : (s.onSeq f).core.dbg = s.core.dbg := rfl
@[simp] theorem State.onSeq_core_flight (s : State) (f : Seq → Seq) : (s.onSeq f).core.flight = s.core.flight := rfl
@[simp] theorem State.onSeq_core_waiting (s : State) (f : Seq → Seq) : (s.onSeq f).core.waiting = s.core.waiting := rfl

/-! ### onSc -/

@[simp] theorem State.onSc_agenda (s : State) (f : Scalar → Scalar) : (s.onSc f).agenda = s.agenda := rfl
@[simp] theorem State.onSc_turn (s : State) (f : Scalar → Scalar) : (s.onSc f).turn = s.turn := rfl
@[simp] theorem State.onSc_others (s : State) (f : Scalar → Scalar) : (s.onSc f).others = s.others := rfl
@[simp] theorem State.onSc_mem (s : State) (f : Scalar → Scalar) : (s.onSc f).mem = s.mem := rfl
@[simp] theorem State.onSc_dies (s : State) (f : Scalar → Scalar) : (s.onSc f).dies = s.dies := rfl
@[simp] theorem State.onSc_clusters (s : State) (f : Scalar → Scalar) : (s.onSc f).clusters = s.clusters := rfl
@[simp] theorem State.onSc_fe (s : State) (f : Scalar → Scalar) : (s.onSc f).fe = s.fe := rfl
@[simp] theorem State.onSc_crook (s : State) (f : Scalar → Scalar) : (s.onSc f).crook = s.crook := rfl
@[simp] theorem State.onSc_fab (s : State) (f : Scalar → Scalar) : (s.onSc f).fab = s.fab := rfl
@[simp] theorem State.onSc_host (s : State) (f : Scalar → Scalar) : (s.onSc f).host = s.host := rfl
@[simp] theorem State.onSc_free (s : State) (f : Scalar → Scalar) : (s.onSc f).free = s.free := rfl
@[simp] theorem State.onSc_core_id (s : State) (f : Scalar → Scalar) : (s.onSc f).core.id = s.core.id := rfl
@[simp] theorem State.onSc_core_task (s : State) (f : Scalar → Scalar) : (s.onSc f).core.task = s.core.task := rfl
@[simp] theorem State.onSc_core_seq (s : State) (f : Scalar → Scalar) : (s.onSc f).core.seq = s.core.seq := rfl
@[simp] theorem State.onSc_core_sc (s : State) (f : Scalar → Scalar) : (s.onSc f).core.sc = f s.core.sc := rfl
@[simp] theorem State.onSc_core_lp (s : State) (f : Scalar → Scalar) : (s.onSc f).core.lp = s.core.lp := rfl
@[simp] theorem State.onSc_core_tr (s : State) (f : Scalar → Scalar) : (s.onSc f).core.tr = s.core.tr := rfl
@[simp] theorem State.onSc_core_st (s : State) (f : Scalar → Scalar) : (s.onSc f).core.st = s.core.st := rfl
@[simp] theorem State.onSc_core_vec (s : State) (f : Scalar → Scalar) : (s.onSc f).core.vec = s.core.vec := rfl
@[simp] theorem State.onSc_core_eng (s : State) (f : Scalar → Scalar) : (s.onSc f).core.eng = s.core.eng := rfl
@[simp] theorem State.onSc_core_loc (s : State) (f : Scalar → Scalar) : (s.onSc f).core.loc = s.core.loc := rfl
@[simp] theorem State.onSc_core_sy (s : State) (f : Scalar → Scalar) : (s.onSc f).core.sy = s.core.sy := rfl
@[simp] theorem State.onSc_core_dbg (s : State) (f : Scalar → Scalar) : (s.onSc f).core.dbg = s.core.dbg := rfl
@[simp] theorem State.onSc_core_flight (s : State) (f : Scalar → Scalar) : (s.onSc f).core.flight = s.core.flight := rfl
@[simp] theorem State.onSc_core_waiting (s : State) (f : Scalar → Scalar) : (s.onSc f).core.waiting = s.core.waiting := rfl

/-! ### onLp -/

@[simp] theorem State.onLp_agenda (s : State) (f : Loops → Loops) : (s.onLp f).agenda = s.agenda := rfl
@[simp] theorem State.onLp_turn (s : State) (f : Loops → Loops) : (s.onLp f).turn = s.turn := rfl
@[simp] theorem State.onLp_others (s : State) (f : Loops → Loops) : (s.onLp f).others = s.others := rfl
@[simp] theorem State.onLp_mem (s : State) (f : Loops → Loops) : (s.onLp f).mem = s.mem := rfl
@[simp] theorem State.onLp_dies (s : State) (f : Loops → Loops) : (s.onLp f).dies = s.dies := rfl
@[simp] theorem State.onLp_clusters (s : State) (f : Loops → Loops) : (s.onLp f).clusters = s.clusters := rfl
@[simp] theorem State.onLp_fe (s : State) (f : Loops → Loops) : (s.onLp f).fe = s.fe := rfl
@[simp] theorem State.onLp_crook (s : State) (f : Loops → Loops) : (s.onLp f).crook = s.crook := rfl
@[simp] theorem State.onLp_fab (s : State) (f : Loops → Loops) : (s.onLp f).fab = s.fab := rfl
@[simp] theorem State.onLp_host (s : State) (f : Loops → Loops) : (s.onLp f).host = s.host := rfl
@[simp] theorem State.onLp_free (s : State) (f : Loops → Loops) : (s.onLp f).free = s.free := rfl
@[simp] theorem State.onLp_core_id (s : State) (f : Loops → Loops) : (s.onLp f).core.id = s.core.id := rfl
@[simp] theorem State.onLp_core_task (s : State) (f : Loops → Loops) : (s.onLp f).core.task = s.core.task := rfl
@[simp] theorem State.onLp_core_seq (s : State) (f : Loops → Loops) : (s.onLp f).core.seq = s.core.seq := rfl
@[simp] theorem State.onLp_core_sc (s : State) (f : Loops → Loops) : (s.onLp f).core.sc = s.core.sc := rfl
@[simp] theorem State.onLp_core_lp (s : State) (f : Loops → Loops) : (s.onLp f).core.lp = f s.core.lp := rfl
@[simp] theorem State.onLp_core_tr (s : State) (f : Loops → Loops) : (s.onLp f).core.tr = s.core.tr := rfl
@[simp] theorem State.onLp_core_st (s : State) (f : Loops → Loops) : (s.onLp f).core.st = s.core.st := rfl
@[simp] theorem State.onLp_core_vec (s : State) (f : Loops → Loops) : (s.onLp f).core.vec = s.core.vec := rfl
@[simp] theorem State.onLp_core_eng (s : State) (f : Loops → Loops) : (s.onLp f).core.eng = s.core.eng := rfl
@[simp] theorem State.onLp_core_loc (s : State) (f : Loops → Loops) : (s.onLp f).core.loc = s.core.loc := rfl
@[simp] theorem State.onLp_core_sy (s : State) (f : Loops → Loops) : (s.onLp f).core.sy = s.core.sy := rfl
@[simp] theorem State.onLp_core_dbg (s : State) (f : Loops → Loops) : (s.onLp f).core.dbg = s.core.dbg := rfl
@[simp] theorem State.onLp_core_flight (s : State) (f : Loops → Loops) : (s.onLp f).core.flight = s.core.flight := rfl
@[simp] theorem State.onLp_core_waiting (s : State) (f : Loops → Loops) : (s.onLp f).core.waiting = s.core.waiting := rfl

/-! ### onTr -/

@[simp] theorem State.onTr_agenda (s : State) (f : Traps → Traps) : (s.onTr f).agenda = s.agenda := rfl
@[simp] theorem State.onTr_turn (s : State) (f : Traps → Traps) : (s.onTr f).turn = s.turn := rfl
@[simp] theorem State.onTr_others (s : State) (f : Traps → Traps) : (s.onTr f).others = s.others := rfl
@[simp] theorem State.onTr_mem (s : State) (f : Traps → Traps) : (s.onTr f).mem = s.mem := rfl
@[simp] theorem State.onTr_dies (s : State) (f : Traps → Traps) : (s.onTr f).dies = s.dies := rfl
@[simp] theorem State.onTr_clusters (s : State) (f : Traps → Traps) : (s.onTr f).clusters = s.clusters := rfl
@[simp] theorem State.onTr_fe (s : State) (f : Traps → Traps) : (s.onTr f).fe = s.fe := rfl
@[simp] theorem State.onTr_crook (s : State) (f : Traps → Traps) : (s.onTr f).crook = s.crook := rfl
@[simp] theorem State.onTr_fab (s : State) (f : Traps → Traps) : (s.onTr f).fab = s.fab := rfl
@[simp] theorem State.onTr_host (s : State) (f : Traps → Traps) : (s.onTr f).host = s.host := rfl
@[simp] theorem State.onTr_free (s : State) (f : Traps → Traps) : (s.onTr f).free = s.free := rfl
@[simp] theorem State.onTr_core_id (s : State) (f : Traps → Traps) : (s.onTr f).core.id = s.core.id := rfl
@[simp] theorem State.onTr_core_task (s : State) (f : Traps → Traps) : (s.onTr f).core.task = s.core.task := rfl
@[simp] theorem State.onTr_core_seq (s : State) (f : Traps → Traps) : (s.onTr f).core.seq = s.core.seq := rfl
@[simp] theorem State.onTr_core_sc (s : State) (f : Traps → Traps) : (s.onTr f).core.sc = s.core.sc := rfl
@[simp] theorem State.onTr_core_lp (s : State) (f : Traps → Traps) : (s.onTr f).core.lp = s.core.lp := rfl
@[simp] theorem State.onTr_core_tr (s : State) (f : Traps → Traps) : (s.onTr f).core.tr = f s.core.tr := rfl
@[simp] theorem State.onTr_core_st (s : State) (f : Traps → Traps) : (s.onTr f).core.st = s.core.st := rfl
@[simp] theorem State.onTr_core_vec (s : State) (f : Traps → Traps) : (s.onTr f).core.vec = s.core.vec := rfl
@[simp] theorem State.onTr_core_eng (s : State) (f : Traps → Traps) : (s.onTr f).core.eng = s.core.eng := rfl
@[simp] theorem State.onTr_core_loc (s : State) (f : Traps → Traps) : (s.onTr f).core.loc = s.core.loc := rfl
@[simp] theorem State.onTr_core_sy (s : State) (f : Traps → Traps) : (s.onTr f).core.sy = s.core.sy := rfl
@[simp] theorem State.onTr_core_dbg (s : State) (f : Traps → Traps) : (s.onTr f).core.dbg = s.core.dbg := rfl
@[simp] theorem State.onTr_core_flight (s : State) (f : Traps → Traps) : (s.onTr f).core.flight = s.core.flight := rfl
@[simp] theorem State.onTr_core_waiting (s : State) (f : Traps → Traps) : (s.onTr f).core.waiting = s.core.waiting := rfl

/-! ### onSt -/

@[simp] theorem State.onSt_agenda (s : State) (f : Staging → Staging) : (s.onSt f).agenda = s.agenda := rfl
@[simp] theorem State.onSt_turn (s : State) (f : Staging → Staging) : (s.onSt f).turn = s.turn := rfl
@[simp] theorem State.onSt_others (s : State) (f : Staging → Staging) : (s.onSt f).others = s.others := rfl
@[simp] theorem State.onSt_mem (s : State) (f : Staging → Staging) : (s.onSt f).mem = s.mem := rfl
@[simp] theorem State.onSt_dies (s : State) (f : Staging → Staging) : (s.onSt f).dies = s.dies := rfl
@[simp] theorem State.onSt_clusters (s : State) (f : Staging → Staging) : (s.onSt f).clusters = s.clusters := rfl
@[simp] theorem State.onSt_fe (s : State) (f : Staging → Staging) : (s.onSt f).fe = s.fe := rfl
@[simp] theorem State.onSt_crook (s : State) (f : Staging → Staging) : (s.onSt f).crook = s.crook := rfl
@[simp] theorem State.onSt_fab (s : State) (f : Staging → Staging) : (s.onSt f).fab = s.fab := rfl
@[simp] theorem State.onSt_host (s : State) (f : Staging → Staging) : (s.onSt f).host = s.host := rfl
@[simp] theorem State.onSt_free (s : State) (f : Staging → Staging) : (s.onSt f).free = s.free := rfl
@[simp] theorem State.onSt_core_id (s : State) (f : Staging → Staging) : (s.onSt f).core.id = s.core.id := rfl
@[simp] theorem State.onSt_core_task (s : State) (f : Staging → Staging) : (s.onSt f).core.task = s.core.task := rfl
@[simp] theorem State.onSt_core_seq (s : State) (f : Staging → Staging) : (s.onSt f).core.seq = s.core.seq := rfl
@[simp] theorem State.onSt_core_sc (s : State) (f : Staging → Staging) : (s.onSt f).core.sc = s.core.sc := rfl
@[simp] theorem State.onSt_core_lp (s : State) (f : Staging → Staging) : (s.onSt f).core.lp = s.core.lp := rfl
@[simp] theorem State.onSt_core_tr (s : State) (f : Staging → Staging) : (s.onSt f).core.tr = s.core.tr := rfl
@[simp] theorem State.onSt_core_st (s : State) (f : Staging → Staging) : (s.onSt f).core.st = f s.core.st := rfl
@[simp] theorem State.onSt_core_vec (s : State) (f : Staging → Staging) : (s.onSt f).core.vec = s.core.vec := rfl
@[simp] theorem State.onSt_core_eng (s : State) (f : Staging → Staging) : (s.onSt f).core.eng = s.core.eng := rfl
@[simp] theorem State.onSt_core_loc (s : State) (f : Staging → Staging) : (s.onSt f).core.loc = s.core.loc := rfl
@[simp] theorem State.onSt_core_sy (s : State) (f : Staging → Staging) : (s.onSt f).core.sy = s.core.sy := rfl
@[simp] theorem State.onSt_core_dbg (s : State) (f : Staging → Staging) : (s.onSt f).core.dbg = s.core.dbg := rfl
@[simp] theorem State.onSt_core_flight (s : State) (f : Staging → Staging) : (s.onSt f).core.flight = s.core.flight := rfl
@[simp] theorem State.onSt_core_waiting (s : State) (f : Staging → Staging) : (s.onSt f).core.waiting = s.core.waiting := rfl

/-! ### onVec -/

@[simp] theorem State.onVec_agenda (s : State) (f : Vec → Vec) : (s.onVec f).agenda = s.agenda := rfl
@[simp] theorem State.onVec_turn (s : State) (f : Vec → Vec) : (s.onVec f).turn = s.turn := rfl
@[simp] theorem State.onVec_others (s : State) (f : Vec → Vec) : (s.onVec f).others = s.others := rfl
@[simp] theorem State.onVec_mem (s : State) (f : Vec → Vec) : (s.onVec f).mem = s.mem := rfl
@[simp] theorem State.onVec_dies (s : State) (f : Vec → Vec) : (s.onVec f).dies = s.dies := rfl
@[simp] theorem State.onVec_clusters (s : State) (f : Vec → Vec) : (s.onVec f).clusters = s.clusters := rfl
@[simp] theorem State.onVec_fe (s : State) (f : Vec → Vec) : (s.onVec f).fe = s.fe := rfl
@[simp] theorem State.onVec_crook (s : State) (f : Vec → Vec) : (s.onVec f).crook = s.crook := rfl
@[simp] theorem State.onVec_fab (s : State) (f : Vec → Vec) : (s.onVec f).fab = s.fab := rfl
@[simp] theorem State.onVec_host (s : State) (f : Vec → Vec) : (s.onVec f).host = s.host := rfl
@[simp] theorem State.onVec_free (s : State) (f : Vec → Vec) : (s.onVec f).free = s.free := rfl
@[simp] theorem State.onVec_core_id (s : State) (f : Vec → Vec) : (s.onVec f).core.id = s.core.id := rfl
@[simp] theorem State.onVec_core_task (s : State) (f : Vec → Vec) : (s.onVec f).core.task = s.core.task := rfl
@[simp] theorem State.onVec_core_seq (s : State) (f : Vec → Vec) : (s.onVec f).core.seq = s.core.seq := rfl
@[simp] theorem State.onVec_core_sc (s : State) (f : Vec → Vec) : (s.onVec f).core.sc = s.core.sc := rfl
@[simp] theorem State.onVec_core_lp (s : State) (f : Vec → Vec) : (s.onVec f).core.lp = s.core.lp := rfl
@[simp] theorem State.onVec_core_tr (s : State) (f : Vec → Vec) : (s.onVec f).core.tr = s.core.tr := rfl
@[simp] theorem State.onVec_core_st (s : State) (f : Vec → Vec) : (s.onVec f).core.st = s.core.st := rfl
@[simp] theorem State.onVec_core_vec (s : State) (f : Vec → Vec) : (s.onVec f).core.vec = f s.core.vec := rfl
@[simp] theorem State.onVec_core_eng (s : State) (f : Vec → Vec) : (s.onVec f).core.eng = s.core.eng := rfl
@[simp] theorem State.onVec_core_loc (s : State) (f : Vec → Vec) : (s.onVec f).core.loc = s.core.loc := rfl
@[simp] theorem State.onVec_core_sy (s : State) (f : Vec → Vec) : (s.onVec f).core.sy = s.core.sy := rfl
@[simp] theorem State.onVec_core_dbg (s : State) (f : Vec → Vec) : (s.onVec f).core.dbg = s.core.dbg := rfl
@[simp] theorem State.onVec_core_flight (s : State) (f : Vec → Vec) : (s.onVec f).core.flight = s.core.flight := rfl
@[simp] theorem State.onVec_core_waiting (s : State) (f : Vec → Vec) : (s.onVec f).core.waiting = s.core.waiting := rfl

/-! ### onEng -/

@[simp] theorem State.onEng_agenda (s : State) (f : Engines → Engines) : (s.onEng f).agenda = s.agenda := rfl
@[simp] theorem State.onEng_turn (s : State) (f : Engines → Engines) : (s.onEng f).turn = s.turn := rfl
@[simp] theorem State.onEng_others (s : State) (f : Engines → Engines) : (s.onEng f).others = s.others := rfl
@[simp] theorem State.onEng_mem (s : State) (f : Engines → Engines) : (s.onEng f).mem = s.mem := rfl
@[simp] theorem State.onEng_dies (s : State) (f : Engines → Engines) : (s.onEng f).dies = s.dies := rfl
@[simp] theorem State.onEng_clusters (s : State) (f : Engines → Engines) : (s.onEng f).clusters = s.clusters := rfl
@[simp] theorem State.onEng_fe (s : State) (f : Engines → Engines) : (s.onEng f).fe = s.fe := rfl
@[simp] theorem State.onEng_crook (s : State) (f : Engines → Engines) : (s.onEng f).crook = s.crook := rfl
@[simp] theorem State.onEng_fab (s : State) (f : Engines → Engines) : (s.onEng f).fab = s.fab := rfl
@[simp] theorem State.onEng_host (s : State) (f : Engines → Engines) : (s.onEng f).host = s.host := rfl
@[simp] theorem State.onEng_free (s : State) (f : Engines → Engines) : (s.onEng f).free = s.free := rfl
@[simp] theorem State.onEng_core_id (s : State) (f : Engines → Engines) : (s.onEng f).core.id = s.core.id := rfl
@[simp] theorem State.onEng_core_task (s : State) (f : Engines → Engines) : (s.onEng f).core.task = s.core.task := rfl
@[simp] theorem State.onEng_core_seq (s : State) (f : Engines → Engines) : (s.onEng f).core.seq = s.core.seq := rfl
@[simp] theorem State.onEng_core_sc (s : State) (f : Engines → Engines) : (s.onEng f).core.sc = s.core.sc := rfl
@[simp] theorem State.onEng_core_lp (s : State) (f : Engines → Engines) : (s.onEng f).core.lp = s.core.lp := rfl
@[simp] theorem State.onEng_core_tr (s : State) (f : Engines → Engines) : (s.onEng f).core.tr = s.core.tr := rfl
@[simp] theorem State.onEng_core_st (s : State) (f : Engines → Engines) : (s.onEng f).core.st = s.core.st := rfl
@[simp] theorem State.onEng_core_vec (s : State) (f : Engines → Engines) : (s.onEng f).core.vec = s.core.vec := rfl
@[simp] theorem State.onEng_core_eng (s : State) (f : Engines → Engines) : (s.onEng f).core.eng = f s.core.eng := rfl
@[simp] theorem State.onEng_core_loc (s : State) (f : Engines → Engines) : (s.onEng f).core.loc = s.core.loc := rfl
@[simp] theorem State.onEng_core_sy (s : State) (f : Engines → Engines) : (s.onEng f).core.sy = s.core.sy := rfl
@[simp] theorem State.onEng_core_dbg (s : State) (f : Engines → Engines) : (s.onEng f).core.dbg = s.core.dbg := rfl
@[simp] theorem State.onEng_core_flight (s : State) (f : Engines → Engines) : (s.onEng f).core.flight = s.core.flight := rfl
@[simp] theorem State.onEng_core_waiting (s : State) (f : Engines → Engines) : (s.onEng f).core.waiting = s.core.waiting := rfl

/-! ### onLoc -/

@[simp] theorem State.onLoc_agenda (s : State) (f : Store → Store) : (s.onLoc f).agenda = s.agenda := rfl
@[simp] theorem State.onLoc_turn (s : State) (f : Store → Store) : (s.onLoc f).turn = s.turn := rfl
@[simp] theorem State.onLoc_others (s : State) (f : Store → Store) : (s.onLoc f).others = s.others := rfl
@[simp] theorem State.onLoc_mem (s : State) (f : Store → Store) : (s.onLoc f).mem = s.mem := rfl
@[simp] theorem State.onLoc_dies (s : State) (f : Store → Store) : (s.onLoc f).dies = s.dies := rfl
@[simp] theorem State.onLoc_clusters (s : State) (f : Store → Store) : (s.onLoc f).clusters = s.clusters := rfl
@[simp] theorem State.onLoc_fe (s : State) (f : Store → Store) : (s.onLoc f).fe = s.fe := rfl
@[simp] theorem State.onLoc_crook (s : State) (f : Store → Store) : (s.onLoc f).crook = s.crook := rfl
@[simp] theorem State.onLoc_fab (s : State) (f : Store → Store) : (s.onLoc f).fab = s.fab := rfl
@[simp] theorem State.onLoc_host (s : State) (f : Store → Store) : (s.onLoc f).host = s.host := rfl
@[simp] theorem State.onLoc_free (s : State) (f : Store → Store) : (s.onLoc f).free = s.free := rfl
@[simp] theorem State.onLoc_core_id (s : State) (f : Store → Store) : (s.onLoc f).core.id = s.core.id := rfl
@[simp] theorem State.onLoc_core_task (s : State) (f : Store → Store) : (s.onLoc f).core.task = s.core.task := rfl
@[simp] theorem State.onLoc_core_seq (s : State) (f : Store → Store) : (s.onLoc f).core.seq = s.core.seq := rfl
@[simp] theorem State.onLoc_core_sc (s : State) (f : Store → Store) : (s.onLoc f).core.sc = s.core.sc := rfl
@[simp] theorem State.onLoc_core_lp (s : State) (f : Store → Store) : (s.onLoc f).core.lp = s.core.lp := rfl
@[simp] theorem State.onLoc_core_tr (s : State) (f : Store → Store) : (s.onLoc f).core.tr = s.core.tr := rfl
@[simp] theorem State.onLoc_core_st (s : State) (f : Store → Store) : (s.onLoc f).core.st = s.core.st := rfl
@[simp] theorem State.onLoc_core_vec (s : State) (f : Store → Store) : (s.onLoc f).core.vec = s.core.vec := rfl
@[simp] theorem State.onLoc_core_eng (s : State) (f : Store → Store) : (s.onLoc f).core.eng = s.core.eng := rfl
@[simp] theorem State.onLoc_core_loc (s : State) (f : Store → Store) : (s.onLoc f).core.loc = f s.core.loc := rfl
@[simp] theorem State.onLoc_core_sy (s : State) (f : Store → Store) : (s.onLoc f).core.sy = s.core.sy := rfl
@[simp] theorem State.onLoc_core_dbg (s : State) (f : Store → Store) : (s.onLoc f).core.dbg = s.core.dbg := rfl
@[simp] theorem State.onLoc_core_flight (s : State) (f : Store → Store) : (s.onLoc f).core.flight = s.core.flight := rfl
@[simp] theorem State.onLoc_core_waiting (s : State) (f : Store → Store) : (s.onLoc f).core.waiting = s.core.waiting := rfl

/-! ### onSy -/

@[simp] theorem State.onSy_agenda (s : State) (f : Sync → Sync) : (s.onSy f).agenda = s.agenda := rfl
@[simp] theorem State.onSy_turn (s : State) (f : Sync → Sync) : (s.onSy f).turn = s.turn := rfl
@[simp] theorem State.onSy_others (s : State) (f : Sync → Sync) : (s.onSy f).others = s.others := rfl
@[simp] theorem State.onSy_mem (s : State) (f : Sync → Sync) : (s.onSy f).mem = s.mem := rfl
@[simp] theorem State.onSy_dies (s : State) (f : Sync → Sync) : (s.onSy f).dies = s.dies := rfl
@[simp] theorem State.onSy_clusters (s : State) (f : Sync → Sync) : (s.onSy f).clusters = s.clusters := rfl
@[simp] theorem State.onSy_fe (s : State) (f : Sync → Sync) : (s.onSy f).fe = s.fe := rfl
@[simp] theorem State.onSy_crook (s : State) (f : Sync → Sync) : (s.onSy f).crook = s.crook := rfl
@[simp] theorem State.onSy_fab (s : State) (f : Sync → Sync) : (s.onSy f).fab = s.fab := rfl
@[simp] theorem State.onSy_host (s : State) (f : Sync → Sync) : (s.onSy f).host = s.host := rfl
@[simp] theorem State.onSy_free (s : State) (f : Sync → Sync) : (s.onSy f).free = s.free := rfl
@[simp] theorem State.onSy_core_id (s : State) (f : Sync → Sync) : (s.onSy f).core.id = s.core.id := rfl
@[simp] theorem State.onSy_core_task (s : State) (f : Sync → Sync) : (s.onSy f).core.task = s.core.task := rfl
@[simp] theorem State.onSy_core_seq (s : State) (f : Sync → Sync) : (s.onSy f).core.seq = s.core.seq := rfl
@[simp] theorem State.onSy_core_sc (s : State) (f : Sync → Sync) : (s.onSy f).core.sc = s.core.sc := rfl
@[simp] theorem State.onSy_core_lp (s : State) (f : Sync → Sync) : (s.onSy f).core.lp = s.core.lp := rfl
@[simp] theorem State.onSy_core_tr (s : State) (f : Sync → Sync) : (s.onSy f).core.tr = s.core.tr := rfl
@[simp] theorem State.onSy_core_st (s : State) (f : Sync → Sync) : (s.onSy f).core.st = s.core.st := rfl
@[simp] theorem State.onSy_core_vec (s : State) (f : Sync → Sync) : (s.onSy f).core.vec = s.core.vec := rfl
@[simp] theorem State.onSy_core_eng (s : State) (f : Sync → Sync) : (s.onSy f).core.eng = s.core.eng := rfl
@[simp] theorem State.onSy_core_loc (s : State) (f : Sync → Sync) : (s.onSy f).core.loc = s.core.loc := rfl
@[simp] theorem State.onSy_core_sy (s : State) (f : Sync → Sync) : (s.onSy f).core.sy = f s.core.sy := rfl
@[simp] theorem State.onSy_core_dbg (s : State) (f : Sync → Sync) : (s.onSy f).core.dbg = s.core.dbg := rfl
@[simp] theorem State.onSy_core_flight (s : State) (f : Sync → Sync) : (s.onSy f).core.flight = s.core.flight := rfl
@[simp] theorem State.onSy_core_waiting (s : State) (f : Sync → Sync) : (s.onSy f).core.waiting = s.core.waiting := rfl

/-! ### onDbg -/

@[simp] theorem State.onDbg_agenda (s : State) (f : Debug → Debug) : (s.onDbg f).agenda = s.agenda := rfl
@[simp] theorem State.onDbg_turn (s : State) (f : Debug → Debug) : (s.onDbg f).turn = s.turn := rfl
@[simp] theorem State.onDbg_others (s : State) (f : Debug → Debug) : (s.onDbg f).others = s.others := rfl
@[simp] theorem State.onDbg_mem (s : State) (f : Debug → Debug) : (s.onDbg f).mem = s.mem := rfl
@[simp] theorem State.onDbg_dies (s : State) (f : Debug → Debug) : (s.onDbg f).dies = s.dies := rfl
@[simp] theorem State.onDbg_clusters (s : State) (f : Debug → Debug) : (s.onDbg f).clusters = s.clusters := rfl
@[simp] theorem State.onDbg_fe (s : State) (f : Debug → Debug) : (s.onDbg f).fe = s.fe := rfl
@[simp] theorem State.onDbg_crook (s : State) (f : Debug → Debug) : (s.onDbg f).crook = s.crook := rfl
@[simp] theorem State.onDbg_fab (s : State) (f : Debug → Debug) : (s.onDbg f).fab = s.fab := rfl
@[simp] theorem State.onDbg_host (s : State) (f : Debug → Debug) : (s.onDbg f).host = s.host := rfl
@[simp] theorem State.onDbg_free (s : State) (f : Debug → Debug) : (s.onDbg f).free = s.free := rfl
@[simp] theorem State.onDbg_core_id (s : State) (f : Debug → Debug) : (s.onDbg f).core.id = s.core.id := rfl
@[simp] theorem State.onDbg_core_task (s : State) (f : Debug → Debug) : (s.onDbg f).core.task = s.core.task := rfl
@[simp] theorem State.onDbg_core_seq (s : State) (f : Debug → Debug) : (s.onDbg f).core.seq = s.core.seq := rfl
@[simp] theorem State.onDbg_core_sc (s : State) (f : Debug → Debug) : (s.onDbg f).core.sc = s.core.sc := rfl
@[simp] theorem State.onDbg_core_lp (s : State) (f : Debug → Debug) : (s.onDbg f).core.lp = s.core.lp := rfl
@[simp] theorem State.onDbg_core_tr (s : State) (f : Debug → Debug) : (s.onDbg f).core.tr = s.core.tr := rfl
@[simp] theorem State.onDbg_core_st (s : State) (f : Debug → Debug) : (s.onDbg f).core.st = s.core.st := rfl
@[simp] theorem State.onDbg_core_vec (s : State) (f : Debug → Debug) : (s.onDbg f).core.vec = s.core.vec := rfl
@[simp] theorem State.onDbg_core_eng (s : State) (f : Debug → Debug) : (s.onDbg f).core.eng = s.core.eng := rfl
@[simp] theorem State.onDbg_core_loc (s : State) (f : Debug → Debug) : (s.onDbg f).core.loc = s.core.loc := rfl
@[simp] theorem State.onDbg_core_sy (s : State) (f : Debug → Debug) : (s.onDbg f).core.sy = s.core.sy := rfl
@[simp] theorem State.onDbg_core_dbg (s : State) (f : Debug → Debug) : (s.onDbg f).core.dbg = f s.core.dbg := rfl
@[simp] theorem State.onDbg_core_flight (s : State) (f : Debug → Debug) : (s.onDbg f).core.flight = s.core.flight := rfl
@[simp] theorem State.onDbg_core_waiting (s : State) (f : Debug → Debug) : (s.onDbg f).core.waiting = s.core.waiting := rfl

/-! ### push -/

@[simp] theorem State.push_agenda (s : State) (es : List Instr) : (s.push es).agenda = es ++ s.agenda := rfl
@[simp] theorem State.push_turn (s : State) (es : List Instr) : (s.push es).turn = s.turn := rfl
@[simp] theorem State.push_others (s : State) (es : List Instr) : (s.push es).others = s.others := rfl
@[simp] theorem State.push_mem (s : State) (es : List Instr) : (s.push es).mem = s.mem := rfl
@[simp] theorem State.push_dies (s : State) (es : List Instr) : (s.push es).dies = s.dies := rfl
@[simp] theorem State.push_clusters (s : State) (es : List Instr) : (s.push es).clusters = s.clusters := rfl
@[simp] theorem State.push_fe (s : State) (es : List Instr) : (s.push es).fe = s.fe := rfl
@[simp] theorem State.push_crook (s : State) (es : List Instr) : (s.push es).crook = s.crook := rfl
@[simp] theorem State.push_fab (s : State) (es : List Instr) : (s.push es).fab = s.fab := rfl
@[simp] theorem State.push_host (s : State) (es : List Instr) : (s.push es).host = s.host := rfl
@[simp] theorem State.push_free (s : State) (es : List Instr) : (s.push es).free = s.free := rfl
@[simp] theorem State.push_core_id (s : State) (es : List Instr) : (s.push es).core.id = s.core.id := rfl
@[simp] theorem State.push_core_task (s : State) (es : List Instr) : (s.push es).core.task = s.core.task := rfl
@[simp] theorem State.push_core_seq (s : State) (es : List Instr) : (s.push es).core.seq = s.core.seq := rfl
@[simp] theorem State.push_core_sc (s : State) (es : List Instr) : (s.push es).core.sc = s.core.sc := rfl
@[simp] theorem State.push_core_lp (s : State) (es : List Instr) : (s.push es).core.lp = s.core.lp := rfl
@[simp] theorem State.push_core_tr (s : State) (es : List Instr) : (s.push es).core.tr = s.core.tr := rfl
@[simp] theorem State.push_core_st (s : State) (es : List Instr) : (s.push es).core.st = s.core.st := rfl
@[simp] theorem State.push_core_vec (s : State) (es : List Instr) : (s.push es).core.vec = s.core.vec := rfl
@[simp] theorem State.push_core_eng (s : State) (es : List Instr) : (s.push es).core.eng = s.core.eng := rfl
@[simp] theorem State.push_core_loc (s : State) (es : List Instr) : (s.push es).core.loc = s.core.loc := rfl
@[simp] theorem State.push_core_sy (s : State) (es : List Instr) : (s.push es).core.sy = s.core.sy := rfl
@[simp] theorem State.push_core_dbg (s : State) (es : List Instr) : (s.push es).core.dbg = s.core.dbg := rfl
@[simp] theorem State.push_core_flight (s : State) (es : List Instr) : (s.push es).core.flight = s.core.flight := rfl
@[simp] theorem State.push_core_waiting (s : State) (es : List Instr) : (s.push es).core.waiting = s.core.waiting := rfl

/-! ### later -/

@[simp] theorem State.later_agenda (s : State) (n : Nat) (d : Dest) : (s.later n d).agenda = s.agenda := rfl
@[simp] theorem State.later_turn (s : State) (n : Nat) (d : Dest) : (s.later n d).turn = s.turn := rfl
@[simp] theorem State.later_others (s : State) (n : Nat) (d : Dest) : (s.later n d).others = s.others := rfl
@[simp] theorem State.later_mem (s : State) (n : Nat) (d : Dest) : (s.later n d).mem = s.mem := rfl
@[simp] theorem State.later_dies (s : State) (n : Nat) (d : Dest) : (s.later n d).dies = s.dies := rfl
@[simp] theorem State.later_clusters (s : State) (n : Nat) (d : Dest) : (s.later n d).clusters = s.clusters := rfl
@[simp] theorem State.later_fe (s : State) (n : Nat) (d : Dest) : (s.later n d).fe = s.fe := rfl
@[simp] theorem State.later_crook (s : State) (n : Nat) (d : Dest) : (s.later n d).crook = s.crook := rfl
@[simp] theorem State.later_fab (s : State) (n : Nat) (d : Dest) : (s.later n d).fab = s.fab := rfl
@[simp] theorem State.later_host (s : State) (n : Nat) (d : Dest) : (s.later n d).host = s.host := rfl
@[simp] theorem State.later_free (s : State) (n : Nat) (d : Dest) : (s.later n d).free = s.free := rfl
@[simp] theorem State.later_core_id (s : State) (n : Nat) (d : Dest) : (s.later n d).core.id = s.core.id := rfl
@[simp] theorem State.later_core_task (s : State) (n : Nat) (d : Dest) : (s.later n d).core.task = s.core.task := rfl
@[simp] theorem State.later_core_seq (s : State) (n : Nat) (d : Dest) : (s.later n d).core.seq = s.core.seq := rfl
@[simp] theorem State.later_core_sc (s : State) (n : Nat) (d : Dest) : (s.later n d).core.sc = s.core.sc := rfl
@[simp] theorem State.later_core_lp (s : State) (n : Nat) (d : Dest) : (s.later n d).core.lp = s.core.lp := rfl
@[simp] theorem State.later_core_tr (s : State) (n : Nat) (d : Dest) : (s.later n d).core.tr = s.core.tr := rfl
@[simp] theorem State.later_core_st (s : State) (n : Nat) (d : Dest) : (s.later n d).core.st = s.core.st := rfl
@[simp] theorem State.later_core_vec (s : State) (n : Nat) (d : Dest) : (s.later n d).core.vec = s.core.vec := rfl
@[simp] theorem State.later_core_eng (s : State) (n : Nat) (d : Dest) : (s.later n d).core.eng = s.core.eng := rfl
@[simp] theorem State.later_core_loc (s : State) (n : Nat) (d : Dest) : (s.later n d).core.loc = s.core.loc := rfl
@[simp] theorem State.later_core_sy (s : State) (n : Nat) (d : Dest) : (s.later n d).core.sy = s.core.sy := rfl
@[simp] theorem State.later_core_dbg (s : State) (n : Nat) (d : Dest) : (s.later n d).core.dbg = s.core.dbg := rfl
@[simp] theorem State.later_core_flight (s : State) (n : Nat) (d : Dest) : (s.later n d).core.flight = s.core.flight ++ [⟨s.core.seq.cyc + n, d⟩] := rfl
@[simp] theorem State.later_core_waiting (s : State) (n : Nat) (d : Dest) : (s.later n d).core.waiting = s.core.waiting := rfl

/-! ### awaits -/

@[simp] theorem State.awaits_agenda (s : State) (w : Waiting) : (s.awaits w).agenda = s.agenda := rfl
@[simp] theorem State.awaits_turn (s : State) (w : Waiting) : (s.awaits w).turn = s.turn := rfl
@[simp] theorem State.awaits_others (s : State) (w : Waiting) : (s.awaits w).others = s.others := rfl
@[simp] theorem State.awaits_mem (s : State) (w : Waiting) : (s.awaits w).mem = s.mem := rfl
@[simp] theorem State.awaits_dies (s : State) (w : Waiting) : (s.awaits w).dies = s.dies := rfl
@[simp] theorem State.awaits_clusters (s : State) (w : Waiting) : (s.awaits w).clusters = s.clusters := rfl
@[simp] theorem State.awaits_fe (s : State) (w : Waiting) : (s.awaits w).fe = s.fe := rfl
@[simp] theorem State.awaits_crook (s : State) (w : Waiting) : (s.awaits w).crook = s.crook := rfl
@[simp] theorem State.awaits_fab (s : State) (w : Waiting) : (s.awaits w).fab = s.fab := rfl
@[simp] theorem State.awaits_host (s : State) (w : Waiting) : (s.awaits w).host = s.host := rfl
@[simp] theorem State.awaits_free (s : State) (w : Waiting) : (s.awaits w).free = s.free := rfl
@[simp] theorem State.awaits_core_id (s : State) (w : Waiting) : (s.awaits w).core.id = s.core.id := rfl
@[simp] theorem State.awaits_core_task (s : State) (w : Waiting) : (s.awaits w).core.task = s.core.task := rfl
@[simp] theorem State.awaits_core_seq (s : State) (w : Waiting) : (s.awaits w).core.seq = s.core.seq := rfl
@[simp] theorem State.awaits_core_sc (s : State) (w : Waiting) : (s.awaits w).core.sc = s.core.sc := rfl
@[simp] theorem State.awaits_core_lp (s : State) (w : Waiting) : (s.awaits w).core.lp = s.core.lp := rfl
@[simp] theorem State.awaits_core_tr (s : State) (w : Waiting) : (s.awaits w).core.tr = s.core.tr := rfl
@[simp] theorem State.awaits_core_st (s : State) (w : Waiting) : (s.awaits w).core.st = s.core.st := rfl
@[simp] theorem State.awaits_core_vec (s : State) (w : Waiting) : (s.awaits w).core.vec = s.core.vec := rfl
@[simp] theorem State.awaits_core_eng (s : State) (w : Waiting) : (s.awaits w).core.eng = s.core.eng := rfl
@[simp] theorem State.awaits_core_loc (s : State) (w : Waiting) : (s.awaits w).core.loc = s.core.loc := rfl
@[simp] theorem State.awaits_core_sy (s : State) (w : Waiting) : (s.awaits w).core.sy = s.core.sy := rfl
@[simp] theorem State.awaits_core_dbg (s : State) (w : Waiting) : (s.awaits w).core.dbg = s.core.dbg := rfl
@[simp] theorem State.awaits_core_flight (s : State) (w : Waiting) : (s.awaits w).core.flight = s.core.flight := rfl
@[simp] theorem State.awaits_core_waiting (s : State) (w : Waiting) : (s.awaits w).core.waiting = s.core.waiting ++ [w] := rfl

/-! ### ended -/

@[simp] theorem State.ended_agenda (s : State) (i : Issue) : (s.ended i).agenda = s.agenda := rfl
@[simp] theorem State.ended_turn (s : State) (i : Issue) : (s.ended i).turn = s.turn := rfl
@[simp] theorem State.ended_others (s : State) (i : Issue) : (s.ended i).others = s.others := rfl
@[simp] theorem State.ended_mem (s : State) (i : Issue) : (s.ended i).mem = s.mem := rfl
@[simp] theorem State.ended_dies (s : State) (i : Issue) : (s.ended i).dies = s.dies := rfl
@[simp] theorem State.ended_clusters (s : State) (i : Issue) : (s.ended i).clusters = s.clusters := rfl
@[simp] theorem State.ended_fe (s : State) (i : Issue) : (s.ended i).fe = s.fe := rfl
@[simp] theorem State.ended_crook (s : State) (i : Issue) : (s.ended i).crook = s.crook := rfl
@[simp] theorem State.ended_fab (s : State) (i : Issue) : (s.ended i).fab = s.fab := rfl
@[simp] theorem State.ended_host (s : State) (i : Issue) : (s.ended i).host = s.host := rfl
@[simp] theorem State.ended_free (s : State) (i : Issue) : (s.ended i).free = s.free := rfl
@[simp] theorem State.ended_core_id (s : State) (i : Issue) : (s.ended i).core.id = s.core.id := rfl
@[simp] theorem State.ended_core_task (s : State) (i : Issue) : (s.ended i).core.task = s.core.task := rfl
@[simp] theorem State.ended_core_seq (s : State) (i : Issue) : (s.ended i).core.seq = { s.core.seq with last := i } := rfl
@[simp] theorem State.ended_core_sc (s : State) (i : Issue) : (s.ended i).core.sc = s.core.sc := rfl
@[simp] theorem State.ended_core_lp (s : State) (i : Issue) : (s.ended i).core.lp = s.core.lp := rfl
@[simp] theorem State.ended_core_tr (s : State) (i : Issue) : (s.ended i).core.tr = s.core.tr := rfl
@[simp] theorem State.ended_core_st (s : State) (i : Issue) : (s.ended i).core.st = s.core.st := rfl
@[simp] theorem State.ended_core_vec (s : State) (i : Issue) : (s.ended i).core.vec = s.core.vec := rfl
@[simp] theorem State.ended_core_eng (s : State) (i : Issue) : (s.ended i).core.eng = s.core.eng := rfl
@[simp] theorem State.ended_core_loc (s : State) (i : Issue) : (s.ended i).core.loc = s.core.loc := rfl
@[simp] theorem State.ended_core_sy (s : State) (i : Issue) : (s.ended i).core.sy = s.core.sy := rfl
@[simp] theorem State.ended_core_dbg (s : State) (i : Issue) : (s.ended i).core.dbg = s.core.dbg := rfl
@[simp] theorem State.ended_core_flight (s : State) (i : Issue) : (s.ended i).core.flight = s.core.flight := rfl
@[simp] theorem State.ended_core_waiting (s : State) (i : Issue) : (s.ended i).core.waiting = s.core.waiting := rfl

/-! ### emptyG -/

@[simp] theorem State.emptyG_agenda (s : State) (g : Nat) : (s.emptyG g).agenda = s.agenda := rfl
@[simp] theorem State.emptyG_turn (s : State) (g : Nat) : (s.emptyG g).turn = s.turn := rfl
@[simp] theorem State.emptyG_others (s : State) (g : Nat) : (s.emptyG g).others = s.others := rfl
@[simp] theorem State.emptyG_mem (s : State) (g : Nat) : (s.emptyG g).mem = s.mem := rfl
@[simp] theorem State.emptyG_dies (s : State) (g : Nat) : (s.emptyG g).dies = s.dies := rfl
@[simp] theorem State.emptyG_clusters (s : State) (g : Nat) : (s.emptyG g).clusters = s.clusters := rfl
@[simp] theorem State.emptyG_fe (s : State) (g : Nat) : (s.emptyG g).fe = s.fe := rfl
@[simp] theorem State.emptyG_crook (s : State) (g : Nat) : (s.emptyG g).crook = s.crook := rfl
@[simp] theorem State.emptyG_fab (s : State) (g : Nat) : (s.emptyG g).fab = s.fab := rfl
@[simp] theorem State.emptyG_host (s : State) (g : Nat) : (s.emptyG g).host = s.host := rfl
@[simp] theorem State.emptyG_free (s : State) (g : Nat) : (s.emptyG g).free = s.free := rfl
@[simp] theorem State.emptyG_core_id (s : State) (g : Nat) : (s.emptyG g).core.id = s.core.id := rfl
@[simp] theorem State.emptyG_core_task (s : State) (g : Nat) : (s.emptyG g).core.task = s.core.task := rfl
@[simp] theorem State.emptyG_core_seq (s : State) (g : Nat) : (s.emptyG g).core.seq = s.core.seq := rfl
@[simp] theorem State.emptyG_core_sc (s : State) (g : Nat) : (s.emptyG g).core.sc = { s.core.sc with empty := insertNat (s.core.phys g) s.core.sc.empty } := rfl
@[simp] theorem State.emptyG_core_lp (s : State) (g : Nat) : (s.emptyG g).core.lp = s.core.lp := rfl
@[simp] theorem State.emptyG_core_tr (s : State) (g : Nat) : (s.emptyG g).core.tr = s.core.tr := rfl
@[simp] theorem State.emptyG_core_st (s : State) (g : Nat) : (s.emptyG g).core.st = s.core.st := rfl
@[simp] theorem State.emptyG_core_vec (s : State) (g : Nat) : (s.emptyG g).core.vec = s.core.vec := rfl
@[simp] theorem State.emptyG_core_eng (s : State) (g : Nat) : (s.emptyG g).core.eng = s.core.eng := rfl
@[simp] theorem State.emptyG_core_loc (s : State) (g : Nat) : (s.emptyG g).core.loc = s.core.loc := rfl
@[simp] theorem State.emptyG_core_sy (s : State) (g : Nat) : (s.emptyG g).core.sy = s.core.sy := rfl
@[simp] theorem State.emptyG_core_dbg (s : State) (g : Nat) : (s.emptyG g).core.dbg = s.core.dbg := rfl
@[simp] theorem State.emptyG_core_flight (s : State) (g : Nat) : (s.emptyG g).core.flight = s.core.flight := rfl
@[simp] theorem State.emptyG_core_waiting (s : State) (g : Nat) : (s.emptyG g).core.waiting = s.core.waiting := rfl

/-! ### emptyV -/

@[simp] theorem State.emptyV_agenda (s : State) (r : Nat) : (s.emptyV r).agenda = s.agenda := rfl
@[simp] theorem State.emptyV_turn (s : State) (r : Nat) : (s.emptyV r).turn = s.turn := rfl
@[simp] theorem State.emptyV_others (s : State) (r : Nat) : (s.emptyV r).others = s.others := rfl
@[simp] theorem State.emptyV_mem (s : State) (r : Nat) : (s.emptyV r).mem = s.mem := rfl
@[simp] theorem State.emptyV_dies (s : State) (r : Nat) : (s.emptyV r).dies = s.dies := rfl
@[simp] theorem State.emptyV_clusters (s : State) (r : Nat) : (s.emptyV r).clusters = s.clusters := rfl
@[simp] theorem State.emptyV_fe (s : State) (r : Nat) : (s.emptyV r).fe = s.fe := rfl
@[simp] theorem State.emptyV_crook (s : State) (r : Nat) : (s.emptyV r).crook = s.crook := rfl
@[simp] theorem State.emptyV_fab (s : State) (r : Nat) : (s.emptyV r).fab = s.fab := rfl
@[simp] theorem State.emptyV_host (s : State) (r : Nat) : (s.emptyV r).host = s.host := rfl
@[simp] theorem State.emptyV_free (s : State) (r : Nat) : (s.emptyV r).free = s.free := rfl
@[simp] theorem State.emptyV_core_id (s : State) (r : Nat) : (s.emptyV r).core.id = s.core.id := rfl
@[simp] theorem State.emptyV_core_task (s : State) (r : Nat) : (s.emptyV r).core.task = s.core.task := rfl
@[simp] theorem State.emptyV_core_seq (s : State) (r : Nat) : (s.emptyV r).core.seq = s.core.seq := rfl
@[simp] theorem State.emptyV_core_sc (s : State) (r : Nat) : (s.emptyV r).core.sc = s.core.sc := rfl
@[simp] theorem State.emptyV_core_lp (s : State) (r : Nat) : (s.emptyV r).core.lp = s.core.lp := rfl
@[simp] theorem State.emptyV_core_tr (s : State) (r : Nat) : (s.emptyV r).core.tr = s.core.tr := rfl
@[simp] theorem State.emptyV_core_st (s : State) (r : Nat) : (s.emptyV r).core.st = s.core.st := rfl
@[simp] theorem State.emptyV_core_vec (s : State) (r : Nat) : (s.emptyV r).core.vec = { s.core.vec with empty := insertNat r s.core.vec.empty } := rfl
@[simp] theorem State.emptyV_core_eng (s : State) (r : Nat) : (s.emptyV r).core.eng = s.core.eng := rfl
@[simp] theorem State.emptyV_core_loc (s : State) (r : Nat) : (s.emptyV r).core.loc = s.core.loc := rfl
@[simp] theorem State.emptyV_core_sy (s : State) (r : Nat) : (s.emptyV r).core.sy = s.core.sy := rfl
@[simp] theorem State.emptyV_core_dbg (s : State) (r : Nat) : (s.emptyV r).core.dbg = s.core.dbg := rfl
@[simp] theorem State.emptyV_core_flight (s : State) (r : Nat) : (s.emptyV r).core.flight = s.core.flight := rfl
@[simp] theorem State.emptyV_core_waiting (s : State) (r : Nat) : (s.emptyV r).core.waiting = s.core.waiting := rfl

/-! ### writeG -/

@[simp] theorem State.writeG_agenda (s : State) (n g : Nat) (v : Word) : (s.writeG n g v).agenda = s.agenda := rfl
@[simp] theorem State.writeG_turn (s : State) (n g : Nat) (v : Word) : (s.writeG n g v).turn = s.turn := rfl
@[simp] theorem State.writeG_others (s : State) (n g : Nat) (v : Word) : (s.writeG n g v).others = s.others := rfl
@[simp] theorem State.writeG_mem (s : State) (n g : Nat) (v : Word) : (s.writeG n g v).mem = s.mem := rfl
@[simp] theorem State.writeG_dies (s : State) (n g : Nat) (v : Word) : (s.writeG n g v).dies = s.dies := rfl
@[simp] theorem State.writeG_clusters (s : State) (n g : Nat) (v : Word) : (s.writeG n g v).clusters = s.clusters := rfl
@[simp] theorem State.writeG_fe (s : State) (n g : Nat) (v : Word) : (s.writeG n g v).fe = s.fe := rfl
@[simp] theorem State.writeG_crook (s : State) (n g : Nat) (v : Word) : (s.writeG n g v).crook = s.crook := rfl
@[simp] theorem State.writeG_fab (s : State) (n g : Nat) (v : Word) : (s.writeG n g v).fab = s.fab := rfl
@[simp] theorem State.writeG_host (s : State) (n g : Nat) (v : Word) : (s.writeG n g v).host = s.host := rfl
@[simp] theorem State.writeG_free (s : State) (n g : Nat) (v : Word) : (s.writeG n g v).free = s.free := rfl
@[simp] theorem State.writeG_core_id (s : State) (n g : Nat) (v : Word) : (s.writeG n g v).core.id = s.core.id := rfl
@[simp] theorem State.writeG_core_task (s : State) (n g : Nat) (v : Word) : (s.writeG n g v).core.task = s.core.task := rfl
@[simp] theorem State.writeG_core_seq (s : State) (n g : Nat) (v : Word) : (s.writeG n g v).core.seq = s.core.seq := rfl
@[simp] theorem State.writeG_core_sc (s : State) (n g : Nat) (v : Word) : (s.writeG n g v).core.sc = s.core.sc := rfl
@[simp] theorem State.writeG_core_lp (s : State) (n g : Nat) (v : Word) : (s.writeG n g v).core.lp = s.core.lp := rfl
@[simp] theorem State.writeG_core_tr (s : State) (n g : Nat) (v : Word) : (s.writeG n g v).core.tr = s.core.tr := rfl
@[simp] theorem State.writeG_core_st (s : State) (n g : Nat) (v : Word) : (s.writeG n g v).core.st = s.core.st := rfl
@[simp] theorem State.writeG_core_vec (s : State) (n g : Nat) (v : Word) : (s.writeG n g v).core.vec = s.core.vec := rfl
@[simp] theorem State.writeG_core_eng (s : State) (n g : Nat) (v : Word) : (s.writeG n g v).core.eng = s.core.eng := rfl
@[simp] theorem State.writeG_core_loc (s : State) (n g : Nat) (v : Word) : (s.writeG n g v).core.loc = s.core.loc := rfl
@[simp] theorem State.writeG_core_sy (s : State) (n g : Nat) (v : Word) : (s.writeG n g v).core.sy = s.core.sy := rfl
@[simp] theorem State.writeG_core_dbg (s : State) (n g : Nat) (v : Word) : (s.writeG n g v).core.dbg = s.core.dbg := rfl
@[simp] theorem State.writeG_core_flight (s : State) (n g : Nat) (v : Word) : (s.writeG n g v).core.flight = s.core.flight ++ [⟨s.core.seq.cyc + n, .g (s.core.phys g) v false⟩] := rfl
@[simp] theorem State.writeG_core_waiting (s : State) (n g : Nat) (v : Word) : (s.writeG n g v).core.waiting = s.core.waiting := rfl

/-! ### writeP -/

@[simp] theorem State.writeP_agenda (s : State) (n : Nat) (p : BitVec 4) (b : Bool) : (s.writeP n p b).agenda = s.agenda := rfl
@[simp] theorem State.writeP_turn (s : State) (n : Nat) (p : BitVec 4) (b : Bool) : (s.writeP n p b).turn = s.turn := rfl
@[simp] theorem State.writeP_others (s : State) (n : Nat) (p : BitVec 4) (b : Bool) : (s.writeP n p b).others = s.others := rfl
@[simp] theorem State.writeP_mem (s : State) (n : Nat) (p : BitVec 4) (b : Bool) : (s.writeP n p b).mem = s.mem := rfl
@[simp] theorem State.writeP_dies (s : State) (n : Nat) (p : BitVec 4) (b : Bool) : (s.writeP n p b).dies = s.dies := rfl
@[simp] theorem State.writeP_clusters (s : State) (n : Nat) (p : BitVec 4) (b : Bool) : (s.writeP n p b).clusters = s.clusters := rfl
@[simp] theorem State.writeP_fe (s : State) (n : Nat) (p : BitVec 4) (b : Bool) : (s.writeP n p b).fe = s.fe := rfl
@[simp] theorem State.writeP_crook (s : State) (n : Nat) (p : BitVec 4) (b : Bool) : (s.writeP n p b).crook = s.crook := rfl
@[simp] theorem State.writeP_fab (s : State) (n : Nat) (p : BitVec 4) (b : Bool) : (s.writeP n p b).fab = s.fab := rfl
@[simp] theorem State.writeP_host (s : State) (n : Nat) (p : BitVec 4) (b : Bool) : (s.writeP n p b).host = s.host := rfl
@[simp] theorem State.writeP_free (s : State) (n : Nat) (p : BitVec 4) (b : Bool) : (s.writeP n p b).free = s.free := rfl
@[simp] theorem State.writeP_core_id (s : State) (n : Nat) (p : BitVec 4) (b : Bool) : (s.writeP n p b).core.id = s.core.id := rfl
@[simp] theorem State.writeP_core_task (s : State) (n : Nat) (p : BitVec 4) (b : Bool) : (s.writeP n p b).core.task = s.core.task := rfl
@[simp] theorem State.writeP_core_seq (s : State) (n : Nat) (p : BitVec 4) (b : Bool) : (s.writeP n p b).core.seq = s.core.seq := rfl
@[simp] theorem State.writeP_core_sc (s : State) (n : Nat) (p : BitVec 4) (b : Bool) : (s.writeP n p b).core.sc = s.core.sc := rfl
@[simp] theorem State.writeP_core_lp (s : State) (n : Nat) (p : BitVec 4) (b : Bool) : (s.writeP n p b).core.lp = s.core.lp := rfl
@[simp] theorem State.writeP_core_tr (s : State) (n : Nat) (p : BitVec 4) (b : Bool) : (s.writeP n p b).core.tr = s.core.tr := rfl
@[simp] theorem State.writeP_core_st (s : State) (n : Nat) (p : BitVec 4) (b : Bool) : (s.writeP n p b).core.st = s.core.st := rfl
@[simp] theorem State.writeP_core_vec (s : State) (n : Nat) (p : BitVec 4) (b : Bool) : (s.writeP n p b).core.vec = s.core.vec := rfl
@[simp] theorem State.writeP_core_eng (s : State) (n : Nat) (p : BitVec 4) (b : Bool) : (s.writeP n p b).core.eng = s.core.eng := rfl
@[simp] theorem State.writeP_core_loc (s : State) (n : Nat) (p : BitVec 4) (b : Bool) : (s.writeP n p b).core.loc = s.core.loc := rfl
@[simp] theorem State.writeP_core_sy (s : State) (n : Nat) (p : BitVec 4) (b : Bool) : (s.writeP n p b).core.sy = s.core.sy := rfl
@[simp] theorem State.writeP_core_dbg (s : State) (n : Nat) (p : BitVec 4) (b : Bool) : (s.writeP n p b).core.dbg = s.core.dbg := rfl
@[simp] theorem State.writeP_core_flight (s : State) (n : Nat) (p : BitVec 4) (b : Bool) : (s.writeP n p b).core.flight = s.core.flight ++ [⟨s.core.seq.cyc + n, .p p.toNat b⟩] := rfl
@[simp] theorem State.writeP_core_waiting (s : State) (n : Nat) (p : BitVec 4) (b : Bool) : (s.writeP n p b).core.waiting = s.core.waiting := rfl

/-! ### A die, a cluster -/

@[simp] theorem State.onDie_agenda (s : State) (d : Nat) (f : Die → Die) : (s.onDie d f).agenda = s.agenda := rfl
@[simp] theorem State.onDie_turn (s : State) (d : Nat) (f : Die → Die) : (s.onDie d f).turn = s.turn := rfl
@[simp] theorem State.onDie_core (s : State) (d : Nat) (f : Die → Die) : (s.onDie d f).core = s.core := rfl
@[simp] theorem State.onDie_others (s : State) (d : Nat) (f : Die → Die) : (s.onDie d f).others = s.others := rfl
@[simp] theorem State.onDie_mem (s : State) (d : Nat) (f : Die → Die) : (s.onDie d f).mem = s.mem := rfl
@[simp] theorem State.onDie_clusters (s : State) (d : Nat) (f : Die → Die) : (s.onDie d f).clusters = s.clusters := rfl
@[simp] theorem State.onDie_fe (s : State) (d : Nat) (f : Die → Die) : (s.onDie d f).fe = s.fe := rfl
@[simp] theorem State.onDie_crook (s : State) (d : Nat) (f : Die → Die) : (s.onDie d f).crook = s.crook := rfl
@[simp] theorem State.onDie_fab (s : State) (d : Nat) (f : Die → Die) : (s.onDie d f).fab = s.fab := rfl
@[simp] theorem State.onDie_host (s : State) (d : Nat) (f : Die → Die) : (s.onDie d f).host = s.host := rfl
@[simp] theorem State.onDie_free (s : State) (d : Nat) (f : Die → Die) : (s.onDie d f).free = s.free := rfl
@[simp] theorem State.onCluster_agenda (s : State) (d : Nat) (f : Cluster → Cluster) : (s.onCluster d f).agenda = s.agenda := rfl
@[simp] theorem State.onCluster_turn (s : State) (d : Nat) (f : Cluster → Cluster) : (s.onCluster d f).turn = s.turn := rfl
@[simp] theorem State.onCluster_core (s : State) (d : Nat) (f : Cluster → Cluster) : (s.onCluster d f).core = s.core := rfl
@[simp] theorem State.onCluster_others (s : State) (d : Nat) (f : Cluster → Cluster) : (s.onCluster d f).others = s.others := rfl
@[simp] theorem State.onCluster_mem (s : State) (d : Nat) (f : Cluster → Cluster) : (s.onCluster d f).mem = s.mem := rfl
@[simp] theorem State.onCluster_dies (s : State) (d : Nat) (f : Cluster → Cluster) : (s.onCluster d f).dies = s.dies := rfl
@[simp] theorem State.onCluster_fe (s : State) (d : Nat) (f : Cluster → Cluster) : (s.onCluster d f).fe = s.fe := rfl
@[simp] theorem State.onCluster_crook (s : State) (d : Nat) (f : Cluster → Cluster) : (s.onCluster d f).crook = s.crook := rfl
@[simp] theorem State.onCluster_fab (s : State) (d : Nat) (f : Cluster → Cluster) : (s.onCluster d f).fab = s.fab := rfl
@[simp] theorem State.onCluster_host (s : State) (d : Nat) (f : Cluster → Cluster) : (s.onCluster d f).host = s.host := rfl
@[simp] theorem State.onCluster_free (s : State) (d : Nat) (f : Cluster → Cluster) : (s.onCluster d f).free = s.free := rfl

end Sys2Proof.Machine
end

