-- ==== Sys2Proof/Laws/Ops.lean ====
section
/-! SUPPORT. What the shared operations answer, said once each: the ways an operation ends, how an instruction settles,
what taking a trap and a transfer leave. -/

namespace Sys2Proof.Machine

/-! ### Answers -/

/-- Every state that an operation answers has the property `P`. -/
def Act.All {α : Type} (P : State → Prop) : Act α → Prop
  | .ok _ s => P s
  | .trap _ s => P s
  | .hold _ s => P s

@[simp] theorem Act.all_ok {α : Type} (P : State → Prop) (a : α) (s : State) : (Act.ok a s).All P ↔ P s := Iff.rfl
@[simp] theorem Act.all_trap {α : Type} (P : State → Prop) (t : TrapInfo) (s : State) :
    (Act.trap t s : Act α).All P ↔ P s := Iff.rfl
@[simp] theorem Act.all_hold {α : Type} (P : State → Prop) (h : Hold) (s : State) :
    (Act.hold h s : Act α).All P ↔ P s := Iff.rfl
@[simp] theorem State.ok_all (P : State → Prop) (s : State) : s.ok.All P ↔ P s := Iff.rfl
@[simp] theorem State.raise_all {α : Type} (P : State → Prop) (s : State) (c : Nat) :
    (s.raise c : Act α).All P ↔ P s := Iff.rfl
@[simp] theorem State.raiseWhy_all {α : Type} (P : State → Prop) (s : State) (c r : Nat) :
    (s.raiseWhy c r : Act α).All P ↔ P s := Iff.rfl

@[simp] theorem Act.bind_ok {α β : Type} (a : α) (s : State) (f : α → State → Act β) : (Act.ok a s).bind f = f a s := rfl
@[simp] theorem Act.bind_trap {α β : Type} (t : TrapInfo) (s : State) (f : α → State → Act β) :
    (Act.trap t s : Act α).bind f = .trap t s := rfl
@[simp] theorem Act.bind_hold {α β : Type} (h : Hold) (s : State) (f : α → State → Act β) :
    (Act.hold h s : Act α).bind f = .hold h s := rfl
@[simp] theorem State.ok_bind {β : Type} (s : State) (f : Unit → State → Act β) : s.ok.bind f = f () s := rfl
@[simp] theorem State.raise_bind {α β : Type} (s : State) (c : Nat) (f : α → State → Act β) :
    (s.raise c : Act α).bind f = s.raise c := rfl
@[simp] theorem State.raiseWhy_bind {α β : Type} (s : State) (c r : Nat) (f : α → State → Act β) :
    (s.raiseWhy c r : Act α).bind f = s.raiseWhy c r := rfl

/-- A sequence keeps a property that both its parts keep. -/
theorem Act.bind_all {α β : Type} {P : State → Prop} {x : Act α} {f : α → State → Act β} (hx : x.All P)
    (hf : ∀ a s, x = .ok a s → P s → (f a s).All P) : (x.bind f).All P := by
  cases x with
  | ok a s => exact hf a s rfl hx
  | trap t s => exact hx
  | hold h s => exact hx

/-- How an instruction settles. -/
theorem settle_cases {k : Nat} {r : Res} {t : State} (h : settle k r = .next t) :
    (∃ s, r = .ok () s ∧ t = s.ended .issued) ∨
    (∃ i s, r = .trap i s ∧ t = (s.takeTrap i k).ended (.trapped i.cause i.stage)) ∨
    (∃ w s, r = .hold w s ∧ t = (s.await w).ended (.held w)) := by
  cases r with
  | ok a s => cases a; exact .inl ⟨s, rfl, by simpa [settle] using h.symm⟩
  | trap i s => exact .inr (.inl ⟨i, s, rfl, by simpa [settle] using h.symm⟩)
  | hold w s => exact .inr (.inr ⟨w, s, rfl, by simpa [settle] using h.symm⟩)

/-- A property that ending a bundle, taking a trap and asking for bytes of another package keep holds of every next state of
an instruction whose answer keeps it. -/
theorem settle_all {P : State → Prop} (he : ∀ s i, P s → P (s.ended i)) (ht : ∀ s i k, P s → P (s.takeTrap i k))
    (ha : ∀ s w, P s → P (s.await w)) {k : Nat} {r : Res} {t : State} (hr : r.All P) (h : settle k r = .next t) : P t := by
  obtain ⟨s, rfl, rfl⟩ | ⟨i, s, rfl, rfl⟩ | ⟨w, s, rfl, rfl⟩ := settle_cases h
  · exact he _ _ hr
  · exact he _ _ (ht _ _ _ hr)
  · exact he _ _ (ha _ _ hr)

/-! ### Operands -/

/-- The registers named are full. -/
theorem firstEmptyG_eq_none {c : Core} {gs : List (BitVec 5)} :
    c.firstEmptyG gs = none ↔ ∀ g ∈ gs, c.gEmpty g.toNat = false := by
  simp [Core.firstEmptyG]

/-- With full registers an S-slot or K-slot instruction goes on. -/
theorem ready_full {α : Type} {s : State} {w : Bool} {gs : List (BitVec 5)} {k : State → Act α}
    (h : ∀ g ∈ gs, s.core.gEmpty g.toNat = false) : s.ready w gs k = k s := by
  simp [State.ready, firstEmptyG_eq_none.2 h]

/-- The ways an S-slot or K-slot instruction begins: it goes on with full registers, holds with B = 1, or traps
FE_EMPTY (R63). -/
theorem ready_cases {α : Type} (s : State) (w : Bool) (gs : List (BitVec 5)) (k : State → Act α) :
    (s.ready w gs k = k s ∧ ∀ g ∈ gs, s.core.gEmpty g.toNat = false) ∨
    (∃ g, w = true ∧ s.ready w gs k = .hold (.emptyG (s.core.phys g)) s) ∨
    (∃ g, w = false ∧ s.ready w gs k = .trap (feEmptyG g) s) := by
  unfold State.ready
  cases h : s.core.firstEmptyG gs with
  | none => exact .inl ⟨rfl, firstEmptyG_eq_none.1 h⟩
  | some g =>
    cases w
    · exact .inr (.inr ⟨g, rfl, rfl⟩)
    · exact .inr (.inl ⟨g, rfl, rfl⟩)

theorem ready_all {α : Type} {P : State → Prop} {s : State} {w : Bool} {gs : List (BitVec 5)} {k : State → Act α}
    (hs : P s) (hk : (k s).All P) : (s.ready w gs k).All P := by
  obtain ⟨h, -⟩ | ⟨g, -, h⟩ | ⟨g, -, h⟩ := ready_cases s w gs k <;> rw [h]
  · exact hk
  · exact hs
  · exact hs

/-- The ways a V-slot instruction begins (R57, R63, R71, R124, R256): its state is the one it was given until it goes
on. -/
theorem vready_all {α : Type} {P : State → Prop} {s : State} {e : BitVec 1} {w : Bool} {gs : List (BitVec 5)}
    {src dst : List Nat} {k : State → Act α} (hs : P s) (hk : (k s).All P) : (s.vready e w gs src dst k).All P := by
  unfold State.vready
  dsimp only
  generalize s.core.firstEmptyG gs = a
  generalize s.core.firstEmptyV ((src ++ dst).map s.core.vphys) = b
  generalize s.core.firstBad (src.map s.core.vphys) = d
  generalize (src ++ dst).any (fun v => decide (159 < v)) = x
  by_cases hb : s.core.seq.cyc < (s.core.engine e.toNat).busy
  · simp only [if_pos hb]
    cases w <;> cases a <;> cases b <;> exact hs
  · simp only [if_neg hb]
    cases w <;> cases a <;> cases b <;> cases x <;> cases d <;> first | exact hs | exact hk

/-! ### Taking a trap (R366 to R371) -/

/-- What taking a trap leaves as it was: memory, the package outside the core but for the error records and the free values drawn
(R371), and of the core everything but the trap state, the loops' ACT, the sequencer, the window depth, the engines' occupancy and
the results in flight. -/
structure Untouched (s t : State) : Prop where
  state : t = { s with agenda := t.agenda, core := t.core, dies := t.dies, free := t.free }
  core : t.core = { s.core with seq := t.core.seq, sc := t.core.sc, lp := t.core.lp, tr := t.core.tr, vec := t.core.vec,
                                flight := t.core.flight }
  sc : t.core.sc = { s.core.sc with depth := t.core.sc.depth }
  vec : t.core.vec = { s.core.vec with e0 := { s.core.vec.e0 with busy := t.core.vec.e0.busy },
                                       e1 := { s.core.vec.e1 with busy := t.core.vec.e1.busy } }

theorem Untouched.refl (s : State) : Untouched s s := ⟨rfl, rfl, rfl, rfl⟩

theorem Untouched.trans {s t u : State} (h : Untouched s t) (g : Untouched t u) : Untouched s u := by
  obtain ⟨h1, h2, h3, h4⟩ := h
  obtain ⟨g1, g2, g3, g4⟩ := g
  refine ⟨?_, ?_, ?_, ?_⟩
  · rw [g1, h1]
  · rw [g2, h2]
  · rw [g3, h3]
  · rw [g4, h4]

theorem untouched_push (s : State) (es : List Instr) : Untouched s (s.push es) := ⟨rfl, rfl, rfl, rfl⟩

theorem untouched_enterMonitor (s : State) (i : TrapInfo) (k : Nat) :
    Untouched s (s.onCore fun c => c.enterMonitor i k) := ⟨rfl, rfl, rfl, rfl⟩

theorem untouched_enterTask (s : State) (i : TrapInfo) (k : Nat) :
    Untouched s (s.onCore fun c => c.enterTask i k) := ⟨rfl, rfl, rfl, rfl⟩

theorem untouched_unstep (s : State) (i : TrapInfo) : Untouched s (s.onCore fun c => c.unstep i) := by
  unfold State.onCore Core.unstep
  dsimp only
  repeat' (first | exact ⟨rfl, rfl, rfl, rfl⟩ | split)

theorem untouched_double (s : State) (a b k : Nat) : Untouched s (s.double a b k) := by
  unfold State.double
  refine Untouched.trans ?_ (untouched_push _ _)
  unfold State.onCore
  dsimp only
  split <;> exact ⟨rfl, rfl, rfl, rfl⟩

theorem untouched_ended (s : State) (i : Issue) : Untouched s (s.ended i) := ⟨rfl, rfl, rfl, rfl⟩

theorem untouched_takeTrap (s : State) (i : TrapInfo) (k : Nat) : Untouched s (s.takeTrap i k) := by
  unfold State.takeTrap
  refine Untouched.trans (untouched_unstep s i) ?_
  dsimp only
  split
  · exact untouched_double _ _ _ _
  · split
    · split
      · exact (untouched_enterMonitor _ _ _).trans (untouched_push _ _)
      · exact untouched_enterMonitor _ _ _
    · split
      · exact untouched_double _ _ _ _
      · split
        · exact (untouched_enterMonitor _ _ _).trans (untouched_push _ _)
        · exact untouched_enterTask _ _ _

/-! ### Transfers (R79, R90) -/

/-- A transfer begins unless an active loop ends in a delay bundle. -/
theorem transfer_eq {s : State} {l : Loops} {tgt : Nat} {arr : Arrive}
    (h0 : l.l0.act = true → l.l0.fin ≠ s.core.seq.pc + 1 ∧ l.l0.fin ≠ s.core.seq.pc + 2)
    (h1 : l.l1.act = true → l.l1.fin ≠ s.core.seq.pc + 1 ∧ l.l1.fin ≠ s.core.seq.pc + 2) :
    s.transfer l tgt arr = ((s.onLp fun _ => l).onSeq fun q => { q with xfer := some ⟨tgt, 3, arr⟩ }).ok := by
  unfold State.transfer State.unlessDelay
  rw [if_neg]
  unfold Loops.endsInDelay
  cases a0 : l.l0.act <;> cases a1 : l.l1.act <;> simp_all

theorem transfer_all {P : State → Prop} {s : State} {l : Loops} {tgt : Nat} {arr : Arrive} (hs : P s)
    (ht : P ((s.onLp fun _ => l).onSeq fun q => { q with xfer := some ⟨tgt, 3, arr⟩ })) : (s.transfer l tgt arr).All P := by
  unfold State.transfer State.unlessDelay
  split
  · exact hs
  · exact ht

/-! ### Places in memory -/

/-- An access that the handle admits to the scratchpad reaches the pool (R113, R226). -/
theorem scalarTarget_pool {s : State} {h : Nat} {off : Int} {size p : Nat} {u : Use}
    (k : (s.core.handle h).kind = 2) (hr : u.reads = true → (s.core.handle h).r = true)
    (hw : u.writes = true → (s.core.handle h).w = true) (h0 : 0 ≤ off) (hl : off + size ≤ (s.core.handle h).limit)
    (hp : (p : Int) = (s.core.handle h).vbase + off) (ha : p % size = 0) (hb : s.core.inScratch p size = true) :
    s.scalarTarget h off size u = .ok (.pool p) s := by
  have e : (s.core.handle h).vbase + off.toNat = p := by omega
  have m : ((s.core.handle h).vbase : Int) + off = p := hp.symm
  have a : ((p : Nat) : Int) % (size : Int) = 0 := by omega
  have g : ¬ (off < 0 ∨ ((s.core.handle h).limit : Int) < off + size) := by omega
  have q : ¬ ((u.reads && !(s.core.handle h).r) = true ∨ (u.writes && !(s.core.handle h).w) = true) := by
    cases hu : u.reads <;> cases hv : u.writes <;> simp_all
  simp only [State.scalarTarget, State.handleAddr, m, a, ne_eq, not_true_eq_false, if_false, State.through, k]
  simp [g, e, hb]
  cases hu : u.reads <;> cases hv : u.writes <;> simp_all

end Sys2Proof.Machine
end

