-- ==== Sys2Proof/Laws/PerInstr.lean ====
section
/-! SUPPORT. What holds of every instruction as syntax, one lemma per constructor. -/

namespace Sys2Proof.Laws.Fields

/-- An instruction either is an event, which has no slot and no word, or stands in a slot and its fields cover exactly
the 32 bits of a slot word (R58). -/
def Statement (i : Instr) : Prop :=
  i.isEvent = !i.slot.isSome ∧ (i.fields.map Prod.fst).foldl (· + ·) 0 = if i.isEvent then 0 else 32

theorem br : ∀ x0, Statement (.br x0) := by
  intros; exact ⟨rfl, rfl⟩
theorem brp : ∀ x0 x1, Statement (.brp x0 x1) := by
  intros; exact ⟨rfl, rfl⟩
theorem brn : ∀ x0 x1, Statement (.brn x0 x1) := by
  intros; exact ⟨rfl, rfl⟩
theorem call : ∀ x0, Statement (.call x0) := by
  intros; exact ⟨rfl, rfl⟩
theorem calli : ∀ x0 x1, Statement (.calli x0 x1) := by
  intros; exact ⟨rfl, rfl⟩
theorem jmpi : ∀ x0 x1, Statement (.jmpi x0 x1) := by
  intros; exact ⟨rfl, rfl⟩
theorem jtab : ∀ x0 x1 x2, Statement (.jtab x0 x1 x2) := by
  intros; exact ⟨rfl, rfl⟩
theorem loop : ∀ x0 x1 x2, Statement (.loop x0 x1 x2) := by
  intros; exact ⟨rfl, rfl⟩
theorem loopi : ∀ x0 x1 x2, Statement (.loopi x0 x1 x2) := by
  intros; exact ⟨rfl, rfl⟩
theorem lpipe : ∀ x0 x1 x2 x3, Statement (.lpipe x0 x1 x2 x3) := by
  intros; exact ⟨rfl, rfl⟩
theorem lbrk : ∀ x0, Statement (.lbrk x0) := by
  intros; exact ⟨rfl, rfl⟩
theorem trap : ∀ x0, Statement (.trap x0) := by
  intros; exact ⟨rfl, rfl⟩
theorem exit : ∀ x0, Statement (.exit x0) := by
  intros; exact ⟨rfl, rfl⟩
theorem abort : ∀ x0, Statement (.abort x0) := by
  intros; exact ⟨rfl, rfl⟩
theorem brk : ∀ x0, Statement (.brk x0) := by
  intros; exact ⟨rfl, rfl⟩
theorem segb : ∀ x0, Statement (.segb x0) := by
  intros; exact ⟨rfl, rfl⟩
theorem syscall : ∀ x0, Statement (.syscall x0) := by
  intros; exact ⟨rfl, rfl⟩
theorem add : ∀ x0 x1 x2 x3, Statement (.add x0 x1 x2 x3) := by
  intros; exact ⟨rfl, rfl⟩
theorem sub : ∀ x0 x1 x2 x3, Statement (.sub x0 x1 x2 x3) := by
  intros; exact ⟨rfl, rfl⟩
theorem and : ∀ x0 x1 x2 x3, Statement (.and x0 x1 x2 x3) := by
  intros; exact ⟨rfl, rfl⟩
theorem or : ∀ x0 x1 x2 x3, Statement (.or x0 x1 x2 x3) := by
  intros; exact ⟨rfl, rfl⟩
theorem xor : ∀ x0 x1 x2 x3, Statement (.xor x0 x1 x2 x3) := by
  intros; exact ⟨rfl, rfl⟩
theorem andn : ∀ x0 x1 x2 x3, Statement (.andn x0 x1 x2 x3) := by
  intros; exact ⟨rfl, rfl⟩
theorem shl : ∀ x0 x1 x2 x3, Statement (.shl x0 x1 x2 x3) := by
  intros; exact ⟨rfl, rfl⟩
theorem shr : ∀ x0 x1 x2 x3, Statement (.shr x0 x1 x2 x3) := by
  intros; exact ⟨rfl, rfl⟩
theorem sar : ∀ x0 x1 x2 x3, Statement (.sar x0 x1 x2 x3) := by
  intros; exact ⟨rfl, rfl⟩
theorem rol : ∀ x0 x1 x2 x3, Statement (.rol x0 x1 x2 x3) := by
  intros; exact ⟨rfl, rfl⟩
theorem mul : ∀ x0 x1 x2 x3, Statement (.mul x0 x1 x2 x3) := by
  intros; exact ⟨rfl, rfl⟩
theorem mulh : ∀ x0 x1 x2 x3, Statement (.mulh x0 x1 x2 x3) := by
  intros; exact ⟨rfl, rfl⟩
theorem mulhu : ∀ x0 x1 x2 x3, Statement (.mulhu x0 x1 x2 x3) := by
  intros; exact ⟨rfl, rfl⟩
theorem div : ∀ x0 x1 x2 x3, Statement (.div x0 x1 x2 x3) := by
  intros; exact ⟨rfl, rfl⟩
theorem divu : ∀ x0 x1 x2 x3, Statement (.divu x0 x1 x2 x3) := by
  intros; exact ⟨rfl, rfl⟩
theorem rem : ∀ x0 x1 x2 x3, Statement (.rem x0 x1 x2 x3) := by
  intros; exact ⟨rfl, rfl⟩
theorem remu : ∀ x0 x1 x2 x3, Statement (.remu x0 x1 x2 x3) := by
  intros; exact ⟨rfl, rfl⟩
theorem min : ∀ x0 x1 x2 x3, Statement (.min x0 x1 x2 x3) := by
  intros; exact ⟨rfl, rfl⟩
theorem max : ∀ x0 x1 x2 x3, Statement (.max x0 x1 x2 x3) := by
  intros; exact ⟨rfl, rfl⟩
theorem minu : ∀ x0 x1 x2 x3, Statement (.minu x0 x1 x2 x3) := by
  intros; exact ⟨rfl, rfl⟩
theorem maxu : ∀ x0 x1 x2 x3, Statement (.maxu x0 x1 x2 x3) := by
  intros; exact ⟨rfl, rfl⟩
theorem clz : ∀ x0 x1 x2, Statement (.clz x0 x1 x2) := by
  intros; exact ⟨rfl, rfl⟩
theorem ctz : ∀ x0 x1 x2, Statement (.ctz x0 x1 x2) := by
  intros; exact ⟨rfl, rfl⟩
theorem popc : ∀ x0 x1 x2, Statement (.popc x0 x1 x2) := by
  intros; exact ⟨rfl, rfl⟩
theorem sextb : ∀ x0 x1 x2, Statement (.sextb x0 x1 x2) := by
  intros; exact ⟨rfl, rfl⟩
theorem sexth : ∀ x0 x1 x2, Statement (.sexth x0 x1 x2) := by
  intros; exact ⟨rfl, rfl⟩
theorem sextw : ∀ x0 x1 x2, Statement (.sextw x0 x1 x2) := by
  intros; exact ⟨rfl, rfl⟩
theorem addi : ∀ x0 x1 x2 x3, Statement (.addi x0 x1 x2 x3) := by
  intros; exact ⟨rfl, rfl⟩
theorem andi : ∀ x0 x1 x2 x3, Statement (.andi x0 x1 x2 x3) := by
  intros; exact ⟨rfl, rfl⟩
theorem ori : ∀ x0 x1 x2 x3, Statement (.ori x0 x1 x2 x3) := by
  intros; exact ⟨rfl, rfl⟩
theorem xori : ∀ x0 x1 x2 x3, Statement (.xori x0 x1 x2 x3) := by
  intros; exact ⟨rfl, rfl⟩
theorem shli : ∀ x0 x1 x2 x3, Statement (.shli x0 x1 x2 x3) := by
  intros; exact ⟨rfl, rfl⟩
theorem shri : ∀ x0 x1 x2 x3, Statement (.shri x0 x1 x2 x3) := by
  intros; exact ⟨rfl, rfl⟩
theorem sari : ∀ x0 x1 x2 x3, Statement (.sari x0 x1 x2 x3) := by
  intros; exact ⟨rfl, rfl⟩
theorem muli : ∀ x0 x1 x2 x3, Statement (.muli x0 x1 x2 x3) := by
  intros; exact ⟨rfl, rfl⟩
theorem movi : ∀ x0 x1, Statement (.movi x0 x1) := by
  intros; exact ⟨rfl, rfl⟩
theorem cmp : ∀ x0 x1 x2 x3 x4, Statement (.cmp x0 x1 x2 x3 x4) := by
  intros; exact ⟨rfl, rfl⟩
theorem cmpi : ∀ x0 x1 x2 x3 x4, Statement (.cmpi x0 x1 x2 x3 x4) := by
  intros; exact ⟨rfl, rfl⟩
theorem pand : ∀ x0 x1 x2, Statement (.pand x0 x1 x2) := by
  intros; exact ⟨rfl, rfl⟩
theorem por : ∀ x0 x1 x2, Statement (.por x0 x1 x2) := by
  intros; exact ⟨rfl, rfl⟩
theorem pxor : ∀ x0 x1 x2, Statement (.pxor x0 x1 x2) := by
  intros; exact ⟨rfl, rfl⟩
theorem pandn : ∀ x0 x1 x2, Statement (.pandn x0 x1 x2) := by
  intros; exact ⟨rfl, rfl⟩
theorem pnot : ∀ x0 x1, Statement (.pnot x0 x1) := by
  intros; exact ⟨rfl, rfl⟩
theorem sel : ∀ x0 x1 x2 x3 x4, Statement (.sel x0 x1 x2 x3 x4) := by
  intros; exact ⟨rfl, rfl⟩
theorem fadd : ∀ x0 x1 x2 x3, Statement (.fadd x0 x1 x2 x3) := by
  intros; exact ⟨rfl, rfl⟩
theorem fsub : ∀ x0 x1 x2 x3, Statement (.fsub x0 x1 x2 x3) := by
  intros; exact ⟨rfl, rfl⟩
theorem fmul : ∀ x0 x1 x2 x3, Statement (.fmul x0 x1 x2 x3) := by
  intros; exact ⟨rfl, rfl⟩
theorem fdiv : ∀ x0 x1 x2 x3, Statement (.fdiv x0 x1 x2 x3) := by
  intros; exact ⟨rfl, rfl⟩
theorem fsqrt : ∀ x0 x1 x2, Statement (.fsqrt x0 x1 x2) := by
  intros; exact ⟨rfl, rfl⟩
theorem fmin : ∀ x0 x1 x2 x3, Statement (.fmin x0 x1 x2 x3) := by
  intros; exact ⟨rfl, rfl⟩
theorem fmax : ∀ x0 x1 x2 x3, Statement (.fmax x0 x1 x2 x3) := by
  intros; exact ⟨rfl, rfl⟩
theorem fabs : ∀ x0 x1 x2, Statement (.fabs x0 x1 x2) := by
  intros; exact ⟨rfl, rfl⟩
theorem fneg : ∀ x0 x1 x2, Statement (.fneg x0 x1 x2) := by
  intros; exact ⟨rfl, rfl⟩
theorem fcvtid : ∀ x0 x1 x2 x3, Statement (.fcvtid x0 x1 x2 x3) := by
  intros; exact ⟨rfl, rfl⟩
theorem fcvtdi : ∀ x0 x1 x2 x3, Statement (.fcvtdi x0 x1 x2 x3) := by
  intros; exact ⟨rfl, rfl⟩
theorem fcmp : ∀ x0 x1 x2 x3 x4, Statement (.fcmp x0 x1 x2 x3 x4) := by
  intros; exact ⟨rfl, rfl⟩
theorem ffmaD : ∀ x0 x1 x2 x3 x4, Statement (.ffmaD x0 x1 x2 x3 x4) := by
  intros; exact ⟨rfl, rfl⟩
theorem ldB : ∀ x0 x1 x2 x3 x4 x5, Statement (.ldB x0 x1 x2 x3 x4 x5) := by
  intros; exact ⟨rfl, rfl⟩
theorem ldBu : ∀ x0 x1 x2 x3 x4 x5, Statement (.ldBu x0 x1 x2 x3 x4 x5) := by
  intros; exact ⟨rfl, rfl⟩
theorem ldH : ∀ x0 x1 x2 x3 x4 x5, Statement (.ldH x0 x1 x2 x3 x4 x5) := by
  intros; exact ⟨rfl, rfl⟩
theorem ldHu : ∀ x0 x1 x2 x3 x4 x5, Statement (.ldHu x0 x1 x2 x3 x4 x5) := by
  intros; exact ⟨rfl, rfl⟩
theorem ldW : ∀ x0 x1 x2 x3 x4 x5, Statement (.ldW x0 x1 x2 x3 x4 x5) := by
  intros; exact ⟨rfl, rfl⟩
theorem ldWu : ∀ x0 x1 x2 x3 x4 x5, Statement (.ldWu x0 x1 x2 x3 x4 x5) := by
  intros; exact ⟨rfl, rfl⟩
theorem ldD : ∀ x0 x1 x2 x3 x4 x5, Statement (.ldD x0 x1 x2 x3 x4 x5) := by
  intros; exact ⟨rfl, rfl⟩
theorem stB : ∀ x0 x1 x2 x3 x4 x5, Statement (.stB x0 x1 x2 x3 x4 x5) := by
  intros; exact ⟨rfl, rfl⟩
theorem stH : ∀ x0 x1 x2 x3 x4 x5, Statement (.stH x0 x1 x2 x3 x4 x5) := by
  intros; exact ⟨rfl, rfl⟩
theorem stW : ∀ x0 x1 x2 x3 x4 x5, Statement (.stW x0 x1 x2 x3 x4 x5) := by
  intros; exact ⟨rfl, rfl⟩
theorem stD : ∀ x0 x1 x2 x3 x4 x5, Statement (.stD x0 x1 x2 x3 x4 x5) := by
  intros; exact ⟨rfl, rfl⟩
theorem stntD : ∀ x0 x1 x2 x3 x4 x5, Statement (.stntD x0 x1 x2 x3 x4 x5) := by
  intros; exact ⟨rfl, rfl⟩
theorem amoAdd : ∀ x0 x1 x2 x3 x4 x5, Statement (.amoAdd x0 x1 x2 x3 x4 x5) := by
  intros; exact ⟨rfl, rfl⟩
theorem amoAnd : ∀ x0 x1 x2 x3 x4 x5, Statement (.amoAnd x0 x1 x2 x3 x4 x5) := by
  intros; exact ⟨rfl, rfl⟩
theorem amoOr : ∀ x0 x1 x2 x3 x4 x5, Statement (.amoOr x0 x1 x2 x3 x4 x5) := by
  intros; exact ⟨rfl, rfl⟩
theorem amoXor : ∀ x0 x1 x2 x3 x4 x5, Statement (.amoXor x0 x1 x2 x3 x4 x5) := by
  intros; exact ⟨rfl, rfl⟩
theorem amoMin : ∀ x0 x1 x2 x3 x4 x5, Statement (.amoMin x0 x1 x2 x3 x4 x5) := by
  intros; exact ⟨rfl, rfl⟩
theorem amoMax : ∀ x0 x1 x2 x3 x4 x5, Statement (.amoMax x0 x1 x2 x3 x4 x5) := by
  intros; exact ⟨rfl, rfl⟩
theorem amoMinu : ∀ x0 x1 x2 x3 x4 x5, Statement (.amoMinu x0 x1 x2 x3 x4 x5) := by
  intros; exact ⟨rfl, rfl⟩
theorem amoMaxu : ∀ x0 x1 x2 x3 x4 x5, Statement (.amoMaxu x0 x1 x2 x3 x4 x5) := by
  intros; exact ⟨rfl, rfl⟩
theorem amoSwap : ∀ x0 x1 x2 x3 x4 x5, Statement (.amoSwap x0 x1 x2 x3 x4 x5) := by
  intros; exact ⟨rfl, rfl⟩
theorem cas : ∀ x0 x1 x2 x3 x4 x5, Statement (.cas x0 x1 x2 x3 x4 x5) := by
  intros; exact ⟨rfl, rfl⟩
theorem xlat : ∀ x0 x1 x2 x3, Statement (.xlat x0 x1 x2 x3) := by
  intros; exact ⟨rfl, rfl⟩
theorem hrev : ∀ x0 x1, Statement (.hrev x0 x1) := by
  intros; exact ⟨rfl, rfl⟩
theorem hinfo : ∀ x0 x1 x2, Statement (.hinfo x0 x1 x2) := by
  intros; exact ⟨rfl, rfl⟩
theorem movx : ∀ x0 x1 x2 x3, Statement (.movx x0 x1 x2 x3) := by
  intros; exact ⟨rfl, rfl⟩
theorem movsr : ∀ x0 x1 x2, Statement (.movsr x0 x1 x2) := by
  intros; exact ⟨rfl, rfl⟩
theorem movrs : ∀ x0 x1 x2, Statement (.movrs x0 x1 x2) := by
  intros; exact ⟨rfl, rfl⟩
theorem titw : ∀ x0 x1 x2 x3, Statement (.titw x0 x1 x2 x3) := by
  intros; exact ⟨rfl, rfl⟩
theorem titr : ∀ x0 x1 x2 x3, Statement (.titr x0 x1 x2 x3) := by
  intros; exact ⟨rfl, rfl⟩
theorem ext : ∀ x0, Statement (.ext x0) := by
  intros; exact ⟨rfl, rfl⟩
theorem vsetm : ∀ x0 x1 x2 x3 x4 x5, Statement (.vsetm x0 x1 x2 x3 x4 x5) := by
  intros; exact ⟨rfl, rfl⟩
theorem vadd : ∀ x0 x1 x2 x3 x4, Statement (.vadd x0 x1 x2 x3 x4) := by
  intros; exact ⟨rfl, rfl⟩
theorem vsub : ∀ x0 x1 x2 x3 x4, Statement (.vsub x0 x1 x2 x3 x4) := by
  intros; exact ⟨rfl, rfl⟩
theorem vmul : ∀ x0 x1 x2 x3 x4, Statement (.vmul x0 x1 x2 x3 x4) := by
  intros; exact ⟨rfl, rfl⟩
theorem vfma : ∀ x0 x1 x2 x3 x4, Statement (.vfma x0 x1 x2 x3 x4) := by
  intros; exact ⟨rfl, rfl⟩
theorem vfms : ∀ x0 x1 x2 x3 x4, Statement (.vfms x0 x1 x2 x3 x4) := by
  intros; exact ⟨rfl, rfl⟩
theorem vnfma : ∀ x0 x1 x2 x3 x4, Statement (.vnfma x0 x1 x2 x3 x4) := by
  intros; exact ⟨rfl, rfl⟩
theorem vdiv : ∀ x0 x1 x2 x3 x4, Statement (.vdiv x0 x1 x2 x3 x4) := by
  intros; exact ⟨rfl, rfl⟩
theorem vsqrt : ∀ x0 x1 x2 x3, Statement (.vsqrt x0 x1 x2 x3) := by
  intros; exact ⟨rfl, rfl⟩
theorem vrcpe : ∀ x0 x1 x2 x3, Statement (.vrcpe x0 x1 x2 x3) := by
  intros; exact ⟨rfl, rfl⟩
theorem vrsqe : ∀ x0 x1 x2 x3, Statement (.vrsqe x0 x1 x2 x3) := by
  intros; exact ⟨rfl, rfl⟩
theorem vexp2e : ∀ x0 x1 x2 x3, Statement (.vexp2e x0 x1 x2 x3) := by
  intros; exact ⟨rfl, rfl⟩
theorem vlog2e : ∀ x0 x1 x2 x3, Statement (.vlog2e x0 x1 x2 x3) := by
  intros; exact ⟨rfl, rfl⟩
theorem vmin : ∀ x0 x1 x2 x3 x4, Statement (.vmin x0 x1 x2 x3 x4) := by
  intros; exact ⟨rfl, rfl⟩
theorem vmax : ∀ x0 x1 x2 x3 x4, Statement (.vmax x0 x1 x2 x3 x4) := by
  intros; exact ⟨rfl, rfl⟩
theorem vabs : ∀ x0 x1 x2 x3, Statement (.vabs x0 x1 x2 x3) := by
  intros; exact ⟨rfl, rfl⟩
theorem vneg : ∀ x0 x1 x2 x3, Statement (.vneg x0 x1 x2 x3) := by
  intros; exact ⟨rfl, rfl⟩
theorem vand : ∀ x0 x1 x2 x3 x4, Statement (.vand x0 x1 x2 x3 x4) := by
  intros; exact ⟨rfl, rfl⟩
theorem vor : ∀ x0 x1 x2 x3 x4, Statement (.vor x0 x1 x2 x3 x4) := by
  intros; exact ⟨rfl, rfl⟩
theorem vxor : ∀ x0 x1 x2 x3 x4, Statement (.vxor x0 x1 x2 x3 x4) := by
  intros; exact ⟨rfl, rfl⟩
theorem vshl : ∀ x0 x1 x2 x3 x4, Statement (.vshl x0 x1 x2 x3 x4) := by
  intros; exact ⟨rfl, rfl⟩
theorem vshr : ∀ x0 x1 x2 x3 x4, Statement (.vshr x0 x1 x2 x3 x4) := by
  intros; exact ⟨rfl, rfl⟩
theorem vsar : ∀ x0 x1 x2 x3 x4, Statement (.vsar x0 x1 x2 x3 x4) := by
  intros; exact ⟨rfl, rfl⟩
theorem vcmpeq : ∀ x0 x1 x2 x3 x4, Statement (.vcmpeq x0 x1 x2 x3 x4) := by
  intros; exact ⟨rfl, rfl⟩
theorem vcmplt : ∀ x0 x1 x2 x3 x4, Statement (.vcmplt x0 x1 x2 x3 x4) := by
  intros; exact ⟨rfl, rfl⟩
theorem vcmple : ∀ x0 x1 x2 x3 x4, Statement (.vcmple x0 x1 x2 x3 x4) := by
  intros; exact ⟨rfl, rfl⟩
theorem vcmpne : ∀ x0 x1 x2 x3 x4, Statement (.vcmpne x0 x1 x2 x3 x4) := by
  intros; exact ⟨rfl, rfl⟩
theorem vsel : ∀ x0 x1 x2 x3 x4, Statement (.vsel x0 x1 x2 x3 x4) := by
  intros; exact ⟨rfl, rfl⟩
theorem vcvt : ∀ x0 x1 x2 x3 x4 x5 x6, Statement (.vcvt x0 x1 x2 x3 x4 x5 x6) := by
  intros; exact ⟨rfl, rfl⟩
theorem vadds : ∀ x0 x1 x2 x3 x4, Statement (.vadds x0 x1 x2 x3 x4) := by
  intros; exact ⟨rfl, rfl⟩
theorem vmuls : ∀ x0 x1 x2 x3 x4, Statement (.vmuls x0 x1 x2 x3 x4) := by
  intros; exact ⟨rfl, rfl⟩
theorem vbcast : ∀ x0 x1 x2 x3, Statement (.vbcast x0 x1 x2 x3) := by
  intros; exact ⟨rfl, rfl⟩
theorem viota : ∀ x0 x1 x2 x3, Statement (.viota x0 x1 x2 x3) := by
  intros; exact ⟨rfl, rfl⟩
theorem vperm : ∀ x0 x1 x2 x3 x4, Statement (.vperm x0 x1 x2 x3 x4) := by
  intros; exact ⟨rfl, rfl⟩
theorem vslideUp : ∀ x0 x1 x2 x3 x4, Statement (.vslideUp x0 x1 x2 x3 x4) := by
  intros; exact ⟨rfl, rfl⟩
theorem vslideDn : ∀ x0 x1 x2 x3 x4, Statement (.vslideDn x0 x1 x2 x3 x4) := by
  intros; exact ⟨rfl, rfl⟩
theorem vrsum : ∀ x0 x1 x2 x3, Statement (.vrsum x0 x1 x2 x3) := by
  intros; exact ⟨rfl, rfl⟩
theorem vrmax : ∀ x0 x1 x2 x3, Statement (.vrmax x0 x1 x2 x3) := by
  intros; exact ⟨rfl, rfl⟩
theorem vrmin : ∀ x0 x1 x2 x3, Statement (.vrmin x0 x1 x2 x3) := by
  intros; exact ⟨rfl, rfl⟩
theorem vpart : ∀ x0 x1 x2 x3, Statement (.vpart x0 x1 x2 x3) := by
  intros; exact ⟨rfl, rfl⟩
theorem vextr : ∀ x0 x1 x2 x3 x4, Statement (.vextr x0 x1 x2 x3 x4) := by
  intros; exact ⟨rfl, rfl⟩
theorem vld : ∀ x0 x1 x2 x3 x4 x5, Statement (.vld x0 x1 x2 x3 x4 x5) := by
  intros; exact ⟨rfl, rfl⟩
theorem vst : ∀ x0 x1 x2 x3 x4 x5, Statement (.vst x0 x1 x2 x3 x4 x5) := by
  intros; exact ⟨rfl, rfl⟩
theorem vlds : ∀ x0 x1 x2 x3 x4 x5, Statement (.vlds x0 x1 x2 x3 x4 x5) := by
  intros; exact ⟨rfl, rfl⟩
theorem vsts : ∀ x0 x1 x2 x3 x4 x5, Statement (.vsts x0 x1 x2 x3 x4 x5) := by
  intros; exact ⟨rfl, rfl⟩
theorem vgath : ∀ x0 x1 x2 x3 x4 x5, Statement (.vgath x0 x1 x2 x3 x4 x5) := by
  intros; exact ⟨rfl, rfl⟩
theorem vscat : ∀ x0 x1 x2 x3 x4 x5, Statement (.vscat x0 x1 x2 x3 x4 x5) := by
  intros; exact ⟨rfl, rfl⟩
theorem vscata : ∀ x0 x1 x2 x3 x4 x5, Statement (.vscata x0 x1 x2 x3 x4 x5) := by
  intros; exact ⟨rfl, rfl⟩
theorem vstnt : ∀ x0 x1 x2 x3 x4 x5, Statement (.vstnt x0 x1 x2 x3 x4 x5) := by
  intros; exact ⟨rfl, rfl⟩
theorem vldp : ∀ x0 x1 x2 x3, Statement (.vldp x0 x1 x2 x3) := by
  intros; exact ⟨rfl, rfl⟩
theorem vstp : ∀ x0 x1 x2 x3, Statement (.vstp x0 x1 x2 x3) := by
  intros; exact ⟨rfl, rfl⟩
theorem vldtRow : ∀ x0 x1 x2 x3 x4, Statement (.vldtRow x0 x1 x2 x3 x4) := by
  intros; exact ⟨rfl, rfl⟩
theorem vldtCol : ∀ x0 x1 x2 x3 x4, Statement (.vldtCol x0 x1 x2 x3 x4) := by
  intros; exact ⟨rfl, rfl⟩
theorem hgld : ∀ x0 x1 x2 x3 x4, Statement (.hgld x0 x1 x2 x3 x4) := by
  intros; exact ⟨rfl, rfl⟩
theorem hgscat : ∀ x0 x1 x2 x3 x4 x5 x6, Statement (.hgscat x0 x1 x2 x3 x4 x5 x6) := by
  intros; exact ⟨rfl, rfl⟩
theorem mlease : ∀ x0, Statement (.mlease x0) := by
  intros; exact ⟨rfl, rfl⟩
theorem mfree : ∀ x0, Statement (.mfree x0) := by
  intros; exact ⟨rfl, rfl⟩
theorem mldw : ∀ x0 x1 x2, Statement (.mldw x0 x1 x2) := by
  intros; exact ⟨rfl, rfl⟩
theorem mmul : ∀ x0 x1 x2 x3, Statement (.mmul x0 x1 x2 x3) := by
  intros; exact ⟨rfl, rfl⟩
theorem mmulb : ∀ x0 x1 x2 x3, Statement (.mmulb x0 x1 x2 x3) := by
  intros; exact ⟨rfl, rfl⟩
theorem mrsa : ∀ x0 x1 x2 x3 x4, Statement (.mrsa x0 x1 x2 x3 x4) := by
  intros; exact ⟨rfl, rfl⟩
theorem mrsd : ∀ x0 x1 x2 x3 x4, Statement (.mrsd x0 x1 x2 x3 x4) := by
  intros; exact ⟨rfl, rfl⟩
theorem mdrn : ∀ x0 x1 x2 x3 x4, Statement (.mdrn x0 x1 x2 x3 x4) := by
  intros; exact ⟨rfl, rfl⟩
theorem mdrnr : ∀ x0 x1 x2 x3 x4, Statement (.mdrnr x0 x1 x2 x3 x4) := by
  intros; exact ⟨rfl, rfl⟩
theorem mzero : ∀ x0 x1, Statement (.mzero x0 x1) := by
  intros; exact ⟨rfl, rfl⟩
theorem fgemv : ∀ x0 x1 x2 x3, Statement (.fgemv x0 x1 x2 x3) := by
  intros; exact ⟨rfl, rfl⟩
theorem cpy : ∀ x0 x1 x2 x3 x4 x5, Statement (.cpy x0 x1 x2 x3 x4 x5) := by
  intros; exact ⟨rfl, rfl⟩
theorem cpy2 : ∀ x0 x1 x2 x3 x4 x5, Statement (.cpy2 x0 x1 x2 x3 x4 x5) := by
  intros; exact ⟨rfl, rfl⟩
theorem ctile : ∀ x0 x1 x2 x3 x4 x5 x6, Statement (.ctile x0 x1 x2 x3 x4 x5 x6) := by
  intros; exact ⟨rfl, rfl⟩
theorem cxpose : ∀ x0 x1 x2 x3 x4 x5 x6, Statement (.cxpose x0 x1 x2 x3 x4 x5 x6) := by
  intros; exact ⟨rfl, rfl⟩
theorem cconv : ∀ x0 x1 x2 x3 x4 x5 x6, Statement (.cconv x0 x1 x2 x3 x4 x5 x6) := by
  intros; exact ⟨rfl, rfl⟩
theorem csend : ∀ x0 x1 x2 x3 x4, Statement (.csend x0 x1 x2 x3 x4) := by
  intros; exact ⟨rfl, rfl⟩
theorem cfill : ∀ x0 x1 x2 x3 x4 x5, Statement (.cfill x0 x1 x2 x3 x4 x5) := by
  intros; exact ⟨rfl, rfl⟩
theorem cgath : ∀ x0 x1 x2 x3 x4 x5 x6, Statement (.cgath x0 x1 x2 x3 x4 x5 x6) := by
  intros; exact ⟨rfl, rfl⟩
theorem cpref : ∀ x0 x1 x2 x3, Statement (.cpref x0 x1 x2 x3) := by
  intros; exact ⟨rfl, rfl⟩
theorem cprefL1 : ∀ x0 x1 x2 x3, Statement (.cprefL1 x0 x1 x2 x3) := by
  intros; exact ⟨rfl, rfl⟩
theorem coptmSgdm : ∀ x0 x1 x2 x3 x4 x5 x6, Statement (.coptmSgdm x0 x1 x2 x3 x4 x5 x6) := by
  intros; exact ⟨rfl, rfl⟩
theorem coptmAdam : ∀ x0 x1 x2 x3 x4 x5 x6, Statement (.coptmAdam x0 x1 x2 x3 x4 x5 x6) := by
  intros; exact ⟨rfl, rfl⟩
theorem csparsePack : ∀ x0 x1 x2 x3 x4 x5, Statement (.csparsePack x0 x1 x2 x3 x4 x5) := by
  intros; exact ⟨rfl, rfl⟩
theorem csparseUnpack : ∀ x0 x1 x2 x3 x4 x5, Statement (.csparseUnpack x0 x1 x2 x3 x4 x5) := by
  intros; exact ⟨rfl, rfl⟩
theorem hgfold : ∀ x0 x1 x2 x3, Statement (.hgfold x0 x1 x2 x3) := by
  intros; exact ⟨rfl, rfl⟩
theorem hgfoldAdd : ∀ x0 x1 x2 x3, Statement (.hgfoldAdd x0 x1 x2 x3) := by
  intros; exact ⟨rfl, rfl⟩
theorem fwait : ∀ x0 x1, Statement (.fwait x0 x1) := by
  intros; exact ⟨rfl, rfl⟩
theorem fpost : ∀ x0 x1, Statement (.fpost x0 x1) := by
  intros; exact ⟨rfl, rfl⟩
theorem fpostr : ∀ x0 x1 x2, Statement (.fpostr x0 x1 x2) := by
  intros; exact ⟨rfl, rfl⟩
theorem twait : ∀ x0, Statement (.twait x0) := by
  intros; exact ⟨rfl, rfl⟩
theorem twaita : ∀ x0, Statement (.twaita x0) := by
  intros; exact ⟨rfl, rfl⟩
theorem barv : ∀ x0, Statement (.barv x0) := by
  intros; exact ⟨rfl, rfl⟩
theorem barw : ∀ x0, Statement (.barw x0) := by
  intros; exact ⟨rfl, rfl⟩
theorem bars : ∀ x0, Statement (.bars x0) := by
  intros; exact ⟨rfl, rfl⟩
theorem fence : ∀ x0, Statement (.fence x0) := by
  intros; exact ⟨rfl, rfl⟩
theorem rel : ∀ x0, Statement (.rel x0) := by
  intros; exact ⟨rfl, rfl⟩
theorem acq : ∀ x0, Statement (.acq x0) := by
  intros; exact ⟨rfl, rfl⟩
theorem cwait : ∀ x0 x1 x2, Statement (.cwait x0 x1 x2) := by
  intros; exact ⟨rfl, rfl⟩
theorem cinc : ∀ x0 x1 x2, Statement (.cinc x0 x1 x2) := by
  intros; exact ⟨rfl, rfl⟩
theorem rgo : ∀ x0, Statement (.rgo x0) := by
  intros; exact ⟨rfl, rfl⟩
theorem wadd : ∀ x0 x1, Statement (.wadd x0 x1) := by
  intros; exact ⟨rfl, rfl⟩
theorem readRequest : ∀ x0 x1 x2 x3, Statement (.readRequest x0 x1 x2 x3) := by
  intros; exact ⟨rfl, rfl⟩
theorem readResponse : ∀ x0 x1 x2, Statement (.readResponse x0 x1 x2) := by
  intros; exact ⟨rfl, rfl⟩
theorem write : ∀ x0 x1 x2 x3 x4 x5 x6 x7, Statement (.write x0 x1 x2 x3 x4 x5 x6 x7) := by
  intros; exact ⟨rfl, rfl⟩
theorem writeAck : ∀ x0 x1, Statement (.writeAck x0 x1) := by
  intros; exact ⟨rfl, rfl⟩
theorem atomic : ∀ x0 x1 x2 x3 x4 x5, Statement (.atomic x0 x1 x2 x3 x4 x5) := by
  intros; exact ⟨rfl, rfl⟩
theorem atomicResponse : ∀ x0 x1 x2, Statement (.atomicResponse x0 x1 x2) := by
  intros; exact ⟨rfl, rfl⟩
theorem flagPost : ∀ x0 x1 x2 x3, Statement (.flagPost x0 x1 x2 x3) := by
  intros; exact ⟨rfl, rfl⟩
theorem barrierCombine : ∀ x0 x1 x2 x3, Statement (.barrierCombine x0 x1 x2 x3) := by
  intros; exact ⟨rfl, rfl⟩
theorem launchHandOff : ∀ x0 x1 x2 x3 x4 x5, Statement (.launchHandOff x0 x1 x2 x3 x4 x5) := by
  intros; exact ⟨rfl, rfl⟩
theorem dtbSynchronisation : ∀ x0 x1, Statement (.dtbSynchronisation x0 x1) := by
  intros; exact ⟨rfl, rfl⟩
theorem ringPartial : ∀ x0 x1 x2 x3 x4 x5 x6, Statement (.ringPartial x0 x1 x2 x3 x4 x5 x6) := by
  intros; exact ⟨rfl, rfl⟩
theorem ringResult : ∀ x0 x1 x2 x3 x4, Statement (.ringResult x0 x1 x2 x3 x4) := by
  intros; exact ⟨rfl, rfl⟩
theorem armed : ∀ x0 x1 x2, Statement (.armed x0 x1 x2) := by
  intros; exact ⟨rfl, rfl⟩
theorem done : ∀ x0 x1 x2, Statement (.done x0 x1 x2) := by
  intros; exact ⟨rfl, rfl⟩
theorem fail : ∀ x0 x1 x2 x3 x4, Statement (.fail x0 x1 x2 x3 x4) := by
  intros; exact ⟨rfl, rfl⟩
theorem ringAbort : ∀ x0 x1 x2, Statement (.ringAbort x0 x1 x2) := by
  intros; exact ⟨rfl, rfl⟩
theorem abortAck : ∀ x0 x1 x2, Statement (.abortAck x0 x1 x2) := by
  intros; exact ⟨rfl, rfl⟩
theorem packagePartComplete : ∀ x0 x1 x2, Statement (.packagePartComplete x0 x1 x2) := by
  intros; exact ⟨rfl, rfl⟩
theorem spillFill : ∀ x0, Statement (.spillFill x0) := by
  intros; exact ⟨rfl, rfl⟩
theorem segmentCopyComplete : ∀ x0 x1, Statement (.segmentCopyComplete x0 x1) := by
  intros; exact ⟨rfl, rfl⟩
theorem variableResultLanding : ∀ x0 x1, Statement (.variableResultLanding x0 x1) := by
  intros; exact ⟨rfl, rfl⟩
theorem commandStart : ∀ x0 x1, Statement (.commandStart x0 x1) := by
  intros; exact ⟨rfl, rfl⟩
theorem productStep : ∀ x0, Statement (.productStep x0) := by
  intros; exact ⟨rfl, rfl⟩
theorem copyStepBoundary : ∀ x0 x1 x2, Statement (.copyStepBoundary x0 x1 x2) := by
  intros; exact ⟨rfl, rfl⟩
theorem tokenRetire : ∀ x0 x1, Statement (.tokenRetire x0 x1) := by
  intros; exact ⟨rfl, rfl⟩
theorem leaseGrant : ∀ x0, Statement (.leaseGrant x0) := by
  intros; exact ⟨rfl, rfl⟩
theorem arrayRepair : ∀ x0, Statement (.arrayRepair x0) := by
  intros; exact ⟨rfl, rfl⟩
theorem barrierPhaseComplete : ∀ x0 x1, Statement (.barrierPhaseComplete x0 x1) := by
  intros; exact ⟨rfl, rfl⟩
theorem preemption : ∀ x0, Statement (.preemption x0) := by
  intros; exact ⟨rfl, rfl⟩
theorem resumption : ∀ x0, Statement (.resumption x0) := by
  intros; exact ⟨rfl, rfl⟩
theorem taskAbort : ∀ x0 x1, Statement (.taskAbort x0 x1) := by
  intros; exact ⟨rfl, rfl⟩
theorem kernelComplete : ∀ x0, Statement (.kernelComplete x0) := by
  intros; exact ⟨rfl, rfl⟩
theorem chunkLaunch : ∀ x0 x1, Statement (.chunkLaunch x0 x1) := by
  intros; exact ⟨rfl, rfl⟩
theorem stagingArrival : ∀ x0 x1, Statement (.stagingArrival x0 x1) := by
  intros; exact ⟨rfl, rfl⟩
theorem cwaitGrant : ∀ x0, Statement (.cwaitGrant x0) := by
  intros; exact ⟨rfl, rfl⟩
theorem packetFetch : ∀ x0, Statement (.packetFetch x0) := by
  intros; exact ⟨rfl, rfl⟩
theorem launch : ∀ x0, Statement (.launch x0) := by
  intros; exact ⟨rfl, rfl⟩
theorem unbindComplete : ∀ x0, Statement (.unbindComplete x0) := by
  intros; exact ⟨rfl, rfl⟩
theorem arrivalInterrupt : ∀ x0, Statement (.arrivalInterrupt x0) := by
  intros; exact ⟨rfl, rfl⟩
theorem ueCore : ∀ x0, Statement (.ueCore x0) := by
  intros; exact ⟨rfl, rfl⟩
theorem notify : ∀ x0 x1, Statement (.notify x0 x1) := by
  intros; exact ⟨rfl, rfl⟩
theorem priorityPreemption : ∀ x0, Statement (.priorityPreemption x0) := by
  intros; exact ⟨rfl, rfl⟩
theorem holdRelease : ∀ x0, Statement (.holdRelease x0) := by
  intros; exact ⟨rfl, rfl⟩
theorem fixedResultLanding : ∀ x0, Statement (.fixedResultLanding x0) := by
  intros; exact ⟨rfl, rfl⟩
theorem faultHistoryExpiry : ∀ x0, Statement (.faultHistoryExpiry x0) := by
  intros; exact ⟨rfl, rfl⟩
theorem step : ∀ x0, Statement (.step x0) := by
  intros; exact ⟨rfl, rfl⟩
theorem traceSample : ∀ x0, Statement (.traceSample x0) := by
  intros; exact ⟨rfl, rfl⟩
theorem debugStop : ∀ x0, Statement (.debugStop x0) := by
  intros; exact ⟨rfl, rfl⟩
theorem debugStopForce : ∀ x0, Statement (.debugStopForce x0) := by
  intros; exact ⟨rfl, rfl⟩
theorem stop : ∀ x0, Statement (.stop x0) := by
  intros; exact ⟨rfl, rfl⟩
theorem run : ∀ x0, Statement (.run x0) := by
  intros; exact ⟨rfl, rfl⟩
theorem req : ∀ x0, Statement (.req x0) := by
  intros; exact ⟨rfl, rfl⟩
theorem data : ∀ x0 x1, Statement (.data x0 x1) := by
  intros; exact ⟨rfl, rfl⟩
theorem hbind : ∀ x0 x1 x2 x3, Statement (.hbind x0 x1 x2 x3) := by
  intros; exact ⟨rfl, rfl⟩
theorem taskDispatch : Statement .taskDispatch := ⟨rfl, rfl⟩
theorem pageWalk : ∀ x0 x1, Statement (.pageWalk x0 x1) := by
  intros; exact ⟨rfl, rfl⟩
theorem walkTimeout : ∀ x0, Statement (.walkTimeout x0) := by
  intros; exact ⟨rfl, rfl⟩
theorem leaseExpiry : ∀ x0, Statement (.leaseExpiry x0) := by
  intros; exact ⟨rfl, rfl⟩
theorem foldAtomicApply : ∀ x0 x1 x2 x3, Statement (.foldAtomicApply x0 x1 x2 x3) := by
  intros; exact ⟨rfl, rfl⟩
theorem cincApply : ∀ x0 x1, Statement (.cincApply x0 x1) := by
  intros; exact ⟨rfl, rfl⟩
theorem syncResend : ∀ x0, Statement (.syncResend x0) := by
  intros; exact ⟨rfl, rfl⟩
theorem ack : ∀ x0 x1 x2, Statement (.ack x0 x1 x2) := by
  intros; exact ⟨rfl, rfl⟩
theorem nak : ∀ x0 x1 x2, Statement (.nak x0 x1 x2) := by
  intros; exact ⟨rfl, rfl⟩
theorem en : ∀ x0 x1 x2, Statement (.en x0 x1 x2) := by
  intros; exact ⟨rfl, rfl⟩
theorem retrain : ∀ x0 x1, Statement (.retrain x0 x1) := by
  intros; exact ⟨rfl, rfl⟩
theorem trainingStart : ∀ x0 x1, Statement (.trainingStart x0 x1) := by
  intros; exact ⟨rfl, rfl⟩
theorem trainingComplete : ∀ x0 x1 x2 x3 x4, Statement (.trainingComplete x0 x1 x2 x3 x4) := by
  intros; exact ⟨rfl, rfl⟩
theorem trainingTimeout : ∀ x0 x1, Statement (.trainingTimeout x0 x1) := by
  intros; exact ⟨rfl, rfl⟩
theorem retrainComplete : ∀ x0 x1 x2, Statement (.retrainComplete x0 x1 x2) := by
  intros; exact ⟨rfl, rfl⟩
theorem routeHoldTimeout : ∀ x0, Statement (.routeHoldTimeout x0) := by
  intros; exact ⟨rfl, rfl⟩
theorem apertureUngate : ∀ x0, Statement (.apertureUngate x0) := by
  intros; exact ⟨rfl, rfl⟩
theorem qpend : ∀ x0 x1, Statement (.qpend x0 x1) := by
  intros; exact ⟨rfl, rfl⟩
theorem invalid : ∀ x0, Statement (.invalid x0) := by
  intros; exact ⟨rfl, rfl⟩
theorem nopPacket : ∀ x0, Statement (.nopPacket x0) := by
  intros; exact ⟨rfl, rfl⟩
theorem waitsig : ∀ x0, Statement (.waitsig x0) := by
  intros; exact ⟨rfl, rfl⟩
theorem waitsigPoll : ∀ x0, Statement (.waitsigPoll x0) := by
  intros; exact ⟨rfl, rfl⟩
theorem ffence : ∀ x0, Statement (.ffence x0) := by
  intros; exact ⟨rfl, rfl⟩
theorem notifyPacket : ∀ x0, Statement (.notifyPacket x0) := by
  intros; exact ⟨rfl, rfl⟩
theorem map : ∀ x0, Statement (.map x0) := by
  intros; exact ⟨rfl, rfl⟩
theorem unmap : ∀ x0, Statement (.unmap x0) := by
  intros; exact ⟨rfl, rfl⟩
theorem queueReset : ∀ x0, Statement (.queueReset x0) := by
  intros; exact ⟨rfl, rfl⟩
theorem setprio : ∀ x0, Statement (.setprio x0) := by
  intros; exact ⟨rfl, rfl⟩
theorem resume : ∀ x0, Statement (.resume x0) := by
  intros; exact ⟨rfl, rfl⟩
theorem create : ∀ x0, Statement (.create x0) := by
  intros; exact ⟨rfl, rfl⟩
theorem setmask : ∀ x0, Statement (.setmask x0) := by
  intros; exact ⟨rfl, rfl⟩
theorem setbudget : ∀ x0, Statement (.setbudget x0) := by
  intros; exact ⟨rfl, rfl⟩
theorem setpool : ∀ x0, Statement (.setpool x0) := by
  intros; exact ⟨rfl, rfl⟩
theorem contextReset : ∀ x0, Statement (.contextReset x0) := by
  intros; exact ⟨rfl, rfl⟩
theorem destroy : ∀ x0, Statement (.destroy x0) := by
  intros; exact ⟨rfl, rfl⟩
theorem deadline : ∀ x0, Statement (.deadline x0) := by
  intros; exact ⟨rfl, rfl⟩
theorem query : ∀ x0, Statement (.query x0) := by
  intros; exact ⟨rfl, rfl⟩
theorem clrrepair : ∀ x0, Statement (.clrrepair x0) := by
  intros; exact ⟨rfl, rfl⟩
theorem hostOrderedRead : ∀ x0 x1, Statement (.hostOrderedRead x0 x1) := by
  intros; exact ⟨rfl, rfl⟩
theorem hostOrderedWrite : ∀ x0 x1, Statement (.hostOrderedWrite x0 x1) := by
  intros; exact ⟨rfl, rfl⟩
theorem hostRelaxedRead : ∀ x0 x1, Statement (.hostRelaxedRead x0 x1) := by
  intros; exact ⟨rfl, rfl⟩
theorem hostRelaxedWrite : ∀ x0 x1, Statement (.hostRelaxedWrite x0 x1) := by
  intros; exact ⟨rfl, rfl⟩
theorem hostAtomicop : ∀ x0 x1 x2 x3 x4, Statement (.hostAtomicop x0 x1 x2 x3 x4) := by
  intros; exact ⟨rfl, rfl⟩
theorem completionTimeout : ∀ x0 x1, Statement (.completionTimeout x0 x1) := by
  intros; exact ⟨rfl, rfl⟩
theorem coldReset : Statement .coldReset := ⟨rfl, rfl⟩
theorem warmReset : Statement .warmReset := ⟨rfl, rfl⟩
theorem resetpkg : Statement .resetpkg := ⟨rfl, rfl⟩
theorem recover : Statement .recover := ⟨rfl, rfl⟩
theorem svncommit : ∀ x0, Statement (.svncommit x0) := by
  intros; exact ⟨rfl, rfl⟩
theorem powerLimit : ∀ x0, Statement (.powerLimit x0) := by
  intros; exact ⟨rfl, rfl⟩
theorem pldmSensorRead : ∀ x0, Statement (.pldmSensorRead x0) := by
  intros; exact ⟨rfl, rfl⟩
theorem getVersion : Statement .getVersion := ⟨rfl, rfl⟩
theorem getCapabilities : Statement .getCapabilities := ⟨rfl, rfl⟩
theorem negotiateAlgorithms : Statement .negotiateAlgorithms := ⟨rfl, rfl⟩
theorem getDigests : Statement .getDigests := ⟨rfl, rfl⟩
theorem getCertificate : Statement .getCertificate := ⟨rfl, rfl⟩
theorem challenge : ∀ x0, Statement (.challenge x0) := by
  intros; exact ⟨rfl, rfl⟩
theorem getMeasurements : Statement .getMeasurements := ⟨rfl, rfl⟩
theorem savebase : ∀ x0, Statement (.savebase x0) := by
  intros; exact ⟨rfl, rfl⟩
theorem registerWrite : ∀ x0 x1, Statement (.registerWrite x0 x1) := by
  intros; exact ⟨rfl, rfl⟩
theorem softError : ∀ x0 x1 x2, Statement (.softError x0 x1 x2) := by
  intros; exact ⟨rfl, rfl⟩
theorem pageResidentReport : ∀ x0 x1, Statement (.pageResidentReport x0 x1) := by
  intros; exact ⟨rfl, rfl⟩
theorem pollingPosition : ∀ x0, Statement (.pollingPosition x0) := by
  intros; exact ⟨rfl, rfl⟩
theorem crcFailure : ∀ x0 x1 x2, Statement (.crcFailure x0 x1 x2) := by
  intros; exact ⟨rfl, rfl⟩
theorem apertureGate : ∀ x0, Statement (.apertureGate x0) := by
  intros; exact ⟨rfl, rfl⟩
theorem nop : Statement .nop := ⟨rfl, rfl⟩
theorem ret : Statement .ret := ⟨rfl, rfl⟩
theorem tret : Statement .tret := ⟨rfl, rfl⟩
theorem iwait : Statement .iwait := ⟨rfl, rfl⟩
theorem iret : Statement .iret := ⟨rfl, rfl⟩
theorem mret : Statement .mret := ⟨rfl, rfl⟩
theorem drainnt : Statement .drainnt := ⟨rfl, rfl⟩
theorem wclr : Statement .wclr := ⟨rfl, rfl⟩
theorem wresume : Statement .wresume := ⟨rfl, rfl⟩

end Sys2Proof.Laws.Fields
end

