-- ==== Sys2Proof/Laws/Sparse.lean ====
section
/-! SUPPORT. Sparse tables and memory: what a read after a write answers, and that every operation keeps the canonical
form. -/

namespace Sys2Proof.Machine

variable {α : Type} [DecidableEq α] {d : α}

/-! ### The canonical form -/

theorem Sparse.wfFrom_mono {l : Sparse α} {a b : Nat} (h : Sparse.wfFrom d b l = true) (hab : a ≤ b) :
    Sparse.wfFrom d a l = true := by
  cases l with
  | nil => rfl
  | cons p t =>
      simp only [Sparse.wfFrom, Bool.and_eq_true, decide_eq_true_eq] at h ⊢
      exact ⟨⟨Nat.le_trans hab h.1.1, h.1.2⟩, h.2⟩

theorem Sparse.get_below {l : Sparse α} {lo k : Nat} (h : Sparse.wfFrom d lo l = true) (hk : k < lo) :
    Sparse.get d l k = d := by
  induction l generalizing lo with
  | nil => rfl
  | cons p t ih =>
      simp only [Sparse.wfFrom, Bool.and_eq_true, decide_eq_true_eq] at h
      have hne : p.1 ≠ k := by omega
      simp only [Sparse.get, hne, if_false]
      exact ih h.2 (by omega)

theorem Sparse.wfFrom_append {a b : Sparse α} {lo m : Nat} (ha : Sparse.wfFrom d lo a = true)
    (hm : ∀ p ∈ a, p.1 < m) (hlo : lo ≤ m) (hb : Sparse.wfFrom d m b = true) :
    Sparse.wfFrom d lo (a ++ b) = true := by
  induction a generalizing lo with
  | nil => exact Sparse.wfFrom_mono hb hlo
  | cons p t ih =>
      simp only [List.cons_append, Sparse.wfFrom, Bool.and_eq_true, decide_eq_true_eq] at ha ⊢
      have hp := hm p (by simp)
      exact ⟨ha.1, ih ha.2 (fun q hq => hm q (by simp [hq])) (by omega)⟩

theorem Sparse.entries_bounds (vs : List α) (base : Nat) :
    ∀ p ∈ Sparse.entries d base vs, base ≤ p.1 ∧ p.1 < base + vs.length := by
  induction vs generalizing base with
  | nil => simp [Sparse.entries]
  | cons v t ih =>
      intro p hp
      simp only [Sparse.entries] at hp
      split at hp
      · have := ih (base + 1) p hp
        simp only [List.length_cons]
        omega
      · simp only [List.mem_cons] at hp
        rcases hp with rfl | hp
        · simp
        · have := ih (base + 1) p hp
          simp only [List.length_cons]
          omega

theorem Sparse.wfFrom_entries (vs : List α) (base : Nat) : Sparse.wfFrom d base (Sparse.entries d base vs) = true := by
  induction vs generalizing base with
  | nil => rfl
  | cons v t ih =>
      simp only [Sparse.entries]
      split
      · exact Sparse.wfFrom_mono (ih (base + 1)) (Nat.le_succ base)
      · next hv => simp [Sparse.wfFrom, hv, ih (base + 1)]

theorem Sparse.wfFrom_filter {l : Sparse α} {lo : Nat} (c : Nat × α → Bool) (h : Sparse.wfFrom d lo l = true) :
    Sparse.wfFrom d lo (l.filter c) = true := by
  induction l generalizing lo with
  | nil => rfl
  | cons p t ih =>
      simp only [Sparse.wfFrom, Bool.and_eq_true, decide_eq_true_eq] at h
      have ht := ih h.2
      cases hc : c p with
      | true => simp [List.filter, hc, Sparse.wfFrom, h.1.1, h.1.2, ht]
      | false => simpa [List.filter, hc] using Sparse.wfFrom_mono ht (by omega)

theorem Sparse.wfFrom_above {l : Sparse α} {lo m : Nat} (h : Sparse.wfFrom d lo l = true) :
    Sparse.wfFrom d m (l.filter fun p => decide (m ≤ p.1)) = true := by
  induction l generalizing lo with
  | nil => rfl
  | cons p t ih =>
      simp only [Sparse.wfFrom, Bool.and_eq_true, decide_eq_true_eq] at h
      by_cases hm : m ≤ p.1
      · have hall : t.filter (fun q => decide (m ≤ q.1)) = t := by
          have : ∀ (t : Sparse α) (k : Nat), Sparse.wfFrom d k t = true → m ≤ k →
              t.filter (fun q => decide (m ≤ q.1)) = t := by
            intro t
            induction t with
            | nil => intros; rfl
            | cons q u ihu =>
                intro k hk hmk
                simp only [Sparse.wfFrom, Bool.and_eq_true, decide_eq_true_eq] at hk
                have : m ≤ q.1 := by omega
                simp [List.filter, this, ihu (q.1 + 1) hk.2 (by omega)]
          exact this t (p.1 + 1) h.2 (by omega)
        simp [List.filter, hm, Sparse.wfFrom, h.1.2, hall, h.2]
      · simpa [List.filter, hm] using ih h.2

/-- A write keeps the canonical form. -/
theorem Sparse.wf_write {l : Sparse α} (h : Sparse.wf d l = true) (base : Nat) (vs : List α) :
    Sparse.wf d (Sparse.write d l base vs) = true := by
  simp only [Sparse.wf, Sparse.write, List.append_assoc] at h ⊢
  refine Sparse.wfFrom_append (m := base) (Sparse.wfFrom_filter _ h) (by simp) (Nat.zero_le _) ?_
  refine Sparse.wfFrom_append (m := base + vs.length) (Sparse.wfFrom_entries vs base)
    (fun p hp => (Sparse.entries_bounds vs base p hp).2) (by omega) ?_
  exact Sparse.wfFrom_above h

/-- A write of one value keeps the canonical form. -/
theorem Sparse.wf_set {l : Sparse α} (h : Sparse.wf d l = true) (k : Nat) (v : α) : Sparse.wf d (Sparse.set d l k v) = true :=
  Sparse.wf_write h k [v]

/-! ### Reads -/

omit [DecidableEq α] in
theorem Sparse.get_append_right {a b : Sparse α} {k : Nat} (h : ∀ p ∈ a, p.1 ≠ k) :
    Sparse.get d (a ++ b) k = Sparse.get d b k := by
  induction a with
  | nil => rfl
  | cons p t ih =>
      have hp : p.1 ≠ k := h p (by simp)
      simpa [Sparse.get, hp] using ih fun q hq => h q (by simp [hq])

omit [DecidableEq α] in
theorem Sparse.get_none {l : Sparse α} {k : Nat} (h : ∀ p ∈ l, p.1 ≠ k) : Sparse.get d l k = d := by
  simpa [Sparse.get] using Sparse.get_append_right (d := d) (b := []) h

omit [DecidableEq α] in
theorem Sparse.get_append_left {a b : Sparse α} {k : Nat} (h : ∀ p ∈ b, p.1 ≠ k) :
    Sparse.get d (a ++ b) k = Sparse.get d a k := by
  induction a with
  | nil => exact Sparse.get_none h
  | cons p t ih => simp [Sparse.get, ih]

omit [DecidableEq α] in
theorem Sparse.get_filter (l : Sparse α) (c : Nat → Bool) (k : Nat) :
    Sparse.get d (l.filter fun p => c p.1) k = if c k then Sparse.get d l k else d := by
  induction l with
  | nil => simp [Sparse.get]
  | cons p t ih =>
      by_cases hk : p.1 = k
      · cases hc : c k <;> simp [List.filter, hk, hc, Sparse.get, ih]
      · cases hc : c p.1 <;> simp [List.filter, hc, Sparse.get, hk, ih]

theorem Sparse.get_entries (vs : List α) (base k : Nat) :
    Sparse.get d (Sparse.entries d base vs) k = if base ≤ k then vs.getD (k - base) d else d := by
  induction vs generalizing base with
  | nil => simp [Sparse.entries, Sparse.get]
  | cons v t ih =>
      simp only [Sparse.entries]
      by_cases hk : k = base
      · subst hk
        by_cases hv : v = d
        · simp only [hv, if_true, ih]
          rw [if_neg (by omega)]
          simp
        · simp [hv, Sparse.get]
      · by_cases hle : base ≤ k
        · obtain ⟨n, rfl⟩ : ∃ n, k = base + 1 + n := ⟨k - base - 1, by omega⟩
          have h1 : base + 1 + n - base = n + 1 := by omega
          have h2 : base + 1 ≤ base + 1 + n := by omega
          have h3 : base ≤ base + 1 + n := by omega
          have h4 : base ≠ base + 1 + n := by omega
          by_cases hv : v = d <;> simp [hv, Sparse.get, ih, h1, h2, h3, h4]
        · have h2 : ¬ base + 1 ≤ k := by omega
          have h4 : base ≠ k := by omega
          by_cases hv : v = d <;> simp [hv, Sparse.get, ih, h2, h4, hle]

/-- What a read answers after a write: the value written, or what it answered before. -/
theorem Sparse.get_write (l : Sparse α) (base k : Nat) (vs : List α) :
    Sparse.get d (Sparse.write d l base vs) k =
      if base ≤ k ∧ k < base + vs.length then vs.getD (k - base) d else Sparse.get d l k := by
  have hlo := Sparse.get_filter (d := d) l (fun i => decide (i < base)) k
  have hhi := Sparse.get_filter (d := d) l (fun i => decide (base + vs.length ≤ i)) k
  have hin := Sparse.entries_bounds (d := d) vs base
  simp only [Sparse.write, List.append_assoc]
  by_cases h1 : k < base
  · rw [if_neg (by omega), Sparse.get_append_left, hlo]
    · simp [h1]
    · intro p hp
      simp only [List.mem_append, List.mem_filter, decide_eq_true_eq] at hp
      rcases hp with hp | hp
      · have := hin p hp; omega
      · omega
  · rw [Sparse.get_append_right (by
      intro p hp
      simp only [List.mem_filter, decide_eq_true_eq] at hp
      omega)]
    by_cases h2 : k < base + vs.length
    · rw [if_pos ⟨by omega, h2⟩, Sparse.get_append_left (by
        intro p hp
        simp only [List.mem_filter, decide_eq_true_eq] at hp
        omega), Sparse.get_entries, if_pos (by omega)]
    · rw [if_neg (by omega), Sparse.get_append_right (by
        intro p hp
        have := hin p hp
        omega), hhi, if_pos (by simpa using Nat.le_of_not_lt h2)]

@[simp] theorem Sparse.get_set_same (l : Sparse α) (k : Nat) (v : α) : Sparse.get d (Sparse.set d l k v) k = v := by
  simp [Sparse.set, Sparse.get_write]

theorem Sparse.get_set (l : Sparse α) (k j : Nat) (v : α) :
    Sparse.get d (Sparse.set d l k v) j = if j = k then v else Sparse.get d l j := by
  by_cases h : j = k
  · subst h; simp
  · have : ¬ (k ≤ j ∧ j < k + [v].length) := by simp only [List.length_singleton]; omega
    simp only [Sparse.set, Sparse.get_write, if_neg this, if_neg h]

omit [DecidableEq α] in
@[simp] theorem Sparse.length_read (l : Sparse α) (base n : Nat) : (Sparse.read d l base n).length = n := by
  simp [Sparse.read]

/-- Reading back what was written. -/
theorem Sparse.read_write_same (l : Sparse α) (base : Nat) (vs : List α) :
    Sparse.read d (Sparse.write d l base vs) base vs.length = vs := by
  apply List.ext_getElem
  · simp
  · intro i h1 h2
    have hi : i < vs.length := h2
    simp [Sparse.read, Sparse.get_write, hi]

/-! ### Memory -/

/-- A store keeps the canonical form of memory. -/
theorem Memory.wf_store {m : List Host.Cell} (h : Memory.wf m = true) (a : Nat) (bs : List Byte) :
    Memory.wf (Memory.store m a bs) = true := Sparse.wf_write h a bs

/-- A byte after a store. -/
theorem Memory.byte_store (m : List Host.Cell) (a k : Nat) (bs : List Byte) :
    Memory.byte (Memory.store m a bs) k =
      if a ≤ k ∧ k < a + bs.length then bs.getD (k - a) 0 else Memory.byte m k :=
  Sparse.get_write (d := (0 : Byte)) m a k bs

/-- A store leaves every byte outside its own. -/
theorem Memory.byte_store_other (m : List Host.Cell) (a k : Nat) (bs : List Byte) (h : k < a ∨ a + bs.length ≤ k) :
    Memory.byte (Memory.store m a bs) k = Memory.byte m k := by
  rw [Memory.byte_store, if_neg (by omega)]

/-- Reading back what was stored. -/
theorem Memory.bytes_store_same (m : List Host.Cell) (a : Nat) (bs : List Byte) :
    Memory.bytes (Memory.store m a bs) a bs.length = bs := Sparse.read_write_same m a bs

/-- The one operation of the state that writes memory keeps its canonical form. -/
theorem State.wf_storeMem {s : State} (h : Memory.wf s.mem = true) (a : Nat) (bs : List Byte) :
    Memory.wf (s.storeMem a bs).mem = true := Memory.wf_store h a bs

theorem Memory.wf_reset : Memory.wf State.reset.mem = true := rfl

/-! ### Byte order -/

@[simp] theorem leBytes_length (n x : Nat) : (leBytes n x).length = n := by
  induction n generalizing x with
  | zero => rfl
  | succ n ih => simp [leBytes, ih]

/-- The bytes of a number give it back, modulo their count (R7). -/
theorem leNat_leBytes (n x : Nat) : leNat (leBytes n x) = x % 256 ^ n := by
  induction n generalizing x with
  | zero => simp [leBytes, leNat, Nat.mod_one]
  | succ n ih =>
      simp only [leBytes, leNat, BitVec.toNat_ofNat, ih]
      have h : (256 : Nat) ^ (n + 1) = 256 * 256 ^ n := by rw [Nat.pow_succ, Nat.mul_comm]
      rw [h, show (2 : Nat) ^ 8 = 256 from rfl, Nat.mod_mul]

end Sys2Proof.Machine
end

