-- ==== Sys2Proof/Tests/Slice0.lean ====
section
/-! SUPPORT. Tests: what well-formedness refuses, words written out from the encodings of R66 to R75, steps of single
instructions with results calculated by hand from the spec, and for each statement with hypotheses states and operands
that meet them. -/

namespace Sys2Proof.Tests

open Sys2Proof Sys2Proof.Machine Sys2Proof.Claims

/-! ### Ill-formed terms -/

theorem test_ill_formed_control :
    (Instr.loop 0 3 0).wellFormed = false ∧ (Instr.loopi 1 5 0).wellFormed = false ∧
    (Instr.lpipe 0 3 0 4).wellFormed = false ∧ (Instr.lpipe 0 3 4 0).wellFormed = false := by decide

theorem test_ill_formed_scalar :
    (Instr.cmp true 1 2 3 6).wellFormed = false ∧ (Instr.cmpi true 1 2 7 3).wellFormed = false ∧
    (Instr.fcvtid true 1 2 5).wellFormed = false ∧ (Instr.fcvtdi true 1 2 5).wellFormed = false ∧
    (Instr.fcmp true 1 2 3 4).wellFormed = false ∧ (Instr.cas true 5 1 2 3 0).wellFormed = false ∧
    (Instr.movx true 3 1 2).wellFormed = false ∧ (Instr.movsr true 1 0x007).wellFormed = false ∧
    (Instr.movsr true 1 0x058).wellFormed = false ∧ (Instr.movrs true 1 0x021).wellFormed = false ∧
    (Instr.titw true 1 2 5).wellFormed = false ∧ (Instr.titr true 1 2 5).wellFormed = false := by decide

theorem test_ill_formed_vector :
    (Instr.vsetm 0 true 10 0 0 5).wellFormed = false ∧ (Instr.vsetm 0 true 9 5 0 5).wellFormed = false ∧
    (Instr.vcvt 0 true 7 4 11 0 0).wellFormed = false ∧ (Instr.vcvt 0 true 7 4 10 5 0).wellFormed = false ∧
    (Instr.vcvt 0 true 7 4 3 0 1).wellFormed = false ∧ (Instr.vlds 0 true 7 1 0 3).wellFormed = false ∧
    (Instr.vsts 0 true 7 1 0 3).wellFormed = false := by decide

theorem test_ill_formed_matrix_and_sync :
    (Instr.mdrn 6 4 7 3 1).wellFormed = false ∧ (Instr.mdrnr 6 4 7 3 1).wellFormed = false ∧
    (Instr.rel 6).wellFormed = false ∧ (Instr.acq 7).wellFormed = false := by decide

theorem test_ill_formed_core_events :
    (Instr.holdRelease 256).wellFormed = false ∧ (Instr.fixedResultLanding 256).wellFormed = false ∧
    (Instr.variableResultLanding 256 0).wellFormed = false ∧ (Instr.spillFill 256).wellFormed = false ∧
    (Instr.segmentCopyComplete 0 2).wellFormed = false ∧ (Instr.commandStart 0 3).wellFormed = false ∧
    (Instr.productStep 256).wellFormed = false ∧ (Instr.tokenRetire 0 64).wellFormed = false ∧
    (Instr.leaseGrant 64).wellFormed = false ∧ (Instr.arrayRepair 64).wellFormed = false ∧
    (Instr.faultHistoryExpiry 64).wellFormed = false ∧ (Instr.copyStepBoundary 0 2 0).wellFormed = false ∧
    (Instr.arrivalInterrupt 256).wellFormed = false ∧ (Instr.step 256).wellFormed = false ∧
    (Instr.traceSample 256).wellFormed = false ∧ (Instr.debugStop 256).wellFormed = false ∧
    (Instr.debugStopForce 256).wellFormed = false ∧ (Instr.stop 256).wellFormed = false ∧
    (Instr.run 256).wellFormed = false ∧ (Instr.req 256).wellFormed = false ∧ (Instr.data 256 none).wellFormed = false ∧
    (Instr.hbind 0 16 0 0).wellFormed = false ∧ (Instr.hbind 0 0 2 0).wellFormed = false ∧
    (Instr.priorityPreemption 64).wellFormed = false ∧ (Instr.preemption 256).wellFormed = false ∧
    (Instr.taskAbort 256 0).wellFormed = false ∧ (Instr.ueCore 256).wellFormed = false ∧
    (Instr.pageWalk 256 0).wellFormed = false ∧ (Instr.walkTimeout 256).wellFormed = false ∧
    (Instr.leaseExpiry 8).wellFormed = false ∧ (Instr.flagPost 0 32 0 0).wellFormed = false ∧
    (Instr.barrierPhaseComplete 0 128).wellFormed = false ∧ (Instr.completionTimeout 256 (.result 0)).wellFormed = false := by decide

theorem test_ill_formed_package_events :
    (Instr.dtbSynchronisation 8 ⟨0, 0, 0⟩).wellFormed = false ∧ (Instr.syncResend 8).wellFormed = false ∧
    (Instr.ack 0 6 { seq := 0 }).wellFormed = false ∧ (Instr.nak 8 0 { seq := 0 }).wellFormed = false ∧ (Instr.en 0 6 true).wellFormed = false ∧
    (Instr.retrain 8 0).wellFormed = false ∧ (Instr.trainingStart 0 6).wellFormed = false ∧
    (Instr.trainingComplete 0 0 64 0 0).wellFormed = false ∧ (Instr.trainingTimeout 8 0).wellFormed = false ∧
    (Instr.retrainComplete 0 6 true).wellFormed = false ∧ (Instr.crcFailure 8 0 ⟨0, true⟩).wellFormed = false ∧
    (Instr.notify 4096 0).wellFormed = false ∧ (Instr.apertureUngate 4096).wellFormed = false ∧
    (Instr.apertureGate 4096).wellFormed = false ∧ (Instr.qpend 64 1).wellFormed = false ∧
    (Instr.packetFetch 64).wellFormed = false ∧ (Instr.launch 64).wellFormed = false ∧ (Instr.map 64).wellFormed = false ∧
    (Instr.queueReset 64).wellFormed = false ∧ (Instr.pollingPosition 80).wellFormed = false ∧
    (Instr.hostAtomicop 0 3 8 0 0).wellFormed = false := by decide

/-- A slot word whose field holds a reserved value decodes to nothing (R58). -/
theorem test_reserved_words_refused :
    decodeSlot 1 0x1B24E000 = none ∧ decodeSlot 4 0x10320E07 = none ∧ decodeSlot 0 0xFFFFFFFF = none := by decide

/-! ### Words written out from the encodings -/

/-- `loopi 0, 3, 3`: opcode 0x09 in bits 31:25, n in 24, count in 23:16, end in 11:0 (R67). -/
theorem test_decode_control :
    decodeSlot 0 0x053FFFFC = some (.brn 3 0xFFFFC) ∧ decodeSlot 0 0x12030003 = some (.loopi 0 3 3) ∧
    decodeSlot 0 0x1C000102 = some (.exit 258) ∧ decodeSlot 0 0x1E008001 = some (.abort 0x8001) ∧
    decodeSlot 0 0x20000005 = some (.brk 5) ∧ decodeSlot 0 0x22000003 = some (.segb 3) := by decide

/-- Integer, immediate and extension words (R68 to R70, R64). -/
theorem test_decode_scalar :
    decodeSlot 1 0x02952E00 = some (.add true 9 10 11) ∧ decodeSlot 1 0x054A7FFF = some (.addi true 9 9 0x3FFF) ∧
    decodeSlot 1 0x1B248000 = some (.cmpi true 2 9 0 0) ∧ decodeSlot 1 0x149ACA00 = some (.movi 9 0xACA00) ∧
    decodeSlot 1 0x7E0003B9 = some (.ext 0x3B9) ∧ decodeSlot 1 0x691B0000 = some (.movx true 0 3 12) := by decide

/-- Loads, atomics and handle instructions (R113, R116, R227). -/
theorem test_decode_scalar_memory :
    decodeSlot 1 0x3D219142 = some (.ldD true 4 3 2 5 2) ∧ decodeSlot 1 0x393109C2 = some (.ldW true 6 2 1 7 2) ∧
    decodeSlot 1 0x51209801 = some (.amoAdd true 4 1 6 0 1) ∧ decodeSlot 1 0x61291800 = some (.xlat true 5 2 6) ∧
    decodeSlot 1 0x63018000 = some (.hrev true 3) ∧ decodeSlot 1 0x65398000 = some (.hinfo true 7 3) := by decide

/-- Vector words (R71, R72). -/
theorem test_decode_vector :
    decodeSlot 2 0x05030102 = some (.vadd 0 true 3 1 2) ∧ decodeSlot 2 0x03600028 = some (.vsetm 0 true 6 0 0 5) ∧
    decodeSlot 2 0x3B070489 = some (.vcvt 0 true 7 4 8 4 1) ∧ decodeSlot 2 0x690A2832 = some (.vgath 0 true 10 40 3 2) ∧
    decodeSlot 2 0x75141031 = some (.vldtCol 0 true 20 4 6) ∧ decodeSlot 2 0x81140450 = some (.hgld 0 true 20 4 5) := by
  decide

/-- Matrix and copy words (R73, R74). -/
theorem test_decode_engines :
    decodeSlot 4 0x02080000 = some (.mlease 1) ∧ decodeSlot 4 0x082A0600 = some (.mmul 5 4 3 0) ∧
    decodeSlot 4 0x10320E01 = some (.mdrn 6 4 7 0 1) ∧ decodeSlot 5 0x06610488 = some (.ctile 0 12 8 9 0 1 0) ∧
    decodeSlot 5 0x0CA04064 = some (.csend 0 20 2 3 1) ∧ decodeSlot 5 0x18480001 = some (.hgfoldAdd 0 9 0 0) := by decide

/-- Synchronisation words (R75). -/
theorem test_decode_sync :
    decodeSlot 7 0x02060002 = some (.fwait 3 2) ∧ decodeSlot 7 0x040A0001 = some (.fpost 5 1) ∧
    decodeSlot 7 0x080A0000 = some (.twait 5) ∧ decodeSlot 7 0x0C460000 = some (.barv 35) ∧
    decodeSlot 7 0x12001800 = some (.fence 0xC) ∧ decodeSlot 7 0x14020000 = some (.rel 1) ∧
    decodeSlot 7 0x1A081201 = some (.cwait 4 9 1) ∧ decodeSlot 7 0x1E0E0000 = some (.rgo 7) ∧
    decodeSlot 7 0x20080A00 = some (.wadd 4 5) := by decide

/-! ### Single steps -/

/-- Slot `k` of the bundle at PC holds `w`, the other slots NOP; the core is `f` of one on which a task starts. -/
def placed (k w : Nat) (f : Core → Core) : State :=
  let s := State.reset.withFetchWord 32 0
  { s with core := f { s.core with loc := { s.core.loc with imem := Sparse.write 0 [] 0 (leBytes 32 (w * 2 ^ (32 * k))) } } }

/-- With these scalar registers. -/
def withG (g : Sparse Word) (c : Core) : Core := { c with sc := { c.sc with g := g } }

/-- The core after one step; the core before it where the step answers no next state. -/
def stepped (s : State) : Core := match step s with | .next t => t.core | _ => s.core

/-- R104: `add g9, g10, g11` wraps; the sum lands one cycle after issue, which is the cycle of the next bundle. -/
theorem test_add_wraps :
    let c := stepped (placed 1 0x02952E00 (withG [(10, -1), (11, 17)]))
    c.landDue.g 9 = 16 ∧ c.seq.pc = 1 ∧ c.seq.cyc = 1 := by decide

/-- R106, R64: `movi` sign-extends its 20 bits: 0xACA00 is −341504. -/
theorem test_movi_negative :
    (stepped (placed 1 0x149ACA00 id)).landDue.g 9 = BitVec.ofInt 64 (-341504) := by decide

/-- R62: a quotient makes its destination empty for 20 cycles; 7 / −2 is −3. -/
theorem test_div_empties :
    let c := stepped (placed 1 (encode (.div true 9 10 11)).toNat (withG [(10, 7), (11, -2)]))
    c.gEmpty 9 = true ∧ c.flight = [⟨20, .g 9 (BitVec.ofInt 64 (-3)) true⟩] := by decide

/-- R105: −2^63 divided by −1. -/
theorem test_div_most_negative :
    (stepped (placed 1 (encode (.div true 9 10 11)).toNat (withG [(10, 0x8000000000000000), (11, -1)]))).flight =
      [⟨20, .g 9 0x8000000000000000 true⟩] := by decide

/-- R63: a B = 1 reference to an empty register holds the bundle; B = 0 traps FE_EMPTY (code 0x05), with the register's
number in TINFO[12:8], and kills the task, which has no handler. -/
theorem test_empty_register_holds :
    let c := stepped (placed 1 0x02952E00 fun c => { withG [] c with sc := { c.sc with empty := [11] } })
    c.seq.pc = 0 ∧ c.seq.cyc = 1 ∧ c.seq.last = .held (.emptyG 11) ∧ c.flight = [] := by decide

theorem test_empty_register_traps :
    let c := stepped (placed 1 (encode (.add false 9 10 11)).toNat fun c =>
      { c with sc := { c.sc with empty := [11] }, tr := { c.tr with tvec := 64 } })
    c.seq.pc = 64 ∧ c.tr.tlvl = true ∧ c.tr.tpc = 0 ∧ bits c.tr.tcause.toNat 0 8 = 5 ∧ bits c.tr.tinfo.toNat 8 8 = 11 := by
  decide

/-- R98: TRAP resumes behind its bundle. -/
theorem test_trap_enters_handler :
    let c := stepped (placed 0 (encode (.trap 0x1234)).toNat fun c => { c with tr := { c.tr with tvec := 64 } })
    c.seq.pc = 64 ∧ c.tr.tpc = 1 ∧ c.tr.tinfo = 0x1234 ∧ c.tr.tlvl = true := by decide

/-- R100: SYSCALL enters the monitor at bundle 0 of its store. -/
theorem test_syscall_enters_monitor :
    let c := stepped (placed 0 (encode (.syscall 7)).toNat fun c => { c with seq := { c.seq with pc := 0 } })
    c.tr.mlvl = true ∧ c.tr.mpc = 1 ∧ c.tr.minfo = 7 := by decide

/-- R80, R79: a branch by −4 from bundle 0 goes to 2^32 − 4, after two delay bundles. -/
theorem test_branch_wraps :
    (stepped (placed 0 (encode (.br 0xFFFFC)).toNat id)).seq.xfer = some ⟨0xFFFFFFFC, 2, .none⟩ := by decide

/-- R107: LT is signed: −1 < 1. -/
theorem test_cmp_signed :
    (stepped (placed 1 (encode (.cmp true 2 10 11 2)).toNat (withG [(10, -1), (11, 1)]))).landDue.pred 2 = true := by decide

/-- R107: LTU is not: 2^64 − 1 is not below 1. -/
theorem test_cmp_unsigned :
    (stepped (placed 1 (encode (.cmp true 2 10 11 3)).toNat (withG [(10, -1), (11, 1)]))).landDue.pred 2 = false := by decide

/-- R110: 1.0 + 2.0 is 3.0 in FP64, four cycles later. -/
theorem test_fadd :
    (stepped (placed 1 (encode (.fadd true 9 10 11)).toNat
      (withG [(10, 0x3FF0000000000000), (11, 0x4000000000000000)]))).flight =
      [⟨4, .g 9 0x4008000000000000 false⟩] := by decide

/-- R92: `lpipe` of 3 iterations and 2 stages counts 4 kernel iterations. -/
theorem test_lpipe_count :
    let l := (stepped (placed 0 (encode (.lpipe 0 10 2 4)).toNat (withG [(10, 3)]))).lp
    l.l0.cnt = 4 ∧ l.l0.act = true ∧ l.l0.beg = 3 ∧ l.l0.fin = 6 ∧ l.pv = true ∧ l.sv = 1 := by decide

/-- R120: CORE_ID of core 0 and a write of FFLAGS, whose upper bits are reserved. -/
theorem test_system_registers :
    (stepped (placed 1 (encode (.movrs true 9 0x001)).toNat (withG [(9, 5)]))).landDue.g 9 = 0 ∧
    (stepped (placed 1 (encode (.movsr true 10 0x005)).toNat (withG [(10, 0xFFFF)]))).landDue.sc.fflags = 31 := by decide

/-- R119: `movx` of engine 0, X3. -/
theorem test_movx : (stepped (placed 1 0x691B0000 (withG [(12, 99)]))).landDue.st.x = [(3, 99)] := by decide

/-- A core whose handle 1 is of kind scratch over 64 bytes of pool from 32768 on, readable and writable (R225). -/
def scratch (c : Core) : Core :=
  { c with st := { c.st with b1 := 1, b2 := 8, b3 := 8, h := [(1, { w0 := 0xB000000000008000, w1 := 64 })] } }

/-- R114: a load of the four bytes FC FF FF FF at offset 8 is −4. -/
theorem test_load_sign_extends :
    let c := stepped (placed 1 (encode (.ldW true 9 1 0 10 2)).toNat fun c =>
      { withG [] (scratch c) with loc := { c.loc with pool := [(32776, 0xFC), (32777, 0xFF), (32778, 0xFF), (32779, 0xFF)] } })
    c.gEmpty 9 = true ∧ ({ c with seq := { c.seq with cyc := 8 } } : Core).landDue.g 9 = BitVec.ofInt 64 (-4) := by decide

/-- R115: a halfword store writes two bytes, the low one first. -/
theorem test_store_halfword :
    (stepped (placed 1 (encode (.stH true 9 1 0 10 1)).toNat fun c => withG [(9, 0xABCDEF12)] (scratch c))).loc.pool =
      [(32770, 0x12), (32771, 0xEF)] := by decide

/-- R113: the byte behind the limit traps PROT (code 0x11). -/
theorem test_limit_traps :
    (stepped (placed 1 (encode (.ldB true 9 1 0 10 0)).toNat fun c =>
      { withG [(10, 64)] (scratch c) with tr := { c.tr with tvec := 64 } })).tr.tcause.toNat % 256 = 0x11 := by decide

/-- R116: AMOADD adds in place and answers the old value. -/
theorem test_amoadd :
    let c := stepped (placed 1 (encode (.amoAdd true 9 1 10 0 0)).toNat fun c =>
      { withG [(9, 5)] (scratch c) with loc := { c.loc with pool := [(32768, 0xFE)] } })
    c.loc.pool = [(32768, 3), (32769, 1)] ∧ c.waiting = [{ dst := [.g 9 0xFE true] }] := by decide

/-- A core with engine 0 set to INT32 (type 2) and VL 4, and two registers. -/
def vectors (c : Core) : Core :=
  { c with vec := { c.vec with e0 := { c.vec.e0 with type := 2, vl := 4 }, v := [(4096, 0xFF), (8192, 2)] } }

/-- R129: an INT32 sum of four elements, 255 + 2 in the first; it lands four cycles after issue. -/
theorem test_vadd :
    (stepped (placed 2 (encode (.vadd 0 true 3 1 2)).toNat vectors)).flight.map (fun x => (x.due, x.dst.vreg)) =
      [(4, some (3, 0))] := by decide

theorem test_vadd_value :
    let c := stepped (placed 2 (encode (.vadd 0 true 3 1 2)).toNat vectors)
    ({ c with seq := { c.seq with cyc := 4 } } : Core).landDue.vbytes 3 0 4 = [1, 1, 0, 0] := by decide

/-- R128: VL is at most 1024 for 4-byte elements. -/
theorem test_vsetm_limits_vl :
    (stepped (placed 2 (encode (.vsetm 0 true 6 0 0 10)).toNat (withG [(10, 5000)]))).landDue.vec.e0.vl = 1024 := by decide

/-- R71: a vector register number of 160 or more traps REGFIELD. -/
theorem test_vreg_160_traps :
    (stepped (placed 2 (encode (.vadd 0 true 160 1 2)).toNat fun c =>
      { c with tr := { c.tr with tvec := 64 } })).tr.tlvl = true := by decide

/-- R157: a command of the M slot without a lease traps NOLEASE. -/
theorem test_no_lease_traps :
    (stepped (placed 4 (encode (.mmul 5 4 3 0)).toNat fun c => { c with tr := { c.tr with tvec := 64 } })).tr.tlvl = true := by
  decide

/-- R324: FWAIT of a flag that counts 2 takes it; of one that counts less it holds. -/
theorem test_fwait :
    (stepped (placed 7 0x02060002 fun c => { c with sy := { c.sy with flag := [(3, 2)] } })).sy.flag = [] ∧
    (stepped (placed 7 0x02060002 fun c => { c with sy := { c.sy with flag := [(3, 1)] } })).seq.last = .held (.flag 3 2) := by
  decide

/-- An agenda whose next entry is no event is the machine's one fault. -/
theorem test_slot_word_in_agenda_faults : step { State.reset with agenda := [.nop] } = .fault .illFormedEvent := rfl

/-! ### States and operands that meet the hypotheses of the statements -/

/-- The reset state with core 0 changed, and the time base of its die synchronised. -/
def core0 (f : Core → Core) : State := { State.reset with core := f {}, dies := [(0, { lease0 := false })] }

/-- Registers at the ends of their range; loop set 1 is active from bundle 10 to bundle 20. -/
def busy : State := core0 fun c => { c with
  sc := { c.sc with g := [(9, 0xFFFFFFFF), (10, 0x8000000000000000), (11, 0xFFFFFFFFFFFFFFFF), (12, 1)] }
  lp := { c.lp with l1 := { beg := 10, fin := 20, cnt := 2, act := true } } }

theorem witness_BranchTransfers :
    NoDelayEnd (State.reset.core.lp.branchTo (State.reset.dispTarget 0xFFFFC)) State.reset.core.seq.pc ∧
    State.reset.core.pred 0 = true ∧ State.reset.core.pred 7 = false ∧
    NoDelayEnd (busy.core.lp.branchTo (busy.dispTarget 5)) busy.core.seq.pc ∧
    Full busy [9] ∧ (busy.core.g 9).toInt + (0 : BitVec 15).toInt = (2 ^ 32 - 1 : Nat) ∧
    NoDelayEnd (busy.core.lp.branchTo (2 ^ 32 - 1)) busy.core.seq.pc ∧
    (2 ^ 32 : Int) ≤ (busy.core.g 9).toInt + (1 : BitVec 15).toInt ∧
    Full busy [11] ∧ (busy.core.g 11).toInt + (0 : BitVec 15).toInt < 0 ∧
    (core0 fun c => { c with seq := { c.seq with xfer := some ⟨7, 3, .none⟩ } }).core.seq.moved = false := by
  unfold Full NoDelayEnd; decide

/-- Depth `d`, slot `l` the lowest one in the file, one spill bank. -/
def deep (d l : Nat) : State := core0 fun c => { c with sc := { c.sc with depth := d, low := l }, st := { c.st with b1 := 1 } }

theorem witness_CallsReturnsAndWindows :
    Full State.reset [31] ∧ State.reset.core.callOverflows = false ∧
    NoDelayEnd State.reset.core.lp State.reset.core.seq.pc ∧
    Full busy [9, 31] ∧ busy.core.callOverflows = false ∧ NoDelayEnd busy.core.lp busy.core.seq.pc ∧
    Full (deep 268 255) [31] ∧ (deep 268 255).core.callOverflows = false ∧ (deep 269 256).core.callOverflows = true ∧
    Full (deep 269 256) [12, 31] ∧ ((deep 269 256).core.g 12).toInt + (5 : BitVec 15).toInt = (5 : Nat) ∧
    (deep 65535 65535).core.callOverflows = true ∧ Full (deep 1 1) [15] ∧ (deep 1 1).core.sc.depth ≠ 0 ∧
    Full State.reset [15] ∧ State.reset.core.sc.depth = 0 ∧
    Full busy [11, 31] ∧ (busy.core.g 11).toInt + (0 : BitVec 15).toInt < 0 ∧
    2 ^ 32 ≤ (busy.core.g 9).toInt + (1 : BitVec 15).toInt ∧
    Full (core0 fun c => { c with lp := { c.lp with l0 := { fin := 2, cnt := 2, act := true } } }) [15, 31, 10] ∧
    ¬ NoDelayEnd (core0 fun c => { c with lp := { c.lp with l0 := { fin := 2, cnt := 2, act := true } } }).core.lp 0 := by
  and_intros <;> (try unfold Full) <;> (try unfold NoDelayEnd) <;> decide

/-- Count 0 and count 1, with no loop active and inside an active one whose end is the body's last bundle. -/
theorem witness_LoopRules :
    Full State.reset [5] ∧ (State.reset.core.lp.set 0).act = false ∧
    State.reset.core.lp.nests 0 (State.reset.core.seq.pc + 2 + 4095) = true ∧
    NoDelayEnd (State.reset.core.lp.onSet 0 fun x => { x with act := false, fin := 4097 }) 0 ∧
    Full busy [12] ∧ (busy.core.lp.set 0).act = false ∧ busy.core.lp.nests 0 (busy.core.seq.pc + 2 + 18) = true ∧
    NoDelayEnd (busy.core.lp.onSet 0 fun x => { x with act := true, fin := 20 }) busy.core.seq.pc ∧
    busy.core.lp.pv = false ∧ (busy.core.g 12).toNat < 2 ^ 63 ∧
    busy.core.lp.outer 1 = false ∧
    (busy.core.lp.set 1).act = true ∧ (busy.core.lp.set 1).fin = 20 ∧ 1 < (busy.core.lp.set 1).cnt ∧
    ({ busy.core.lp with l1 := { busy.core.lp.l1 with cnt := 1 } } : Loops).l1.cnt ≤ 1 := by
  unfold Full NoDelayEnd; decide

/-- Two loops that end on bundle 9, the inner one with `n` iterations left and the outer one with `m`; set 1 pipelined. -/
def nested (n m : Nat) (p : Bool) : Loops :=
  { l0 := { beg := 4, fin := 9, cnt := m, act := !p }, l1 := { beg := 6, fin := 9, cnt := n, act := true }, inner := 1, pv := p, ps := 1,
    lstg := 2, sv := 1, lsm := [(0, 0xFFFFFF1F)] }

/-- The inner loop goes on, the outer one, or neither; the pipelined loop goes on and ends; a slot of a stage that has not begun. -/
theorem witness_LoopEndRule :
    (nested 2 1 false).inner < 2 ∧ (nested 2 1 false).l0.act = true ∧ (nested 2 1 false).l1.act = true ∧
    (nested 2 1 false).l0.fin = 9 ∧ (nested 2 1 false).l1.fin = 9 ∧ 1 < ((nested 2 1 false).set 1).cnt ∧
    ((nested 1 2 false).set 1).cnt ≤ 1 ∧ 1 < ((nested 1 2 false).set 0).cnt ∧ ((nested 1 1 false).set 0).cnt ≤ 1 ∧
    ((nested 2 1 true).set 1).act = true ∧ ((nested 2 1 true).set 0).act = false ∧ (nested 2 1 true).ps = 1 ∧
    1 < ((nested 2 1 true).set 1).cnt ∧ ((nested 1 1 true).set 1).cnt ≤ 1 ∧
    (core0 fun c => { c with lp := nested 2 1 true, seq := { c.seq with pc := 6 } }).core.gated 1 = true ∧
    (core0 fun c => { c with lp := nested 2 1 true, seq := { c.seq with pc := 6 } }).core.gated 0 = false := by decide

/-- A task with a trap handler. -/
def handled : State := core0 fun c => { c with tr := { c.tr with tvec := 0xFFFFFFFF } }

theorem witness_TrapAndServiceEntry :
    handled.core.tr.mlvl = false ∧ handled.core.tr.tlvl = false ∧ handled.core.tr.tvec ≠ 0 ∧
    handled.core.dbg.skip = false ∧ handled.core.seq.ext = none ∧
    (core0 fun c => { c with dbg := { c.dbg with skip := true } }).core.tr.mlvl = false := by decide

/-- At trap level with a transfer of one remaining bundle recorded, at monitor level, and in the arrival handler. -/
theorem witness_ReturnsFromHandlers :
    NoDelayEnd State.reset.core.lp State.reset.core.seq.pc ∧
    (core0 fun c => { c with tr := { c.tr with tlvl := true, tcause := 0x40000 } }).core.tr.tlvl = true ∧
    bits (core0 fun c => { c with tr := { c.tr with tlvl := true, tcause := 0x40000 } }).core.tr.tcause.toNat 18 2 ≠ 0 ∧
    bits State.reset.core.tr.tcause.toNat 18 2 = 0 ∧
    (core0 fun c => { c with tr := { c.tr with mlvl := true } }).core.tr.mlvl = true ∧
    (core0 fun c => { c with tr := { c.tr with ain := true } }).core.tr.ain = true ∧
    State.reset.core.tr.tlvl = false ∧ State.reset.core.tr.mlvl = false ∧ State.reset.core.tr.ain = false := by
  unfold NoDelayEnd; decide

/-- A task of a kernel with two segments, one for each half; it runs in the first. -/
def overlaid : State :=
  let s := State.reset.withFetchWord 32 0
  { s with fe := { s.fe with kernels := [{ fetchKernel with segs := [⟨0, 0, 0, 16⟩, ⟨4096, 16, 1, 16⟩] }] } }

theorem witness_OtherControl :
    (core0 fun c => { c with tr := { c.tr with aip := true } }).core.tr.aip = true ∧ State.reset.core.tr.aip = false ∧
    (∃ k x, overlaid.myKernel = some k ∧ k.segs[1]? = some x ∧
      (∀ y, k.segAt overlaid.core.seq.pc = some y → y.2.half ≠ x.half) ∧
      (overlaid.core.loc.half x.half).has 1 = false) ∧
    (overlaid.onLoc fun l => l.setHalf 1 (.resident 1)).core.loc.half 1 = .resident 1 := by
  refine ⟨rfl, rfl, ⟨_, _, rfl, rfl, ?_, rfl⟩, rfl⟩
  rintro y h; cases h; decide

theorem witness_IntegerAndImmediateResults :
    Full busy [10, 11, 9] ∧ busy.core.g 10 = BitVec.intMin 64 ∧ busy.core.g 11 = -1 ∧ Full busy [10, 13, 31] ∧
    busy.core.g 13 = 0 := by unfold Full; decide

theorem witness_ComparesAndPredicates :
    Full busy [10, 11] ∧ Full busy [10, 11, 9] ∧ busy.core.pred 0 = true ∧ busy.core.pred 15 = false := by
  unfold Full; decide

/-- The code of the largest FP64 number, and that of 2^−1074, are finite. -/
theorem witness_Fp64Arithmetic :
    Full busy [9, 10, 11, 12] ∧ fp64 ∈ [fp64, fp32, fp16, bf16, e5m2, e4m3, e2m1] ∧ (0x7FEFFFFFFFFFFFFF : Nat) < 2 ^ (1 + fp64.eb + fp64.mb) ∧
    (fp64.decode 0x7FEFFFFFFFFFFFFF).isFin = true ∧ (fp64.decode 1).isFin = true ∧ (fp32.decode 0x7F7FFFFF).isFin = true ∧
    ((3 : BitVec 3).toNat < 4) := by unfold Full; decide

/-- A TITW of word 0 with a legal value, and one with an illegal value. -/
theorem witness_StagingAndIdentifiers :
    Full busy [12] ∧ titLegal 0 (busy.gn 12) = true ∧ Full busy [11] ∧ titLegal 0 (busy.gn 11) = false := by
  unfold Full; decide

/-- A register of the task, one of the monitor at monitor level, and a number that names none. -/
theorem witness_SystemRegisters :
    Full State.reset [9] ∧ State.reset.readSr 0x002 = some 0 ∧ State.reset.readSr 0x003 = some 0 ∧
    (core0 fun c => { c with tr := { c.tr with mlvl := true } }).readSr 0x100 = some 0 ∧
    State.reset.core.tr.mlvl = false ∧ State.reset.readSr 0x007 = none ∧ (2 ^ 64 - 1 : Nat) < 2 ^ 64 ∧ 15 < 16 := by
  refine ⟨by unfold Full; decide, rfl, rfl, rfl, rfl, rfl, by decide, by decide⟩

theorem witness_ScalarRegistersFillAndHold :
    State.reset.core.flight = [] ∧ State.reset.core.seq.resumed = false ∧ State.reset.core.waiting = [] ∧
    State.reset.core.phys 9 ≠ State.reset.core.phys 31 ∧
    scalarRegs (.add true 9 10 11) = some (true, [10, 11, 9]) ∧ scalarRegs (.ldD false 9 1 0 10 2) = some (false, [10, 9]) ∧
    ¬ Full (core0 fun c => { c with sc := { c.sc with empty := [11] } }) [10, 11, 9] ∧
    ¬ Full (core0 fun c => { c with sc := { c.sc with empty := [9] } }) [10, 9] ∧ srOf (.add true 9 10 11) = none ∧
    scalarRegs (.movrs true 9 2) = some (true, [9]) ∧ srOf (.movrs true 9 2) = some 2 ∧ (State.reset.readSr 2).isSome = true := by
  unfold Full; decide

/-- A page of virtual address 0 under a leaf: V, leaf, R, W and a CLASS, at frame 0 of the space that the class needs. -/
def page (cls : Nat) (more : Nat) : Xlation :=
  { va := 0, level := 0, leaf := w64 (4096 + 6 + 16 * cls + (if cls = 4 then 2 ^ 41 else 0) + more), ctx := none, exp := 100 }

/-- Handle 1 of kind scratch over 64 bytes of the pool; handle 2 of kind memory over the page. -/
def mapped (x : Xlation) : State := core0 fun c => { scratch c with
  st := { (scratch c).st with h := [(1, { w0 := 0xB000000000008000, w1 := 64 }),
    (2, { w0 := 0x7000000000000000, w1 := 65536, tr := some x })] } }

theorem witness_LoadsAndStores :
    Full (mapped (page 1 0)) [10, 9] ∧ InPool (mapped (page 1 0)) 1 (offset (mapped (page 1 0)) 10 7 8) 8 32824 true true ∧
    (∃ x t, (mapped (page 1 0)).scalarTarget 2 (offset (mapped (page 1 0)) 10 31 8) 8 .read = .ok x t) ∧
    (∃ x t, (mapped (page 1 0)).scalarTarget 1 (offset (mapped (page 1 0)) 10 7 8) 8 .write = .ok x t) := by
  refine ⟨by unfold Full; decide, by unfold InPool; decide, ⟨_, _, rfl⟩, ⟨_, _, rfl⟩⟩

/-- A page of package 1 of the domain. -/
def elsewhere : State :=
  let s := mapped (page 1 (2 ^ 46))
  { s with fab := { s.fab with domain := [0, 1] } }

/-- In the pool, on a cached page, on a host page, and on a page of another package. -/
theorem witness_AtomicResults :
    Full (mapped (page 4 0)) [10, 9] ∧ Full (mapped (page 4 0)) [10, 8, 9] ∧
    InPool (mapped (page 4 0)) 1 ((mapped (page 4 0)).core.g 10).toInt 8 32768 true true ∧
    (∃ t pa leaf va, (mapped (page 0 0)).scalarTarget 2 ((mapped (page 0 0)).core.g 10).toInt 8 .atomic = .ok (.mem pa leaf va) t ∧
      leafClass leaf ≠ 4) ∧
    (∃ t pa leaf va, (mapped (page 4 0)).scalarTarget 2 ((mapped (page 4 0)).core.g 10).toInt 8 .atomic = .ok (.mem pa leaf va) t ∧
      leafClass leaf = 4) ∧
    (∃ t pa leaf va, elsewhere.scalarTarget 2 (elsewhere.core.g 10).toInt 8 .atomic = .ok (.mem pa leaf va) t ∧
      leafClass leaf ≠ 4 ∧ (t.evictLine pa).remote pa = true) := by
  refine ⟨by unfold Full; decide, by unfold Full; decide, by unfold InPool; decide, ⟨_, _, _, _, rfl, by decide⟩,
    ⟨_, _, _, _, rfl, by decide⟩, ⟨_, _, _, _, rfl, by decide, by decide⟩⟩

/-- The clauses of the checks meet here: a misaligned offset, a null handle, the last aligned offset below the limit and
the first above it, a page that expires in the next nanosecond, and a revoked handle. -/
theorem witness_AccessChecks :
    let s := mapped { page 1 0 with exp := 1 }
    let y := s.core.handle 2
    (((y.vbase : Int) + 4) % 8 ≠ 0) ∧ (s.core.handle 0).kind = 0 ∧ y.kind = 1 ∧ ((y.vbase : Int) + 65528) % 8 = 0 ∧
    (65528 : Int) + 8 ≤ y.limit ∧ ¬ ((65536 : Int) + 8 ≤ y.limit) ∧ y.r = true ∧ y.w = true ∧ (65528 : Int) < 2 ^ 52 ∧ y.rev = false ∧
    s.core.dbg.wld = false ∧ s.core.dbg.wst = false ∧
    (∃ x, y.tr = some x ∧ x.covers s.core.ctx 65528 = true ∧ s.live x = true ∧ leafPermits .read x.leaf.toNat = true ∧
      s.paFault (x.pa 65528) = none) ∧
    (s.core.handle 1).kind = 2 ∧ (32768 * s.core.st.b1 : Int) ≤ (s.core.handle 1).vbase + 56 ∧
    ((s.core.handle 1).vbase : Int) + 56 + 8 ≤ 32768 * s.core.st.b2 ∧
    ({ y with rev := true } : Handle).rev = true := by decide

/-- An uncached page, and a cached page whose line is present and filled. -/
def lined : State := core0 fun c => { c with
  st := { c.st with b2 := 8, b3 := 9 }, loc := { c.loc with lines := [{ pa := 0, way := 0, sectors := 15, bytes := [], mask := [], age := 0 }] } }

theorem witness_ReadsAndWritesOfTargets :
    State.reset.cached (page 1 0).leaf.toNat = false ∧ lined.cached (page 0 0).leaf.toNat = true ∧
    (∃ x, lined.core.loc.line 255 = some x ∧ x.hits 255 1 = true) ∧ State.reset.core.loc.line 0 = none ∧
    State.reset.remote 0 = false ∧ leafClass (page 1 0).leaf.toNat ≠ 2 ∧ leafNt (page 0 0).leaf.toNat = false := by decide

theorem witness_HandlesAndJumpTables :
    let s := mapped (page 1 0)
    Full s [10, 9] ∧ (s.core.handle 0).kind = 0 ∧ (s.core.handle 1).kind = 2 ∧ (s.core.handle 2).kind = 1 ∧
    (s.core.handle 1).limit = 64 ∧ (s.core.handle 2).tr = some (page 1 0) ∧ (page 1 0).covers s.core.ctx 0 = true ∧
    s.live (page 1 0) = true ∧ s.dtb < (page 1 0).exp ∧ (page 1 0).level < 4 ∧
    (core0 fun c => { c with st := { c.st with h := [(2, { w0 := 0x7000000000000000, w1 := 65536 })] } }).xlatFinds 2 0 = none ∧
    InPool s 1 (4 * min (s.gn 10) 15 : Nat) 4 32768 true false ∧
    (s.core.seq.pc : Int) + (BitVec.ofNat 32 (poolWord s.core 32768 4)).toInt = (0 : Nat) ∧
    NoDelayEnd (s.core.lp.branchTo 0) s.core.seq.pc ∧
    (∃ u t, s.scalarTarget 0 (4 * min (s.gn 10) 15 : Nat) 4 .read = .trap t u ∧ t.cause = 0x11) := by
  refine ⟨by unfold Full; decide, rfl, rfl, rfl, rfl, rfl, by decide, by decide, by decide, by decide, rfl, by unfold InPool; decide,
    by decide, by unfold NoDelayEnd; decide, ⟨_, _, rfl, rfl⟩⟩

set_option maxRecDepth 60000 in
/-- An entry of another package, which has come or whose load has failed. -/
theorem witness_JumpTables_elsewhere :
    Full elsewhere [10] ∧
    (match elsewhere.scalarTarget 2 (4 * min (elsewhere.gn 10) 15 : Nat) 4 .read with
      | .ok x t => (match (t.loadFrom x 4).2.1 with | .away _ => true | _ => false)
      | _ => false) = true ∧
    (core0 fun c => { c with seq := { c.seq with table := some (.came 0 5) } }).core.seq.table = some (.came 0 5) ∧
    (0 : Int) + (BitVec.ofNat 32 (5 : Word).toNat).toInt = (5 : Nat) ∧
    (core0 fun c => { c with tr := { c.tr with tvec := 64 }, seq := { c.seq with table := some (.failed 0 4) } }).core.tr.tvec ≠ 0 := by
  refine ⟨by unfold Full; decide, by decide, rfl, by decide, by decide⟩

/-! Vector states: engine 0 has type `ty` and length `vl`. -/

def vector (ty vl : Nat) : State := core0 fun c => { scratch c with
  sc := { c.sc with g := [(9, 0x8000), (10, 2), (11, 4)] }
  vec := { c.vec with e0 := { c.vec.e0 with type := ty, vl := vl } } }

/-- A type that has the operation, and one that traps: a square root of INT32, and a shift of FP32. -/
theorem witness_ElementwiseAndEstimates :
    VReady (vector 2 1024) 0 [] [1, 2] [3] ∧ VReady (vector 6 0) 1 [] [1, 2, 3] [3] ∧
    (shifts (fun n a k => a * 2 ^ k % 2 ^ n) 2).isSome = true ∧ (shifts (fun n a k => a * 2 ^ k % 2 ^ n) 6).isNone = true ∧
    (both1 estRcp none 6).isSome = true ∧ (both1 estRcp none 2).isNone = true := by
  unfold VReady Full; decide

theorem witness_VectorModeAndScalarOperands :
    VReady (vector 2 4) 0 [10] [] [] ∧ VReady (vector 2 4) 0 [10] [1] [3] ∧ VReady (vector 6 4) 0 [10] [] [3] ∧
    (typeFmt 2).isNone = true ∧ (typeFmt 6).isSome = true ∧ RMode.ofCode 0 ≠ .rsto ∧
    ((2 ^ 62 - 1) / 2 ^ 0 < 2 ^ 62 ∧ 2 ^ 32 - 1 < 2 ^ 32 ∧ 1 < 2) := by
  unfold VReady Full; decide

/-- To INT8 at its greatest VL; from INT32 with more elements than FP64 has; to K4 of one block and of a part of one; with
RSTO. -/
theorem witness_ConversionResults :
    VReady (vector 0 4096) 0 [] [1] [3] ∧ (4096 ≤ 4096 / typeBytes 0) ∧
    VReady (vector 2 513) 0 [] [1] [3] ∧ (4096 / typeBytes 7 < 513) ∧
    VReady (vector 6 32) 0 [] [1] [3] ∧ (32 % 32 = 0 ∧ 0 < 32) ∧ VReady (vector 6 33) 0 [] [1] [3] ∧ 33 % 32 ≠ 0 ∧
    RMode.ofCode 4 = .rsto ∧ RMode.ofCode 0 ≠ .rsto ∧ typeFmt 9 = some e5m2 ∧ typeFmt 3 = none ∧
    (∀ x ∈ List.replicate 32 (Machine.Num.fin true 0 0), x.isFin = true ∧ x.isZero = true) ∧
    (∃ x ∈ List.replicate 32 (Machine.Num.inf true), x.isFin = false) ∧
    (∀ x ∈ List.replicate 32 (Machine.Num.fin true 1 (-40)), x.isFin = true ∧ x.isZero = false) := by
  and_intros <;> (try unfold VReady) <;> (try unfold Full) <;> decide

theorem witness_PermutesAndReductions :
    VReady (vector 2 4) 0 [] (1 :: indexRegs 2 4) [3] ∧ VReady (vector 2 4) 0 [10] [1] [3] ∧ VReady (vector 2 4) 0 [10, 9] [1] [] ∧
    VReady (vector 2 4) 0 [] [1] (indexRegs 3 4) ∧ VReady (vector 6 4) 0 [] [1] [3] ∧ VReady (vector 6 0) 0 [] [1] [3] ∧
    (typeFmt 2).isNone = true ∧ (typeFmt 6).isSome = true := by
  and_intros <;> (try unfold VReady) <;> (try unfold Full) <;> decide

theorem witness_VectorMemoryForms :
    VReady (vector 2 4) 0 [11] [] [3] ∧ VReady (vector 2 4) 0 [11, 12] [] [3] ∧ VReady (vector 2 4) 0 [11] [3] [] ∧
    VReady (vector 2 4) 0 [] (indexRegs 2 4) [3] ∧ VReady (vector 0 4) 0 [] (3 :: indexRegs 2 4) [] ∧
    VReady (vector 2 65) 0 [] (3 :: indexRegs 2 65) [] ∧ typeBytes 0 = 1 ∧ typeBytes 2 ≠ 1 ∧ typeFmt 2 = none ∧
    (∃ ts t, (vector 2 4).vtargets 1 4 .read (offsets (vector 2 4) 11 4 4) = .ok ts t) ∧
    (∃ ts t, (vector 2 4).vtargets 1 4 .write (offsets (vector 2 4) 11 4 4) = .ok ts t) ∧
    (∃ ts t, (vector 2 4).vtargets 1 4 .atomic (indexOffsets (vector 2 4) 2 4 4) = .ok ts t) ∧
    (∃ y t, (vector 2 4).vtargets 0 4 .atomic (indexOffsets (vector 2 4) 2 4 4) = .trap y t) := by
  refine ⟨by unfold VReady Full; decide, by unfold VReady Full; decide, by unfold VReady Full; decide,
    by unfold VReady Full; decide, by unfold VReady Full; decide, by unfold VReady Full; decide, by decide, by decide, by decide,
    ⟨_, _, rfl⟩, ⟨_, _, rfl⟩, ⟨_, _, rfl⟩, ⟨_, _, rfl⟩⟩

/-- Two elements that pass and one behind the limit; an atomic element on a host page. -/
theorem witness_VectorMemoryForms_checks :
    (∀ q ∈ [((56 : Int), 0), (60, 1)], (vector 2 4).scalarTarget 1 q.1 4 .read = .ok (.pool (32824 + 4 * q.2)) (vector 2 4)) ∧
    (∃ x t, (vector 2 4).scalarTarget 1 64 4 .read = .trap x t) ∧
    (mapped (page 4 0)).scalarTarget 2 0 4 .atomic = .ok (.mem (2 ^ 41) (page 4 0).leaf.toNat 0) (mapped (page 4 0)) ∧
    (Target.mem (2 ^ 41) (page 4 0).leaf.toNat 0).onHost = true := by
  refine ⟨?_, ⟨_, _, rfl⟩, rfl, by decide⟩
  intro q h
  simp only [List.mem_cons, List.not_mem_nil, or_false] at h
  rcases h with rfl | rfl <;> rfl

/-- Elements that lie one by one in the scratchpad and on a page; one of another package. -/
theorem witness_VectorMemoryForms_places :
    Places (vector 2 2) 1 4 .atomic [((0 : Int), 0), (60, 1)] [.pool 32768, .pool 32828] ∧
    Places (mapped (page 1 0)) 2 4 .write [((0 : Int), 0), (65532, 1)]
      [.mem 0 (page 1 0).leaf.toNat 0, .mem 65532 (page 1 0).leaf.toNat 65532] ∧
    (∀ t ∈ [Target.pool 32768, .mem 0 (page 1 0).leaf.toNat 0], t.onHost = false) ∧ (255 : Nat) < 2 ^ (8 * 1) ∧
    (elsewhere.evictLine (2 ^ 46)).remote (2 ^ 46) = true ∧ (elsewhere.evictLine 0).remote 0 = false := by
  refine ⟨⟨rfl, ?_⟩, ⟨rfl, ?_⟩, by decide, by decide, by decide, by decide⟩
  · rintro (_ | _ | j) q t h k
    · cases h; cases k; unfold InPool; decide
    · cases h; cases k; unfold InPool; decide
    · cases h
  · rintro (_ | _ | j) q t h k
    · cases h; cases k
      exact ⟨rfl, by decide, by decide, by decide, by decide, by decide, by decide, by decide, rfl, rfl, rfl, _, rfl, by decide,
        by decide, by decide, rfl, rfl, rfl⟩
    · cases h; cases k
      exact ⟨rfl, by decide, by decide, by decide, by decide, by decide, by decide, by decide, rfl, rfl, rfl, _, rfl, by decide,
        by decide, by decide, rfl, rfl, rfl⟩
    · cases h

/-- TID 4 names INT8 tiles in the pool from 32768 on, one row of tiles and one column; with `s` = 1 they are swizzled. TID
5 names the same in memory; TID 6 has a tile outside the scratchpad. -/
def tiled (s : Nat) : State := core0 fun c => { vector 2 4 |>.core with
  loc := { c.loc with tlb := [page 1 0] }
  sc := { c.sc with g := [(9, 32768), (13, 2)] }
  st := { (scratch c).st with b2 := 2 + 15 * s, tit := [(20, w64 (2 ^ 32 + 2 ^ 16 + 2 ^ 24 + 2 ^ 14 * s)), (21, 0x8000),
    (25, w64 (2 ^ 16 + 2 ^ 24)), (30, w64 (2 ^ 32 + 2 ^ 16 + 2 ^ 24)), (31, 0x10000)] } }

/-- The last elements that lie in the scratchpad, and the first that do not; a line twice in one access. -/
theorem witness_PoolAndTileForms :
    ((tiled 0).core.g 9).toInt = (32768 : Nat) ∧ 32768 % 4 = 0 ∧ 32768 * (tiled 0).core.st.b1 ≤ 32768 ∧
    32768 + 4 * 4 ≤ 32768 * (tiled 0).core.st.b2 ∧ VReady (tiled 0) 0 [9] [] [3] ∧ VReady (tiled 0) 0 [9] [3] [] ∧
    ¬ (32768 * (tiled 0).core.st.b1 ≤ 65536 ∧ 65536 + 4 ≤ 32768 * (tiled 0).core.st.b2) ∧ 0 < ((tiled 0).core.engine 0).vl ∧
    ((tiled 0).core.g 13).toInt % 4 ≠ 0 ∧
    Uncontended (tiled 0) 0 [512, 512, 513] ∧ ([512, 513] : List Nat).Nodup ∧ (∀ l, l ∈ [512, 513] ↔ l ∈ [512, 512, 513]) ∧
    PoolTime [512, 513] 9 ∧ PoolTime [] 7 := by
  refine ⟨by decide, by decide, by decide, by decide, by unfold VReady Full; decide, by unfold VReady Full; decide, by decide,
    by decide, by decide, ⟨rfl, by decide⟩, by decide, by simp, ⟨2, fun b => List.countP_le_length, .inr ⟨1, by decide⟩, by decide, by decide⟩,
    ⟨0, by simp, .inl rfl, fun _ => rfl, by decide⟩⟩

/-- Rows and columns of a swizzled tile of the pool, rows of a tile of memory, and what VLDT does not fetch. -/
theorem witness_TileFetches :
    VReady (tiled 0) 0 [10] [] [3] ∧ VReady (tiled 1) 0 [12] [] [3] ∧
    TilePlace (tiled 0).core ((tiled 0).core.tid 4) ((tiled 0).gn 12) ∧ ((tiled 0).core.tid 4).pool = true ∧
    ((tiled 0).core.tid 4).swz = false ∧
    TilePlace (tiled 1).core ((tiled 1).core.tid 4) ((tiled 1).gn 12) ∧ ((tiled 1).core.tid 4).pool = true ∧
    ((tiled 1).core.tid 4).swz = true ∧ fmtBits ((tiled 1).core.tid 4).fmt ≠ 4 ∧
    TilePlace (tiled 0).core ((tiled 0).core.tid 5) ((tiled 0).gn 12) ∧ ((tiled 0).core.tid 5).pool = false ∧
    ((tiled 0).core.tid 5).swz = false ∧
    (∃ r u, (tiled 0).tileLines (((tiled 0).core.tid 5).tile 0 0) (512 / fmtBits 0) (fmtRow 0 * fetchLines 0 / 64) 0 = .ok r u) := by
  refine ⟨by unfold VReady Full; decide, by unfold VReady Full; decide, by unfold TilePlace; decide, by decide, by decide,
    by unfold TilePlace; decide, by decide, by decide, by decide, by unfold TilePlace; decide, by decide, by decide, ⟨_, _, rfl⟩⟩

theorem witness_VectorLandingsHoldsAndTraps :
    State.reset.core.flight = [] ∧ State.reset.core.seq.resumed = false ∧ (∀ x ∈ State.reset.core.waiting, x.latest = none) ∧
    4 * [(0, (0 : FFlags))].length ≤ 4096 ∧
    (core0 fun c => { c with vec := { c.vec with e0 := { c.vec.e0 with busy := 1 } } }).core.seq.cyc < 1 ∧
    vectorRegs (vector 2 4) (.vadds 0 true 3 1 10) = some (0, true, [10], [1], [3]) ∧
    vectorRegs (vector 2 4) (.vgath 1 false 159 160 2 0) = some (1, false, [], [160], [159]) ∧
    (([10] : List (BitVec 5)).map BitVec.toNat).find? (fun g => (core0 fun c => { c with sc := { c.sc with empty := [10] } }).core.gEmpty g) =
      some 10 ∧
    ([1, 2, 3].map (vector 2 4).core.vphys).find? (fun r => [2].contains r) = some 2 ∧
    (([] : List (BitVec 5)).map BitVec.toNat).find? (fun g => State.reset.core.gEmpty g) = none ∧
    ([1, 2, 3].map (vector 2 4).core.vphys).find? (fun r => State.reset.core.vec.empty.contains r) = none ∧
    (∀ v ∈ [1, 2, 3], v < 160) ∧ (∃ v ∈ [1, 2, 160], 160 ≤ v) ∧
    ([1].map (vector 2 4).core.vphys).find? (fun r => (Sparse.get (0, 0, 0, 0)
      (core0 fun c => { c with vec := { c.vec with bad := [(1, (0x10, 1, 2, 64))] } }).core.vec.bad r).1 != 0) = some 1 := by
  and_intros <;> decide

/-- Page tables of a context whose root is at 0x10000: virtual address 0 has the leaf `e`. -/
def tables (e : Nat) (m : List Host.Cell) : List Host.Cell :=
  [(0x10000, 0x20001), (0x20000, 0x30001), (0x30000, 0x40001), (0x40000, e)].foldl (fun m p => Memory.store m p.1 (leBytes 8 p.2)) m

/-- A hashed grid on the page that handle 2 maps: one level of one feature, FP32, one dimension, T = 3. -/
def gridded (vl : Nat) : State :=
  let w0 := 5 * 2 ^ 52 + 3 * 2 ^ 27 + 6 * 2 ^ 20 + 2 ^ 8 + 1
  let x := page 3 (5 * 2 ^ 52)
  let s := mapped x
  { s with
    core := { s.core with vec := (vector 6 vl).core.vec }
    crook := { s.crook with ctx := [(0, { state := .live, root := 0x10000 })] }
    mem := tables (x.leaf.toNat + 1) (Memory.store [] 0
      (leBytes 8 w0 ++ leBytes 8 0x3F8000003F800000 ++ leBytes 8 128 ++ leBytes 8 192 ++ leBytes 8 256)) }

def gridOf : Grid :=
  { ctx := 0, va := 0, w0 := 5 * 2 ^ 52 + 3 * 2 ^ 27 + 6 * 2 ^ 20 + 2 ^ 8 + 1, b := 0x3F800000, nmin := 0x3F800000,
    ptoff := 128, gtoff := 192, shoff := 256, stack := 0 }

set_option maxRecDepth 20000 in
/-- HGLD with no query and with one. -/
theorem witness_GridCommands :
    (∃ c t p u, (gridded 0).gridWord 0 2 .gather = .ok c t ∧ VReady t 0 [] (gridSpansOf c 0 4 20).1 (gridSpansOf c 0 4 20).2 ∧
      t.gridIssue 0 2 .gather = .ok p u ∧ (t.core.engine 0).vl = 0) ∧
    (∃ c t p u v ys, (gridded 1).gridWord 0 2 .gather = .ok c t ∧
      VReady t 0 [] (gridSpansOf c 1 4 20).1 (gridSpansOf c 1 4 20).2 ∧ t.gridIssue 0 2 .gather = .ok p u ∧
      (t.core.engine 0).vl = 1 ∧ u.gridLimit 2 c = .ok (.ok gridOf) v ∧
      v.gatherAll gridOf (queriesOf 1 (v.spanElems (gridSpansOf c 1 4 20).1 1) 1) = .ok ys) := by
  refine ⟨⟨_, _, _, _, rfl, by unfold VReady Full; decide, rfl, rfl⟩,
    ⟨_, _, _, _, _, _, rfl, by unfold VReady Full; decide, rfl, rfl, rfl, rfl⟩⟩

set_option maxRecDepth 20000 in
/-- HGSCAT with no query and with one. -/
theorem witness_GridCommands_scatter :
    (∃ c t p u, (gridded 0).gridWord 0 2 .counter = .ok c t ∧
      VReady t 0 [] ((gridSpansOf c 0 4 20).1 ++ (gridSpansOf c 0 4 20).2) [] ∧ t.gridIssue 0 2 .counter = .ok p u ∧
      (t.core.engine 0).vl = 0 ∧ (u.core.token 57).out = false) ∧
    (∃ c t p u v y z, (gridded 1).gridWord 0 2 .counter = .ok c t ∧
      VReady t 0 [] ((gridSpansOf c 1 4 20).1 ++ (gridSpansOf c 1 4 20).2) [] ∧ t.gridIssue 0 2 .counter = .ok p u ∧
      (t.core.engine 0).vl = 1 ∧ u.gridLimit 2 c = .ok (.ok gridOf) v ∧ (v.core.token 57).out = false ∧
      v.produce 57 = .ok () y ∧ (y.occupy 0 1).scatterQueries gridOf true
        (queriesOf 1 ((y.occupy 0 1).spanElems (gridSpansOf c 1 4 20).1 1) 1)
        (chunks 1 1 ((y.occupy 0 1).spanElems (gridSpansOf c 1 4 20).2 1)) = (z, none)) := by
  refine ⟨⟨_, _, _, _, rfl, by unfold VReady Full; decide, rfl, rfl, rfl⟩,
    ⟨_, _, _, _, _, _, _, rfl, by unfold VReady Full; decide, rfl, rfl, rfl, rfl, rfl, rfl⟩⟩

set_option maxRecDepth 20000 in
/-- A dense and a hashed level, meeting at 2^T; coordinates on and above 1; queries with and without a NaN; the addresses of a
contribution; a word that a sum takes to its bound. -/
theorem witness_GridValues :
    gridOf.d = 1 ∧ (7 + 1) ^ gridOf.d ≤ 2 ^ gridOf.t ∧ 2 ^ gridOf.t < (8 + 1) ^ gridOf.d ∧ (8 : Nat) ≤ 2 ^ 3 ∧ (2 : Nat) ^ 3 < 9 ∧
    (let g : Grid := { gridOf with w0 := 5 * 2 ^ 52 + 3 * 2 ^ 27 + 6 * 2 ^ 20 + 2 ^ 8 + 2, nmin := 0x40400000 }
     g.d = 2 ∧ g.t = 3 ∧ g.res 0 = 3) ∧
    (∃ ys, (gridded 1).interpolate gridOf [.fin false 1 (-1)] = .ok ys) ∧ (∃ ys, (gridded 1).interpolate gridOf [.nan false] = .ok ys) ∧
    (∃ pa sat, (gridded 1).gridPa gridOf (256 + 8 * 7) true = .ok pa ∧ (gridded 1).gridPa gridOf 40 true = .ok sat) ∧
    (∃ pa, (gridded 1).gridPa gridOf (192 + 4 * 7) true = .ok pa) ∧
    (2 : Int) ^ 63 ≤ signedOf 64 (2 ^ 63 - 1) + ((1 * 2 ^ (40 - 40) : Nat) : Int) ∧
    signedOf 64 (2 ^ 63) + -((1 * 2 ^ (40 - 40) : Nat) : Int) < -(2 : Int) ^ 63 := by
  refine ⟨by decide, by decide, by decide, by decide, by decide, by decide, ⟨_, rfl⟩, ⟨_, rfl⟩, ⟨_, _, rfl, rfl⟩, ⟨_, rfl⟩, by decide, by decide⟩

/-! Engine states: the lease held, staging registers of M and C as given. -/

def leased (x : Sparse Word) (tit : Sparse Word) : State := core0 fun c => { scratch c with
  st := { (scratch c).st with x := x, tit := tit }, eng := { c.eng with lease := .held, nblock := 1, bfmt := 6, bk := 1, bn := 1 } }

/-- Token 5 of generation 2 named by slot 0 of register 0; a reserved bit; a generation that differs. -/
theorem witness_TokensAtIssue :
    toksDirty (2 ^ 15 + 2 * 2 ^ 8 + 5) = false ∧ bit (2 ^ 15 + 2 * 2 ^ 8 + 5) 15 = true ∧ toksDirty (2 ^ 10) = true ∧
    ((core0 fun c => { c with eng := { c.eng with tok := [(5, { gen := 2 })] } }).core.token 5).gen = 2 ∧
    (State.reset.core.token 5).gen ≠ 2 ∧ (leased [] []).core.eng.lease ≠ .none ∧
    ((leased [] []).cluster (clusterOf (leased [] []).core.id)).failed = false ∧ (leased [] []).core.eng.waiting 0 < 8 ∧
    stagedReg (leased [] []) 2 0 = 0 := by decide

/-- TID 4: BF16, one tile in the pool; TID 5: the same of FP64; TID 6: BF16 in memory; TID 7: FP32 in memory. XM4 names
one tile each way; XM5 names TID 7. -/
def matrix : State := leased [(20, 2 ^ 16 + 2 ^ 12 + 2 ^ 8 + 1), (21, 7)]
  [(20, w64 (2 ^ 32 + 2 ^ 24 + 2 ^ 16 + 64 + 5)), (21, 0x8000), (25, w64 (2 ^ 32 + 2 ^ 24 + 2 ^ 16 + 7)), (26, 0x8000),
   (30, w64 (2 ^ 24 + 2 ^ 16 + 5)), (35, w64 (2 ^ 24 + 2 ^ 16 + 6))]

theorem witness_MatrixAndProductCommands :
    MRoom matrix 3 [] ∧ matrix.core.eng.lease ≠ .none ∧ originDirty (stagedReg matrix 2 2) = false ∧
    originDirty (stagedReg matrix 2 3) = false ∧ xm4Dirty (stagedReg matrix 2 4) = false ∧
    xm4MT (stagedReg matrix 2 4) = 1 ∧ xm4Block (stagedReg matrix 2 4) = true ∧ xm4LT (stagedReg matrix 2 4) ≠ 0 ∧
    Operand matrix (matrix.core.tid 4) 1 (originOf (stagedReg matrix 2 2)) 1 1 ∧
    Operand matrix (matrix.core.tid 5) 0 (originOf (stagedReg matrix 2 2)) 1 1 ∧
    matrix.core.eng.nblock ≠ 0 ∧ fmtGroup (matrix.core.tid 4).fmt = fmtGroup 5 ∧ (matrix.core.tid 5).fmt = 7 ∧
    (stagedReg matrix 2 1).toNat % 2 ^ 7 ≤ 64 ∧ bit (stagedReg matrix 2 1).toNat 7 = false ∧
    (stagedReg matrix 2 1).toNat / 2 ^ 10 = 0 := by
  and_intros <;> (try unfold MRoom Room) <;> (try unfold Operand) <;> (try and_intros) <;> first | rfl | decide

theorem witness_MatrixCommands_more :
    (matrix.core.tid 4).chk = true ∧ (matrix.core.tid 4).viewable = true ∧ (matrix.core.tid 4).holds 0 0 1 1 = true ∧
    matrix.core.holdsBlock (matrix.core.tid 4) 0 0 1 1 (matrix.core.tid 4).size = true ∧
    (stagedReg matrix 2 5).toNat < 64 ∧ (matrix.core.tid 6).fmt = 5 ∧ (matrix.core.tid 6).pool = false ∧
    (matrix.core.tid 6).ord = false ∧ (matrix.core.tid 6).swz = false ∧ (matrix.core.tid 7).fmt = 6 ∧
    (matrix.core.tid 7).pool = false ∧ (matrix.core.tid 7).ord = false ∧ (matrix.core.tid 7).swz = false ∧
    State.reset.core.eng.waiting 0 < 8 ∧ State.reset.core.eng.lease = .none ∧
    ({ State.reset with clusters := [(0, { failed := true })] } : State).core.eng.waiting 0 < 8 ∧
    (({ State.reset with clusters := [(0, { failed := true })] } : State).cluster (clusterOf 0)).failed = true := by decide

/-- An MZERO of tile 3 in the queue; another one consumes its token, and waits for it, or does not. -/
theorem witness_MatrixCommands_accept :
    let c : Cmd := command State.reset (.mzero 1 3) 1 2 []
    let g : Engines := { qm := [c] }
    (∀ e ∈ g.qm, e.tok ∈ g.awaits 24 [(1, 0)]) ∧ c.tok ∉ g.awaits 24 [] ∧ 3 ∈ (c.touches g).2 := by decide

/-- TID 4: BF16 in the pool, TID 8: the same elsewhere; TID 9: the same with CHK; TID 10: bytes in memory. A block of one
tile, optimiser parameters at pool address `p`. -/
def copying (p : Nat) : State :=
  let w0 : Nat := 2 ^ 32 + 2 ^ 24 + 2 ^ 16 + 5
  let tit := [(20, w64 w0), (21, 0x8000), (40, w64 w0), (41, 0x10000), (45, w64 (w0 + 64)), (46, 0x18000), (50, w64 (w0 - 2 ^ 32))]
  core0 fun c => { scratch c with st := { (scratch c).st with x := [(4, 0x101), (5, w64 p)], tit := tit } }

/-- CTILE, CXPOSE, CCONV, COPTM and CSPARSE of one tile, with RF = 0 and with RF = 1 and a flag of this package. -/
theorem witness_CopyEngineCommands_blocks :
    CRoom (copying 0x20000) 0 3 1 [] ∧ originBad (stagedReg (copying 0x20000) 0 2) = false ∧
    originBad (stagedReg (copying 0x20000) 0 3) = false ∧ blockDirty (stagedReg (copying 0x20000) 0 4) = false ∧
    Block (copying 0x20000) ((copying 0x20000).core.tid 4) (copyOrigin 0) (blockNI 0x101) (blockNJ 0x101) ∧
    Block (copying 0x20000) ((copying 0x20000).core.tid 8) (copyOrigin 0) (blockNI 0x101) (blockNJ 0x101) ∧
    Block (copying 0x20000) ((copying 0x20000).core.tid 9) (copyOrigin 0) (blockNI 0x101) (blockNJ 0x101) ∧
    ((copying 0x20000).core.tid 4).fmt = ((copying 0x20000).core.tid 8).fmt ∧ ((copying 0x20000).core.tid 4).chk = false ∧
    ((copying 0x20000).core.tid 9).chk = true ∧ fmtBits ((copying 0x20000).core.tid 4).fmt ≠ 4 ∧
    cvtBad (stagedReg (copying 4) 0 5) = false ∧
    optimiser (copying 0x20000) 0 ((copying 0x20000).core.tid 4) ((copying 0x20000).core.tid 8) 0 ∧
    Bytes (copying 0x20000) ((copying 0x20000).core.tid 8)
      (((copying 0x20000).core.tid 8).base + (stagedReg (copying 0x20000) 0 3).toInt) 16 := by
  and_intros <;> (try unfold CRoom Room) <;> (try unfold Block) <;> (try unfold optimiser) <;> (try unfold Bytes) <;>
    (try and_intros) <;> first | rfl | decide

/-- The byte commands, CSEND, CFILL, CGATH of one row, and what a full queue or a bad FLAG meets. -/
theorem witness_CopyEngineCommands :
    let s := copying 0x20000
    Bytes s (s.core.tid 10) ((s.core.tid 10).base + (stagedReg s 0 2).toInt) (stagedReg s 0 4).toNat ∧
    Bytes s (s.core.tid 8) ((s.core.tid 8).base + (stagedReg s 0 3).toInt) (stagedReg s 0 4).toNat ∧
    (stagedReg s 0 3).toNat < 2 ^ 14 ∧ (stagedReg s 0 4).toNat < 2 ^ 32 ∧
    ((0 : BitVec 2).toNat = (if (s.core.tid 8).chk then 2 else 0)) ∧ (s.core.tid 4).viewCols = (s.core.tid 8).viewCols ∧
    (s.core.tid 4).viewable = true ∧ (stagedReg s 0 5).toNat % 4 = 0 ∧
    flagDirty (stagedReg (core0 fun c => { c with st := { c.st with x := [(1, 2 ^ 38)] } }) 0 1) = true ∧
    flagPkg (stagedReg (core0 fun c => { c with st := { c.st with x := [(1, 2 ^ 32)] } }) 0 1) ∉ State.reset.fab.domain := by
  and_intros <;> (try unfold Bytes) <;> (try and_intros) <;> first | rfl | decide

/-- The staging registers of engine 1 name handle 2. -/
def folding : State := (gridded 1).onSt fun t => { t with x := [(10, 2)] }

set_option maxRecDepth 20000 in
theorem witness_Hgfold :
    CRoom folding 1 5 0 [] ∧ (stagedReg folding 1 2).toNat = 2 ∧ (stagedReg folding 1 3).toNat < 2 ^ 16 ∧
    (folding.core.handle 2).kind = 1 ∧
    (match folding.through 2 0 1 .counter with
      | .ok g u => !(u.core.token 5).out && (match u.fetched g.pa 8 with
        | .ok bs => (match u.gridDesc u.core.ctx (folding.core.handle 2).vbase (leNat bs) with
          | .ok r => decide (r.1.extent ≤ (folding.core.handle 2).limit)
          | .error _ => false)
        | .error _ => false)
      | _ => false) = true := by
  refine ⟨?_, rfl, by decide, rfl, by decide⟩
  unfold CRoom Room; exact ⟨⟨by decide, rfl, by decide⟩, by decide⟩

theorem witness_OrderingFlagsAndTokens :
    Released State.reset ∧ ¬ Released (core0 fun c => { c with loc := { c.loc with remote := [5] } }) ∧ State.reset.core.returned = true ∧ State.reset.core.loc.remoteNt = [] ∧
    (∀ x ∈ lined.core.loc.lines, x.mask = []) ∧
    (core0 fun c => { c with waiting := [{ dst := [.g 9 0 true], holes := [{ tag := 7, off := 0, len := 8 }], size := 8 }] }).core.returned = false ∧
    State.reset.key (0 + 255) = State.reset.key 0 + 255 ∧
    Sparse.get 0 (core0 fun c => { c with sy := { c.sy with flag := [(31, 511)] } }).core.sy.flag 31 = 511 ∧
    Full State.reset [9] ∧ State.reset.gn 9 < 2 ^ 14 ∧ State.reset.gn 9 / 2 ^ 8 ∈ State.reset.fab.domain ∧
    2 ^ 14 ≤ busy.gn 9 ∧ (0x3FFF / 2 ^ 8 ∉ State.reset.fab.domain) := by
  and_intros <;> (try unfold Released) <;> (try unfold Full) <;> decide

/-- A post to another core: to a task of the sender's context, and to one of another context. -/
def posted : State :=
  { State.reset with others := [{ id := 40, task := some { kern := 1, idx := 0, ctx := 3, gang := none, placed := 0, born := 0, runs := 0, runCause := 0, ending := none } }] }

theorem witness_posts_and_tokens :
    (∃ c ∈ posted.others, c.id = 40) ∧ (∃ k, (posted.coreAt 40).task = some k ∧ k.ctx = 3) ∧ (posted.coreAt 40).sy.caught = none ∧
    Full busy [12] ∧ (∃ k, k < 64 ∧ (busy.core.g 12).getLsbD k = true ∧ (busy.core.token k).out = false ∧ (busy.core.token k).flt = none) ∧
    ((core0 fun c => { c with eng := { c.eng with tok := [(0, { out := true })] } }).core.token 0).out = true ∧
    ((core0 fun c => { c with eng := { c.eng with tok := [(0, { flt := some ⟨0x11, 4, 0⟩ })] } }).core.token 0).flt = some ⟨0x11, 4, 0⟩ := by
  refine ⟨⟨_, List.mem_singleton.2 rfl, rfl⟩, ⟨_, rfl, rfl⟩, rfl, by unfold Full; decide, ⟨0, by decide⟩, rfl, rfl⟩

/-- A task of a kernel with one level, which makes barrier 0 legal. -/
def barred (arr : List Nat) (barv : List (Nat × Nat × Nat)) : State :=
  let s := State.reset.withFetchWord 32 0
  { s with core := { s.core with sy := { s.core.sy with arr := arr, barv := barv } } }

/-- Before the arrival, as the wait ends, and while the barrier is open, with a wait of this bundle or none. -/
theorem witness_Barriers :
    (barred [] []).myKernel = some fetchKernel ∧ fetchKernel.legalBarrier 0 = true ∧ fetchKernel.legalBarrier 127 = false ∧
    (0 ∉ (barred [] []).core.sy.arr) ∧ Released (barred [] []) ∧
    (barred [] []).core.waitsAt 0 = false ∧ (barred [] [(0, 0, 0)]).core.waitsAt 0 = true ∧
    (barred [] [(0, 0, 0)]).core.returned = true ∧ (0 ∈ (barred [0] [(0, 0, 0)]).core.sy.arr) ∧
    (barred [0] [(0, 0, 0)]).core.waitsAt 0 = true ∧ (barred [0] []).core.waitsAt 0 = false := by
  and_intros <;> (try unfold Released) <;> first | rfl | decide

/-- The page of handle 2 with CLASS 1, 2 and 3, and a counter that is misaligned. -/
theorem witness_BarriersAndCounters :
    (∀ cls ∈ [1, 2, 3], Full (mapped (page cls 0)) [10] ∧
      ∃ t, (mapped (page cls 0)).through 2 ((mapped (page cls 0)).core.g 10).toInt 8 .counter =
        .ok (.mem 0 (page cls 0).leaf.toNat 0) t ∧ leafClass (page cls 0).leaf.toNat = cls ∧ t.remote 0 = false ∧
        t.core.returned = true ∧ (cls = 1 → t.failedRegion 0 = .ok none)) ∧
    (mapped (page 1 0)).handleAddr 2 ((mapped (page 1 0)).core.g 10).toInt % 8 = 0 ∧
    (mapped (page 1 0)).handleAddr 2 (((mapped (page 1 0)).core.g 10).toInt + 4) % 8 ≠ 0 ∧
    Released (mapped (page 1 0)) ∧ Released elsewhere ∧ (mapped (page 1 0)).core.sy.cwait = none ∧
    (∃ t leaf va, elsewhere.through 2 (elsewhere.core.g 10).toInt 8 .counter = .ok (.mem (2 ^ 46) leaf va) t ∧
      leafClass leaf = 1 ∧ t.remote (2 ^ 46) = true ∧ t.failedRegion 0 = .ok none) ∧
    ((mapped (page 1 0)).onSy fun y => { y with cwait := some (0, 3, 0), granted := true }).core.sy.granted = true := by
  refine ⟨?_, by decide, by decide, by unfold Released; decide, by unfold Released; decide, rfl,
    ⟨_, _, _, rfl, by decide, by decide, rfl⟩, rfl⟩
  intro cls h
  simp only [List.mem_cons, List.not_mem_nil, or_false] at h
  rcases h with rfl | rfl | rfl <;>
    exact ⟨by unfold Full; decide, _, rfl, by decide, by decide, by decide, fun h => by first | rfl | (cases h)⟩

/-- Region 5 of context 0 with two members, this package the first, its descriptor in state `st` of instance 7. -/
def regioned (st : Nat) (persist : Nat) (held : List Region) : State :=
  let va := descVa 5
  let leaf := 5 * 2 ^ 52 + 4096 + 2 * 16 + 7
  let desc := leBytes 8 (5 * 2 ^ 52 + 2 ^ 28 + 2 ^ 16 + persist * 32) ++ leBytes 8 (2 ^ 40 + 6) ++
    leBytes 8 (7 * 2 ^ 56 + st * 2 ^ 52 + 0x11 * 2 ^ 44) ++ leBytes 8 0x400 ++ leBytes 8 0x8000 ++ leBytes 8 0xE000 ++
    leBytes 8 0xE100 ++ leBytes 8 0xE800 ++ [0, 1]
  let ptes := [(0x10000 + 8 * bits va 41 11, 0x20001), (0x20000 + 8 * bits va 31 10, 0x30001),
    (0x30000 + 8 * bits va 21 10, 0x40001), (0x40000 + 8 * bits va 16 5, leaf)]
  { State.reset with
    crook := { State.reset.crook with ctx := [(0, { state := .live, root := 0x10000 })] }
    fab := { State.reset.fab with domain := [0, 1], regions := held }
    mem := ptes.foldl (fun m p => Memory.store m p.1 (leBytes 8 p.2)) (Memory.store [] 0 desc)
    core := withG [(9, 5), (10, 5 + 2 ^ 63)] {} }

def holder : Region := { id := 5, ctx := 0, inst := 7, kern := 1, done := [], acks := [], chunks := [], results := [] }

set_option maxRecDepth 20000 in
/-- FREE, FAILED, COMPLETE and persistent, ARMED, and ABORTING, with the bit that clears and without. -/
theorem witness_RegionsAndWatchpoints :
    ∀ p ∈ [(0, 0, ([] : List Region), 0), (4, 0, [holder], 4), (2, 1, [holder], 2), (1, 0, [holder], 1), (5, 0, [holder], 5)],
      let s := regioned p.1 p.2.1 p.2.2.1
      Full s [9] ∧ Full s [10] ∧ 0 < s.gn 9 % 2 ^ 12 ∧ s.gn 9 = s.gn 9 % 2 ^ 12 ∧ s.gn 10 = s.gn 10 % 2 ^ 12 + 2 ^ 63 ∧
      ∃ x t d, s.translate s.core.ctx (descVa 5) .counter true = .ok x t ∧ t.desc t.core.ctx 5 = .ok d ∧
        leafClass x.leaf.toNat = 2 ∧ leafRegion x.leaf.toNat = 5 ∧ t.regionState d = p.2.2.2 ∧ d.persist = (p.2.1 == 1) ∧
        d.freason < 16 := by
  intro p h
  simp only [List.mem_cons, List.not_mem_nil, or_false] at h
  rcases h with rfl | rfl | rfl | rfl | rfl <;>
    exact ⟨by unfold Full; decide, by unfold Full; decide, by decide, by decide, by decide, _, _, _, rfl, rfl, by decide,
      by decide, by decide, by decide, by decide⟩

/-- Ranges of one byte at the top of the address space, of 2^24 bytes, and of a byte too many. -/
theorem witness_watch_ranges :
    Full State.reset [9, 10] ∧ 0 < 1 ∧ (2 ^ 52 - 1) + 1 ≤ 2 ^ 52 ∧ (2 ^ 24 : Nat) ≤ 2 ^ 24 ∧ 2 ^ 52 < (2 ^ 52 - 1) + 2 ∧
    (core0 fun c => { c with seq := { c.seq with wadd := some (0, 0) } }).core.seq.wadd = some (0, 0) ∧
    (core0 fun c => { c with seq := { c.seq with wadd := some (0, 1) } }).core.seq.cyc < 1 ∧
    (∀ u, State.reset.core.seq.wadd ≠ some (State.reset.core.seq.pc, u)) ∧ State.reset.core.dbg.exact.length < 16 ∧
    State.reset.gn 9 % 2 ^ 12 = 0 := by
  refine ⟨by unfold Full; decide, by decide, by decide, by decide, by decide, rfl, by decide, ?_, by decide, by decide⟩
  intro u h; cases h

/-! Events of a core. -/

/-- The task of `overlaid` in context 1 whose segment 1 is being copied; `e` is the leaf of its page. -/
def copyingSegment (e : Nat) : State :=
  let s := overlaid.onLoc fun l => l.setHalf 1 (.loading 1)
  { s with crook := { s.crook with ctx := [(1, { state := .live, root := 0x10000 })] }, mem := tables e [] }

/-- A result that is there, and one of which bytes are to come. -/
def waits (hs : List Hole) : State :=
  core0 fun c => { c with waiting := [{ dst := [.g 9 5 true], holes := hs, size := 8, earliest := 1 }], seq := { c.seq with cyc := 1 } }

set_option maxRecDepth 20000 in
theorem witness_LandingsAndMoves :
    (core0 fun c => { c with seq := { c.seq with last := .held (.emptyG 9) } }).stands (.emptyG 9) = false ∧
    (waits []).core.waiting[0]? = some { dst := [.g 9 5 true], size := 8, earliest := 1 } ∧ 1 ≤ (waits []).core.seq.cyc ∧
    (waits [{ tag := 7, off := 0, len := 8 }]).core.waiting[0]? =
      some { dst := [.g 9 5 true], holes := [{ tag := 7, off := 0, len := 8 }], size := 8, earliest := 1 } ∧
    (core0 fun c => { c with seq := { c.seq with spill := some (false, 0, 8) } }).core.seq.spill = some (false, 0, 8) ∧
    (core0 fun c => { c with seq := { c.seq with spill := some (true, 254, 8) } }).core.seq.spill = some (true, 254, 8) ∧
    (copyingSegment 0).core.loc.half 1 = .loading 1 ∧ (copyingSegment 0).fab.wanted = none ∧
    (∃ k g, (copyingSegment 0).myKernel = some k ∧ k.segs[1]? = some g ∧
      ∃ e, (Claims.reading (copyingSegment 0) (.segment 0 1)).segmentImage k.ctx g = .error e ∧ isLack e.cause = false) ∧
    (∃ k g, (copyingSegment (4096 + 9)).myKernel = some k ∧ k.segs[1]? = some g ∧
      ∃ bs, (Claims.reading (copyingSegment (4096 + 9)) (.segment 0 1)).segmentImage k.ctx g = .ok bs) := by
  refine ⟨rfl, rfl, by decide, rfl, rfl, rfl, rfl, rfl, ⟨_, _, rfl, rfl, _, rfl, by decide⟩, ⟨_, _, rfl, rfl, _, rfl⟩⟩

set_option maxRecDepth 20000 in
/-- A segment whose image another package of the domain holds. -/
theorem witness_segment_elsewhere :
    let s := { copyingSegment (2 ^ 46 + 4096 + 9) with fab := { domain := [0, 1] } }
    s.core.loc.half 1 = .loading 1 ∧ ∃ k g, s.myKernel = some k ∧ k.segs[1]? = some g ∧
      ∃ e, (Claims.reading s (.segment 0 1)).segmentImage k.ctx g = .error e ∧ isLack e.cause = true :=
  ⟨rfl, _, _, rfl, rfl, _, rfl, by decide⟩

/-- An interrupt that may be taken; a trace of the longest period; stops asked for, due and overdue; a stopped core with a
task, whose debugger selects physical register 247. -/
theorem witness_BoundaryAndDebugEvents :
    AtBoundary State.reset.core ∧
    (core0 fun c => { c with tr := { c.tr with aie := true, aip := true } }).core.tr.aip = true ∧
    State.reset.core.tr.ain = false ∧ State.reset.core.tr.tlvl = false ∧ State.reset.core.seq.xfer = none ∧
    State.reset.core.seq.iwait = false ∧ State.reset.core.tr.aie = false ∧
    (core0 fun c => { c with tr := { c.tr with step := true } }).core.tr.step = true ∧
    (core0 fun c => { c with dbg := { c.dbg with sper := 12 } }).core.dbg.sper ≤ 12 ∧
    (core0 fun c => { c with dbg := { c.dbg with stop := true } }).core.dbg.stop = true ∧ State.reset.core.flight = [] ∧
    (core0 fun c => { c with seq := { c.seq with cyc := 4096 }, dbg := { c.dbg with stop := true } }).core.dbg.asked + 4096 ≤ 4096 ∧
    overlaid.core.task.isSome = true ∧ State.reset.core.task = none ∧
    (core0 fun c => { c with dbg := { c.dbg with stopped := true, sel := 247 } }).core.dbg.stopped = true ∧
    ((247 : Word).toNat / 2 ^ 62 = 0 ∧ (247 : Word).toNat % 2 ^ 12 < 248) ∧
    ((0x40000000000000F8 : Word).toNat / 2 ^ 62 = 1 ∧ (0x80000000000009FF : Word).toNat / 2 ^ 62 = 2 ∧ 0x9FF / 16 < 160 ∧
      160 ≤ 0xA00 / 16 ∧ (0xC000000000000000 : Word).toNat / 2 ^ 62 = 3 ∧ 31 < 32) := by
  unfold AtBoundary; decide

/-- No higher event stands before an arrival interrupt; the cycle of a sample and the one before it; a stop at the end of a
pipelined loop's iteration. -/
theorem witness_BoundaryAndDebugEvents_more :
    Unforestalled State.reset 7 ∧ Unforestalled (core0 fun c => { c with tr := { c.tr with step := true } }) 5 ∧
    Unforestalled (core0 fun c => { c with dbg := { c.dbg with stop := true } }) 6 ∧
    ¬ Unforestalled (core0 fun c => { c with tr := { c.tr with ue := true } }) 4 ∧ State.reset.core.dbg.stopped = false ∧
    (overlaid.core.task.map fun k => k.born) = some 0 ∧ ((256 : Int) - 0) % 2 ^ (1 + 7) = 0 ∧ ((255 : Int) - 0) % 2 ^ (1 + 7) ≠ 0 ∧
    (core0 fun c => { c with lp := nested 2 1 true, dbg := { c.dbg with stop := true, iterEnd := true } }).core.lp.pv = true := by
  unfold Unforestalled; decide

/-- A page that is walked to; the entry that a walk of an instruction has asked for, or none; a die without translations; four
walks that were abandoned. -/
theorem witness_TranslationEvents :
    (copyingSegment (4096 + 9)).walkTimed 1 0xFFFF = .leaf (4096 + 9) 0 ∧ (0xFFFF < 2 ^ 52) ∧
    (let s := { State.reset with fab := { asks := [⟨.issue 0, some 8, 0, 2 ^ 46, 8, 1, none⟩] } }
     (s.fab.asks.find? fun a => decide (a.who.core? = some 0) && a.va.isSome && a.answer.isNone) =
       some ⟨.issue 0, some 8, 0, 2 ^ 46, 8, 1, none⟩) ∧
    State.reset.fab.asks = [] ∧
    (let s := { State.reset with fab := { tries := [(.issue 0, 8, 4)] } }
     s.lookup 0 8 = none ∧ 4 ≤ s.triesOf s.me 8) ∧
    (waits []).core.waiting[0]? = some { dst := [.g 9 5 true], size := 8, earliest := 1 } ∧
    AtBoundary (waits []).core ∧ ¬ AtBoundary (core0 fun c => { c with tr := { c.tr with mlvl := true } }).core ∧
    dieOf State.reset.core.id = 0 ∧ dieOf State.reset.core.id ≠ 1 ∧
    ((core0 fun c => { c with waiting := [{ dst := [.g 9 5 true], size := 8, host := true }] }).core.waiting[0]?.map fun w => w.host) = some true ∧
    hostReader 0 (.command 3) = some (.command 0 3) ∧ hostReader 0 (.result 0) = none ∧
    (let s := { State.reset with host := { State.reset.host with failed := [State.reset.me] } }
     s.remote (2 ^ 41) = false ∧ paSpace (2 ^ 41) = 1 ∧ s.me ∈ s.host.failed) := by
  unfold AtBoundary; decide

/-! Events of the engines. -/

def noCmd (i : Instr) : Cmd :=
  { instr := i, pc := 0, tok := 3, x := [0, 0, 0, 0, 2 ^ 16 + 2 ^ 12 + 2 ^ 8 + 1, 0, 0, 0], a := noTid, b := noTid, y := noTid, uses := [] }

/-- The array held, `c` the one command of the M queue. -/
def multiplying (c : Cmd) : State :=
  { core0 (fun x => { x with eng := { x.eng with lease := .held, qm := [c] } }) with clusters := [(0, { holder := some 0 })] }

/-- The first engine has a byte copy of `n` bytes between pool TIDs that it may step. -/
def copyCmd (n : Nat) : Cmd :=
  { noCmd (.cpy 0 3 4 8 0 0) with x := [0, 0, 0, 0, w64 n, 0, 0, 0], a := { noTid with w0 := 2 ^ 32 }, b := { noTid with w0 := 2 ^ 32, w1 := 8192 }, started := true }

/-- A product whose block is empty, one whose operand lies on no page, and one whose operand lies in another package. -/
def stepping (fmt : Nat) : Cmd := { noCmd (.mrsa 3 0 4 5 0) with started := true, a := { noTid with w0 := w64 fmt }, b := { noTid with w0 := w64 fmt } }

theorem witness_EngineSteps :
    (List.replicate 64 [Machine.Num.fin false 1 0]).length = 64 ∧
    (multiplying (stepping 5)).core.eng.activeProduct = some (0, stepping 5) ∧
    ((multiplying (stepping 5)).cluster 0).holder = some 0 ∧ (stepping 5).weighted = false ∧
    State.reset.core.eng.activeProduct = none ∧ (multiplying (stepping 5)).fab.wanted = none ∧
    (match engProductStep.run ({ stepping 5 with prev := [], pages := [] }, Claims.reading (multiplying (stepping 5)) (.command 0 3)) with
      | .error f v => v.2.fab.wanted.isNone && !isLack f.cause
      | .ok _ _ => false) = true ∧
    (core0 fun x => { x with eng := { x.eng with q0 := [copyCmd 4096] } }).core.eng.mayStep 0 0 = some (copyCmd 4096) ∧
    (copyCmd 4096).a.pool = true ∧ (copyCmd 4096).b.pool = true ∧ (copyCmd 4096).step = 0 ∧ (copyCmd 4096).wild = [] ∧
    (copyCmd 4096).src = [] ∧ (copyCmd 4096).dst = [] ∧ (copyCmd 4096).crs = none ∧
    ((copyCmd 4096).xr 4).toNat = 4096 ∧ ((copyCmd 4096).a.base : Int) + ((copyCmd 4096).xr 2).toInt = (0 : Nat) ∧
    ((copyCmd 4096).b.base : Int) + ((copyCmd 4096).xr 3).toInt = (8192 : Nat) := by decide

/-- What a step of the product `c` of core 0 from `s` answers: nothing wrong, or a fault that is, or is not, for want of bytes
of another package. -/
def stepEnds (s : State) (c : Cmd) (lack : Option Bool) : Bool :=
  match engProductStep.run ({ c with prev := c.pages, pages := [] }, Claims.reading s (.command 0 c.tok)) with
  | .ok _ v => v.2.fab.wanted.isNone && v.1.wild.isEmpty && v.1.dst.isEmpty && v.1.crs.isNone && lack.isNone
  | .error f v => v.2.fab.wanted.isNone && lack == some (isLack f.cause)

/-- The operand's page is one of package 1. -/
def multiplyingAfar (c : Cmd) : State :=
  let s := multiplying c
  { s with fab := { s.fab with domain := [0, 1] }, core := { s.core with loc := { s.core.loc with tlb := [page 1 (2 ^ 46)] } } }

theorem witness_EngineSteps_ends :
    stepEnds (multiplying { stepping 5 with x := List.replicate 8 0 }) { stepping 5 with x := List.replicate 8 0 } none = true ∧
    stepEnds (multiplyingAfar (stepping 5)) (stepping 5) (some true) = true := by decide

/-- A command that waits for a token and one that does not; MLEASE, MFREE and MZERO at the head; a complete command; four
cores of a cluster, one of which asks for the array. -/
theorem witness_CommandsAndLeases :
    (multiplying (noCmd (.mlease 3))).core.eng.head 0 = some (0, noCmd (.mlease 3)) ∧
    (multiplying (noCmd (.mlease 3))).core.blocked (noCmd (.mlease 3)) = false ∧
    (multiplying (noCmd (.mlease 3))).core.follows (noCmd (.mlease 3)) = false ∧
    (core0 fun c => { c with loc := { c.loc with remote := [9] } }).core.follows { noCmd (.mlease 3) with after := [9] } = true ∧
    (multiplying (noCmd (.mfree 3))).core.eng.head 0 = some (0, noCmd (.mfree 3)) ∧
    (∀ y ∈ (multiplying (noCmd (.mfree 3))).core.eng.qm.take 0, y.finished = true ∧ y.tags = []) ∧
    (noCmd (.mlease 3)).fault = none ∧
    ((multiplying (noCmd (.mlease 3))).cluster 0).holder = some 0 ∧ (State.reset.cluster 0).holder = none ∧
    (core0 fun c => { c with eng := { c.eng with tok := [(5, { gen := 1, out := true })] } }).core.blocked
      { noCmd (.mfree 3) with uses := [(5, 1)] } = true ∧
    ({ noCmd (.mfree 3) with fault := some ⟨0x11, 4, 0⟩ } : Cmd).fault = some ⟨0x11, 4, 0⟩ ∧
    (({ State.reset with clusters := [(0, { failed := true })] } : State).cluster 0).failed = true ∧
    (multiplying (noCmd (.mzero 3 15))).arrayReady = true ∧
    State.reset.core.eng.head 2 = none ∧
    ([{ noCmd (.mfree 3) with finished := true }].find? fun y => y.tok == 3 && y.finished && y.tags.isEmpty) =
      some { noCmd (.mfree 3) with finished := true } ∧
    ({ noCmd (.mfree 3) with finished := true } : Cmd).product = false ∧
    ((core0 fun c => { c with eng := { c.eng with asked := true, prio := 3 } }).coreAt 0).eng.asked = true ∧
    (∀ d ∈ [0, 1, 2, 3], ((core0 fun c => { c with eng := { c.eng with asked := true, prio := 3 } }).coreAt d).eng.prio < 4) ∧
    (∀ c ∈ [0, 1, 2, 3], (State.reset.coreAt c).eng.asked = false) := by decide

/-- With the last spare row, and with none left; the same of columns. -/
theorem witness_ArrayFaults :
    (({ State.reset with clusters := [(0, { repair := some (.row 9), rows := [1, 2, 3, 4, 5, 6, 7] })] } : State).cluster 0).rows.length < 8 ∧
    8 ≤ (({ State.reset with clusters := [(0, { repair := some (.row 9), rows := [1, 2, 3, 4, 5, 6, 7, 8] })] } : State).cluster 0).rows.length ∧
    (({ State.reset with clusters := [(0, { repair := some (.column 9), cols := [1, 2, 3] })] } : State).cluster 0).cols.length < 4 ∧
    9 ∉ (({ State.reset with clusters := [(0, { repair := some (.column 9), cols := [1, 2, 3, 4] })] } : State).cluster 0).cols ∧
    (∀ c ∈ [0, 1, 2, 3], (State.reset.coreAt c).eng.qm = []) ∧ (State.reset.cluster 63).repair = none := by decide

/-! Events of tasks. -/

/-- A task of context 1 that runs on core 0, of a kernel that another may follow; `k` changes the kernel. -/
def tasked (k : Kernel → Kernel) (f : Core → Core) : State :=
  let s := State.reset.withFetchWord 32 0
  { s with
    fe := { s.fe with kernels := [k fetchKernel] }
    core := f s.core
    crook := { s.crook with ctx := [(1, { state := .live, root := 0x10000, mask := BitVec.allOnes 256 })] }
    host := { s.host with saveSet := true } }

theorem witness_DispatchAndExit :
    (tasked id id).core.eng.busy = false ∧ (tasked id id).core.faultedToken = none ∧ (tasked id id).core.vec.bad = [] ∧
    (tasked id id).core.task.isSome = true ∧ (tasked id id).myKernel = some fetchKernel ∧
    Released (ending (tasked id id) 0) ∧
    ((tasked id fun c => { c with eng := { c.eng with tok := [(63, { out := true })] } }).core.eng.busy = true) ∧
    (tasked id id).kernel 1 = some fetchKernel ∧ (tasked id id).nextDispatch = none ∧
    (tasked (fun k => { k with state := .dispatching, nextTask := 0 }) fun c => { c with task := none }).nextDispatch =
      some ({ fetchKernel with state := .dispatching, nextTask := 0 }, [(0, 0)]) ∧
    ((tasked id id).coreAt 0).loc.poolCtx ≠ fetchKernel.ctx ∧ (tasked id id).core.tr.gang = none ∧
    (tasked id fun c => { c with tr := { c.tr with gang := some 0x20 } }).core.tr.gang ≠ none ∧
    ¬ Released (ending (tasked id fun c => { c with loc := { c.loc with remote := [5] } }) 0) := by
  and_intros <;> (try unfold Released) <;> first | rfl | decide

/-- A saved task of the kernel, whose core is free again. -/
def savedTask : State :=
  let s := tasked id id
  { (s.onCore fun c => { c with task := none }) with fe := { s.fe with saved := [{ key := 1, core := s.core, sinceDtb := 0 }] } }

/-- A task of slot 1, PRIO 1, waits for the one core that the context may use; a task of slot 0 has it. -/
def starving : State :=
  let s := tasked id id
  { s with
    fe := { s.fe with kernels := [fetchKernel, { fetchKernel with id := 2, slot := 1, state := .dispatching, nextTask := 0 }]
                      slots := [(1, { prio := 1 })], waits := [(1, 1)] }
    crook := { s.crook with ctx := [(1, { state := .live, mask := 1 })] }
    dies := [(0, { dtb := 100000 })] }

/-- The task that is to be pre-empted. -/
def displaced (f : Core → Core) : State := tasked id fun c => f { c with tr := { c.tr with pre := true } }

theorem witness_PreemptionAndAbort :
    Unforestalled (displaced id) 4 ∧ ¬ Unforestalled (displaced fun c => { c with tr := { c.tr with gang := some 0x20 } }) 4 ∧
    (core0 fun c => { c with tr := { c.tr with pre := true } }).core.tr.pre = true ∧ State.reset.core.tr.pre = false ∧
    State.reset.core.task = none ∧ (displaced id).core.task.isSome = true ∧ AtBoundary (displaced id).core ∧
    (∀ t, (displaced id).core.task = some t → t.ending = none) ∧ (displaced id).saveFree = true ∧
    ¬ AtBoundary (displaced fun c => { c with tr := { c.tr with mlvl := true } }).core ∧
    (((displaced id).onCore Core.rejoin).drained.core.quiet = true) ∧
    (((displaced fun c => { c with loc := { c.loc with remote := [5] } }).onCore Core.rejoin).drained.core.quiet = false) ∧
    ((tasked id id).fe.saved.find? fun v => v.key == 1) = none ∧
    (∃ v t x vs ps, (savedTask.fe.saved.find? fun v => v.key == 1) = some v ∧ v.core.task = some t ∧
      savedTask.kernel t.kern = some x ∧ savedTask.outranked x = false ∧
      (savedTask.resumable x).find? (fun vs => vs.any fun w => w.key == 1) = some vs ∧
      savedTask.resumePlaces x vs = some ps ∧ (x.needsTags ps).length + savedTask.fe.tags.length ≤ 8) := by
  refine ⟨by unfold Unforestalled; decide, by unfold Unforestalled; decide, rfl, rfl, rfl, rfl, by unfold AtBoundary; decide, ?_, rfl, by unfold AtBoundary; decide, by decide, by decide, rfl,
    ⟨_, _, _, _, _, rfl, rfl, rfl, by decide, rfl, rfl, by decide⟩⟩
  intro t h; cases h; rfl

/-- A kernel of a slot of PRIO 1 has a task to place; the one core of the context has been retired. -/
theorem witness_resumption_that_waits :
    (∃ x, ({ savedTask with fe := { savedTask.fe with kernels := [fetchKernel, { fetchKernel with id := 2, slot := 1, state := .dispatching, nextTask := 0 }]
                                                      slots := [(1, { prio := 1 })] } } : State).outranked x = true) ∧
    (let s : State := { savedTask with crook := { savedTask.crook with retired := BitVec.allOnes 256 } }
     ∃ vs, (s.resumable fetchKernel).find? (fun vs => vs.any fun w => w.key == 1) = some vs ∧ s.resumePlaces fetchKernel vs = none) :=
  ⟨⟨fetchKernel, by decide⟩, _, rfl, by decide⟩

theorem witness_PreemptionAndAbort_abort :
    (∃ t, (tasked id id).core.task = some t ∧ t.gang = none ∧ t.runsWith 0x20 < 3) ∧
    (∃ t, (tasked id fun c => { c with task := c.task.map fun t => { t with runs := 2, runCause := 0x20 } }).core.task = some t ∧
      3 ≤ t.runsWith 0x20) ∧ fetchKernel.idem = false ∧ ({ fetchKernel with idem := true } : Kernel).idem = true ∧
    fetchKernel.state = .running ∧ ({ fetchKernel with state := .failing } : Kernel).state ≠ .dispatching ∧
    State.reset.core.seq.resumed = false ∧ (core0 fun c => { c with seq := { c.seq with resumed := true } }).core.seq.resumed = true ∧
    (tasked id id).starved 0 = false ∧ starving.starved 1 = true ∧ Sparse.get 0 starving.fe.waits 1 ≠ 0 ∧
    Sparse.get 0 starving.fe.waits 1 + 100000 ≤ starving.dtb + 1 ∧ starving.saveFree = true ∧
    eldest (starving.displaceable 1) = some (0, 0) := by
  refine ⟨⟨_, rfl, rfl, by decide⟩, ⟨_, rfl, by decide⟩, rfl, rfl, rfl, by decide, rfl, rfl, by decide, by decide, by decide,
    by decide, by decide, by decide⟩

/-- A launch record at virtual address 512 of context 1: one level of one task, one segment of one bundle. -/
def recorded (f : Kernel → Kernel) : State :=
  let s := tasked f fun c => { c with task := none }
  { s with mem := tables (4096 + 15) (Memory.store (Memory.store [] 512 (leBytes 8 (2 ^ 48 + 2 ^ 32) ++ leBytes 8 0 ++
    leBytes 8 (384 * 2 ^ 32) ++ List.replicate 40 0 ++ leBytes 8 (2 ^ 32))) 896 (leBytes 8 0 ++ leBytes 8 1)) }

/-- The words of that record. -/
def recordedWords : List Word := [w64 (2 ^ 48 + 2 ^ 32), 0, w64 (384 * 2 ^ 32), 0, 0, 0, 0, 0, w64 (2 ^ 32)] ++ List.replicate 39 0 ++ [0, 1]

/-- A kernel that is over, one that is not, one that is checked and one that is cancelled; the words of a kernel's record, and
words that are none. -/
theorem witness_KernelEvents :
    (recorded fun k => { k with state := .completing }).kernel 1 = some { fetchKernel with state := .completing } ∧
    ((recorded id).slot 0).state ≠ .held ∧ fetchKernel.tags = [] ∧ ({ fetchKernel with tags := [5] } : Kernel).tags ≠ [] ∧
    (recorded fun k => { k with state := .checking }).kernel 1 = some { fetchKernel with state := .checking } ∧
    fetchKernel.parts.all (fun p => p.2) = true ∧ ({ fetchKernel with parts := [(1, false)] } : Kernel).parts.all (fun p => p.2) = false ∧
    ({ fetchKernel with fails := [(0, 0x11)] } : Kernel).fails ≠ [] ∧
    (recorded id).fab.regions = [] ∧ (recorded id).unperformed 1 = false ∧ fetchKernel.home = (recorded id).fab.pkg ∧
    (tasked id fun c => { c with task := none, loc := { c.loc with remote := [5] } }).unperformed 1 = true ∧
    ((recorded id).slot 0).telling = false ∧ ({ tags := [(4, none)] } : Slot).telling = true ∧
    (recorded id).tasksOver fetchKernel = false ∧ (recorded fun k => { k with ended := [0] }).tasksOver { fetchKernel with ended := [0] } = true ∧
    fetchKernel.next = 0 ∧ ((recorded id).slot 0).packets = [] ∧ (recorded id).fab.wanted = none ∧
    (match (recorded id).kernelOf 64 0 1 512 7 (recordedWords.map BitVec.toNat) with | .ok _ => true | .error _ => false) = true ∧
    (match (recorded id).kernelOf 64 0 1 512 7 [1] with | .ok _ => false | .error _ => true) = true ∧
    (recorded id).kernel (2 ^ 40 + 2 ^ 32 * 2 + 1) = none := by
  and_intros <;> first | rfl | decide

/-- A kernel whose barrier 0 spans the packages of the domain, this one and package 1; one, none or both of which have arrived. -/
def twoPackages (bs : List (Nat × Nat × Nat × Nat)) : State :=
  let s := tasked (fun k => { k with levels := [⟨1, false, 4, 4⟩, ⟨2, true, 4, 4⟩] }) fun c => { c with sy := { c.sy with arr := [0] } }
  { s with fab := { s.fab with domain := [0, 1], barriers := bs } }

theorem witness_domain_barriers :
    let k : Kernel := { fetchKernel with levels := [⟨1, false, 4, 4⟩, ⟨2, true, 4, 4⟩] }
    (twoPackages []).kernel 1 = some k ∧ k.domainBarrier 0 = true ∧ (twoPackages []).allArrived k 0 0 = true ∧
    (k.key 0, 0, 0, 0) ∉ (twoPackages []).fab.barriers ∧
    ¬ (∀ q ∈ (twoPackages []).kernelPkgs k, q = 0 ∨ (k.key 0, 0, 0, q) ∈ (twoPackages []).fab.barriers) ∧
    (∀ q ∈ (twoPackages [(k.key 0, 0, 0, 1)]).kernelPkgs k, q = 0 ∨ (k.key 0, 0, 0, q) ∈ (twoPackages [(k.key 0, 0, 0, 1)]).fab.barriers) ∧
    (k.key 0, 0, 0, 0) ∈ (twoPackages [(k.key 0, 0, 0, 0)]).fab.barriers := by decide

/-- A post for a saved task that the core holds a catch for. -/
theorem witness_caught_post :
    let s : State := { savedTask with core := { savedTask.core with sy := { savedTask.core.sy with caught := some 1 } } }
    (∀ k, (s.coreAt 0).task = some k → k.ctx ≠ 1) ∧ (∃ v ∈ s.fe.saved, (s.coreAt 0).sy.caught = some v.key ∧ v.core.ctx = 1) := by
  refine ⟨?_, _, List.mem_singleton.2 rfl, rfl, rfl⟩
  intro k h; cases h

theorem witness_SharedSynchronisation :
    ([(64, 3, 0)].find? fun (w : Nat × Nat × Nat) => w.1 == 64) = some (64, 3, 0) ∧
    leNat (({ State.reset with mem := [(64, 2)] } : State).homeBytes 64 8) < 3 ∧
    3 ≤ leNat (({ State.reset with mem := [(64, 3)] } : State).homeBytes 64 8) ∧
    (tasked id id).core.id = 0 ∧ ((tasked id id).coreAt 0).task.isSome = true ∧
    (0 ∈ ((tasked id fun c => { c with sy := { c.sy with arr := [0] } }).coreAt 0).sy.arr) ∧
    (tasked id fun c => { c with sy := { c.sy with arr := [0] } }).allArrived fetchKernel 0 0 = true ∧
    fetchKernel.domainBarrier 0 = false ∧
    (∀ w ∈ State.reset.fab.cwaits, w.1 ≠ 64) ∧ (∃ c ∈ posted.others, c.id = 40) ∧ (∀ c ∈ posted.others, c.id ≠ posted.core.id) ∧
    (∀ v ∈ posted.fe.saved, (posted.coreAt 40).sy.caught ≠ some v.key ∨ v.core.ctx ≠ 3) ∧ (tasked id id).allArrived fetchKernel 0 0 = false ∧
    (fetchKernel.participants 0 0).1 ≤ 0 ∧ 0 < (fetchKernel.participants 0 0).1 + (fetchKernel.participants 0 0).2 := by decide

/-! Events of the queues. -/

/-- A packet of TYPE `kind`, with words 3 to 5. -/
def packetOf (kind a b c : Nat) : Packet := { idx := 0, words := [w64 kind, 0, 0, w64 a, w64 b, w64 c, 0, 0] }

/-- The device READY, slot 0 ACTIVE for context 1 under notify index 9, a ring of 16 packets, `ps` fetched. -/
def slotted (ps : List Packet) (f : Slot → Slot) : State :=
  let s := recorded id
  { s with
    host := { s.host with stage := 7 }
    fe := { s.fe with owner := [(9, 1)], slots := [(0, f { state := .active, ctx := 1, nidx := 9, rlog := 4, rbase := 2048, packets := ps })] } }

/-- The greatest value within the ring, and the first one beyond it; an aperture that is gated. -/
theorem witness_NotifyAndFetch :
    State.reset.boundSlot 9 = none ∧ 9 ∉ State.reset.fe.pend ∧ (slotted [] id).boundSlot 9 = some 0 ∧
    ((slotted [] id).slot 0).nidx = 9 ∧ (slotted [] id).host.stage = 7 ∧ ((slotted [] id).slot 0).state = .active ∧
    ((slotted [] id).ctxOf 1).state = .live ∧ 9 ∉ (slotted [] id).fe.gated ∧ (slotted [] id).fab.wanted = none ∧
    (let s := { slotted [] id with fe := { (slotted [] id).fe with gated := [9] } }
     s.boundSlot 9 = some 0 ∧ 9 ∈ s.fe.gated ∧ (s.slot 0).nidx = 9) ∧
    ahead ((slotted [] id).slot 0).rdidx 16 ≤ 2 ^ ((slotted [] id).slot 0).rlog ∧
    2 ^ ((slotted [] id).slot 0).rlog < ahead ((slotted [] id).slot 0).rdidx 17 ∧ ((slotted [] id).slot 0).errsig = 0 ∧
    (slotted [] id).mayFetch ((slotted [] id).slot 0) = false := by
  and_intros <;> first | rfl | decide

/-- What the fetch of the next packet of slot 0, which asks for one, reads from the ring at `base`. -/
def fetching (base : Nat) : State :=
  let s := slotted [] fun x => { x with wridx := 1, rbase := base }
  { s with fab := { s.fab with domain := [0, 1] } }

def fetched? (s : State) (f : Except CmdFault (List Byte) → Bool) : Bool :=
  s.mayFetch (s.slot 0) && s.fab.wanted.isNone && decide ((s.slot 0).rbase % 1024 = 0) &&
    f ((Claims.reading s (.slot 0 0)).agentRead 1 (s.slot 0).rbase 64)

set_option maxRecDepth 20000 in
/-- A packet that is read, one on a page that may not be read, one on a page that is not there, one in another package, and a
ring that is not aligned. -/
theorem witness_packetFetch :
    fetched? (fetching 2048) (fun r => match r with | .ok _ => true | .error _ => false) = true ∧
    fetched? { fetching 2048 with mem := tables 4097 [] }
      (fun r => match r with | .ok _ => false | .error e => !isLack e.cause && e.cause != 0x10) = true ∧
    fetched? { fetching 2048 with mem := [] } (fun r => match r with | .ok _ => false | .error e => e.cause == 0x10) = true ∧
    fetched? { fetching 2048 with mem := tables (2 ^ 46 + 4096 + 15) [] }
      (fun r => match r with | .ok _ => false | .error e => isLack e.cause) = true ∧
    (fetching 64).mayFetch ((fetching 64).slot 0) = true ∧ ((fetching 64).slot 0).rbase % (64 * 2 ^ ((fetching 64).slot 0).rlog) ≠ 0 := by
  decide

set_option maxRecDepth 20000 in
/-- NOP, FFENCE, NOTIFY, WAITSIG and LAUNCH as the next packet of the slot; one of TYPE 0; a NOP with a word that is not
0; a record that is rejected, and one that is not there. -/
theorem witness_Packets :
    Starts (slotted [packetOf 1 0 0 0] id) 0 1 (packetOf 1 0 0 0) ∧ Starts (slotted [packetOf 4 0 0 0] id) 0 4 (packetOf 4 0 0 0) ∧
    Starts (slotted [packetOf 5 9 7 0] id) 0 5 (packetOf 5 9 7 0) ∧ Starts (slotted [packetOf 3 64 0 2] id) 0 3 (packetOf 3 64 0 2) ∧
    Starts (slotted [packetOf 2 512 0 0] id) 0 2 (packetOf 2 512 0 0) ∧
    (slotted [packetOf 0 0 0 0] id).startable 0 = some (packetOf 0 0 0 0) ∧ (packetOf 0 0 0 0).kind = 0 ∧
    (slotted [packetOf 1 5 0 0] id).startable 0 = some (packetOf 1 5 0 0) ∧ (packetOf 1 5 0 0).wf = false ∧
    (packetOf 3 64 0 2).met = false ∧
    (∃ bs, ((Claims.reading (slotted [packetOf 3 64 0 2] id) (.slot 0 0)).markStarted 0 0).agentRead 1 64 8 = .ok bs) ∧
    (∃ n, (Claims.reading (slotted [] id) (.slot 0 0)).launchRecord 0 0 1 512 0 = .ok n) ∧
    (Claims.reading (slotted [] id) (.slot 0 0)).launchRecord 0 0 1 1024 0 = .error .rejected ∧
    (Claims.reading (slotted [] id) (.slot 0 0)).launchRecord 0 0 1 65536 0 = .error .held ∧
    (slotted [packetOf 1 5 0 0] id).packetOk ((slotted [packetOf 1 5 0 0] id).slot 0) (packetOf 1 5 0 0) = false := by
  and_intros <;> (try unfold Starts) <;> (try and_intros) <;> first | rfl | decide | exact ⟨_, rfl⟩

set_option maxRecDepth 20000 in
/-- A launch record in another package. -/
theorem witness_launch_elsewhere :
    (match (Claims.reading { fetching 2048 with mem := tables (2 ^ 46 + 4096 + 15) [] } (.slot 0 0)).launchRecord 0 0 1 512 0 with
      | .error (.lacking e) => isLack e.cause
      | _ => false) = true := by decide

/-- A NOP that has started at the head; a WAITSIG that has started and is polled; a HELD slot. -/
theorem witness_packets_that_run :
    ((slotted [{ packetOf 1 0 0 0 with started := true }] id).slot 0).packets = [{ packetOf 1 0 0 0 with started := true }] ∧
    (packetOf 1 0 0 0).sigop = 0 ∧ ({ packetOf 1 0 0 0 with started := true } : Packet).complete = false ∧
    ((slotted [] fun x => { x with state := .held }).slot 0).state = .held ∧
    ((slotted [{ packetOf 1 0 0 0 with started := true }] id).slot 0).waiting = [{ packetOf 1 0 0 0 with started := true }] ∧
    ((slotted [{ packetOf 3 64 5 0 with started := true }] id).slot 0).waiting = [{ packetOf 3 64 5 0 with started := true }] ∧
    (packetOf 3 64 5 0).kind = 3 ∧ (packetOf 3 64 5 0).word 5 = 0 ∧
    (let s := slotted [{ packetOf 3 64 5 0 with started := true }] fun x => { x with state := .held, heldAt := some 1 }
     (s.slot 0).state = .held ∧ ∃ k ∈ (s.slot 0).waiting, (s.slot 0).heldAt ≠ some k.idx ∧ k.kind = 3) ∧
    (let s := slotted [{ packetOf 3 64 5 0 with started := true }] fun x => { x with state := .held, heldAt := some 0 }
     ∀ k ∈ (s.slot 0).waiting, (s.slot 0).heldAt = some k.idx) ∧ ((slotted [] id).slot 0).waiting = [] := by decide

/-- A slot whose QCB at 0x3000 admits the queue: context 1, notify index 9, 16 packets; `late` has been notified to it. -/
def mapping (x : SlotState) (ctx late : Nat) : State :=
  let s := slotted [] fun _ => { sqcb := 0x3000, state := x, rqctx := 1, ctx := ctx, home := 0x3000, req := if x = .free then 1 else 0 }
  { s with
    host := { s.host with hwSet := true, master := true, portsRead := List.range 48 }
    fe := { s.fe with latch := [(9, late)] }
    crook := { s.crook with ctx := [(1, { state := .live, root := 0x10000, budget := 1, priomax := 7 })] }
    mem := Memory.store s.mem 0x3008 (leBytes 8 (9 * 2 ^ 32 + 2 ^ 20 + 4 * 2 ^ 11)) }

/-- A FREE slot that is to be bound; a BINDING one of the context that its QCB names and of another, with a value in the ring and
one beyond it; each request in a state that takes it and in one that does not. -/
theorem witness_SlotRequests :
    ((mapping .free 1 0).slot 0).req = 1 ∧ ((mapping .free 1 0).slot 0).state = .free ∧
    ((mapping .binding 1 16).slot 0).state = .binding ∧
    (mapping .binding 1 16).mapOk ((mapping .binding 1 16).slot 0) (qcbWord (mapping .binding 1 16) 0) = true ∧
    (mapping .binding 2 16).mapOk ((mapping .binding 2 16).slot 0) (qcbWord (mapping .binding 2 16) 0) = false ∧
    bits (qcbWord (mapping .binding 1 16) 0 1) 32 12 = 9 ∧ Sparse.get 0 (mapping .binding 1 16).fe.latch 9 = 16 ∧
    ahead 0 16 ≤ 2 ^ 4 ∧ 2 ^ 4 < ahead 0 17 ∧ qcbWord (mapping .binding 1 17) 0 4 = 0 ∧
    ((slotted [] fun x => { x with req := 1 }).slot 0).state ≠ .free ∧
    ((slotted [] fun x => { x with req := 2 }).slot 0).running = true ∧ ((mapping .free 1 0).slot 0).running = false ∧
    (slotted [] id).fab.wanted = none ∧ (mapping .binding 1 16).host.stage = 7 ∧
    ((slotted [] fun x => { x with req := 4 }).slot 0).rqprio ≤ ((slotted [] id).ctxOf 1).priomax ∧
    ((slotted [] id).ctxOf 1).priomax < ((slotted [] fun x => { x with req := 4, rqprio := 1 }).slot 0).rqprio ∧
    ((slotted [] fun x => { x with req := 5, state := .held }).slot 0).state = .held ∧
    ((slotted [] fun x => { x with state := .unbinding }).slot 1).state ≠ .unbinding ∧
    (∃ k ∈ (slotted [] fun x => { x with state := .unbinding }).fe.kernels, k.slot = 0) ∧
    (slotted [] fun x => { x with state := .unbinding, tags := [(5, none)] }).slot 0 ≠ {} ∧ ((slotted [] id).slot 0).tags = [] ∧
    (∀ k ∈ (slotted [] id).fe.kernels, k.slot ≠ 1) := by decide

/-- Entry 0 of the mailbox, the next one that is served, asks for `op` on context `c`; `ws` are its words from 2 on. -/
def mailed (op c : Nat) (ws : Sparse Word) : State :=
  let s := recorded id
  { s with
    host := { s.host with stage := 7 }
    crook := { s.crook with mail := [(0, w64 (op * 256)), (1, w64 c)] ++ ws, head := 2 } }

set_option maxRecDepth 20000 in
/-- Each operation on context 1, which is LIVE; CREATE of context 2, which is FREE, and of context 1; operations on a FREE
context and on context 0. -/
theorem witness_MailboxRequests :
    (∀ op ∈ [1, 2, 3, 4, 5, 6, 7], Mailed (mailed op 1 []).deadlines 0 0 op ∧ (mailed op 1 []).deadlines.mailCtx 0 = 1 ∧
      ((mailed op 1 []).deadlines.ctxOf 1).state = .live) ∧ (mailed 1 1 []).fab.wanted = none ∧
    (∀ op ∈ [1, 2, 3, 4, 5, 6], Mailed (mailed op 2 []).deadlines 0 0 op ∧ ((mailed op 2 []).deadlines.ctxOf 2).state = .free) ∧
    (mailed 2 1 [(2, 1)]).deadlines.maskOk (maskWords 1 0 0 0) = true ∧
    (mailed 3 1 []).deadlines.crook.budgets - ((mailed 3 1 []).deadlines.ctxOf 1).budget + 64 ≤ 64 ∧
    ((mailed 3 1 []).deadlines.slotsOf 1).length ≤ 1 ∧
    ((Claims.reading (mailed 5 1 []).deadlines .crook).serveEntry 0).fab.wanted = none ∧
    ((Claims.reading (mailed 6 1 []).deadlines .crook).serveEntry 0).fab.wanted = none ∧
    (let s := { mailed 16 0 [(2, 63)] with crook := { (mailed 16 0 [(2, 63)]).crook with replaced := [63] } }
     Mailed s.deadlines 0 0 16 ∧ s.deadlines.mailCtx 0 = 0 ∧ bits (s.deadlines.mail 0 2) 0 6 = 63 ∧ 63 ∈ s.deadlines.crook.replaced) ∧
    Mailed (mailed 16 1 []).deadlines 0 0 16 ∧ (mailed 16 1 []).deadlines.mailCtx 0 = 1 ∧
    Mailed (mailed 7 2 []).deadlines 0 0 7 ∧ ((mailed 7 2 []).deadlines.ctxOf 2).state = .free ∧
    State.reset.deadlines.nextMail = none := by
  unfold Mailed; decide

/-- A CREATE of context 2 whose other checks hold. -/
def creating : State :=
  let s := mailed 1 2 [(2, w64 (2 ^ 14 * 16 + 2 ^ 9)), (3, 1), (7, 1), (10, w64 (2 ^ 20 + 1))]
  { s with crook := { s.crook with ctx := [] } }

set_option maxRecDepth 20000 in
/-- Whether the CREATE is accepted is the verdict on the 32 bytes of the monitor image that it names. -/
theorem witness_createOk :
    creating.createOk 0 = Config.monitorPasses [] (List.replicate 32 0) := by
  have h : creating.imageSigned (fld (bits (creating.mail 1 2) 16 36) 16) (bits (creating.mail 1 2) 0 10) =
      Config.monitorPasses [] (List.replicate 32 0) := by
    unfold State.imageSigned; rw [show creating.homeBytes _ _ = List.replicate 32 0 by decide]; rfl
  unfold State.createOk
  simp only []
  rw [h, show ([0, 1, 3, 4, 5, 6, 7].all fun j => creating.mail 1 j == 0) = true by decide, Bool.and_true]
  have g : ∀ b c : Bool, b = true → (b && c) = c := by decide
  exact g _ _ (by decide)

set_option maxRecDepth 20000 in
/-- The checks of a CREATE that fail; a context that is quiet, and one that is not; one without slots that is to drain; a DRAINING context at its deadline and before it;
polling positions of a slot, of the mailbox and of a time base. -/
theorem witness_MailboxRequests_more :
    (mailed 1 2 []).createOk 0 = false ∧
    (creating.shareRoot (creating.newContext 0).root).1 = [] ∧
    State.reset.quietCtx 1 = true ∧ (recorded id).quietCtx 1 = false ∧ State.reset.slotsOf 1 = [] ∧
    (({ State.reset with crook := { State.reset.crook with ctx := [(1, { state := .quiescing, deadline := 1 })] } } : State).ctxOf 1).deadline ≠ 0 ∧
    (({ State.reset with crook := { State.reset.crook with ctx := [(1, { state := .draining })] } } : State).ctxOf 1).state = .draining ∧
    (({ State.reset with crook := { State.reset.crook with ctx := [(1, { state := .draining, deadline := 1 })] } } : State).die 0).dtb < 1 ∧
    (State.reset.slot 63).state ≠ .unbinding ∧ (State.reset.slot 63).state ≠ .resetting ∧ (State.reset.slot 63).state ≠ .binding ∧
    (mailed 3 1 []).payNext.isNone = true ∧ (mailed 3 1 []).nextMail = some 0 ∧ (State.reset.die 7).set = false := by
  and_intros <;> first | rfl | decide

/-! Events of the links, of the time base and of the rings. -/

/-- Port 0 of die 0 in a state. -/
def ported (st : PortState) (f : Port → Port) : State :=
  { State.reset with dies := [(0, { set := true, dtb := 1000, ports := [(0, f { state := st })] })] }

/-- Port 0 UP with the flits 0 to 6 not acknowledged, 5 of which has been refused. -/
def buffered (wire : Nat) : State := ported .up fun p => { p with txSeq := 7, wire := wire, failed := [5], sent := [(6, ⟨0, 1, .writeAck 3 0, none, 0⟩)] }

/-- A SEQ that is buffered and one that is not; the first NAK of one, and the second after its replay; a flit in sequence that is the
first, the thirty-first and the thirty-second, one out of sequence and one that fails CRC, once and again. -/
theorem witness_PortEvents :
    (∀ st ∈ [PortState.disabled, .down, .training, .up, .retraining], ((ported st id).port 0 0).state = st) ∧
    Claims.Buffered ((buffered 7).port 0 0) 6 ∧ ¬ Claims.Buffered ((buffered 7).port 0 0) 7 ∧
    Claims.Buffered ((buffered 7).port 0 0) 0 ∧ 4 ∉ ((buffered 7).port 0 0).failed ∧ 5 ∈ ((buffered 7).port 0 0).failed ∧
    ((buffered 7).port 0 0).wire ≠ 5 ∧ ((buffered 5).port 0 0).wire = 5 ∧ ((buffered 5).port 0 0).state = .up ∧
    ((ported .up id).port 0 0).rxSeq = 0 ∧ ((ported .up id).port 0 0).rxGot < 31 ∧
    ((ported .up fun p => { p with rxSeq := 4095, rxGot := 31 }).port 0 0).rxGot = 31 ∧
    ((ported .up fun p => { p with rxSeq := 4095, rxGot := 31 }).port 0 0).rxSeq = 4095 ∧
    ((ported .up id).port 0 0).rxFailed ≠ some 0 ∧ ((ported .up fun p => { p with rxFailed := some 0 }).port 0 0).rxFailed = some 0 ∧
    (buffered 5).replayNext.isSome = true ∧
    (ported .up fun p => { p with rxGot := 1, rxSince := 900 }).acknowledgeNext.isSome = true := by
  unfold Claims.Buffered; decide

/-- Messages of the four classes toward package 1, the bellwether one behind the others, by the one port that is UP. -/
def messages (f : Port → Port) : State :=
  let one (c : Nat) : Parcel := ⟨c, 1, .writeAck c 0, none, 0⟩
  { ported .up f with fab := { State.reset.fab with out := [one 0, one 1, one 2, one 3, one 2] } }

/-- The bellwether message leaves first; the second message of class 2 does not leave before the first; a message of 65 flits that
the replay buffer has room for 12 flits of begins to leave. -/
theorem witness_TrafficClasses :
    ([0, 1, 2] ≠ ([] : List Nat)) ∧ (({ round := 6 } : Port).round < 7) ∧ (∀ c ∈ [0, 1, 2, 3], c < 4) ∧
    (messages id).leaving.map (fun x => (x.place, x.parcel.cls, x.flits)) = [(some 0, 0, 1), (some 1, 1, 1), (some 2, 2, 1), (some 3, 3, 1)] ∧
    (messages id).transmit.isSome = true ∧ ((messages id).transmit.map fun t => t.fab.out.map fun x => x.cls) = some [0, 1, 2, 2] ∧
    State.reset.leaving = [] ∧
    (((messages fun p => { p with txSeq := 500, wire := 500, tails := [(⟨0, 1, .writeAck 9 0, none, 0⟩, 65)] }).leaving.filter
      fun x => x.place.isNone).map fun x => x.flits) = [65] ∧
    ({ txSeq := 500 } : Port).allows 0 0 = 12 ∧ ({ credits := [(0, some 3)] } : Port).allows 0 0 = 3 ∧
    (∀ i < 0, State.reset.fab.pkg / 4 ^ i % 4 = 1 / 4 ^ i % 4) ∧ State.reset.fab.pkg / 4 ^ 0 % 4 ≠ 1 / 4 ^ 0 % 4 ∧
    (3 / 4 ^ 0 % 4 + 4 - State.reset.fab.pkg / 4 ^ 0 % 4) % 4 = 3 := by decide

/-- A load of core 0 that waits for tag 3; a message for package 1 with no port up, and with one. -/
def waitingFor : State := { core0 fun c => { c with
    waiting := [{ dst := [.g 9 0 true], holes := [{ tag := 3, off := 0, len := 8 }], size := 8 }] } with
  fab := { State.reset.fab with pending := [(3, 0, 1)], out := [⟨3, 1, .writeAck 5 0, none, 0⟩] } }

/-- The same at an open target; a read of the bundle at core 0 that awaits tag 3. -/
def waitingInside : State := waitingFor.onCore fun c => { c with seq := { c.seq with table := some (.asked 0) } }
def asked : State := { waitingFor with
  fab := { waitingFor.fab with asks := [⟨.issue 0, none, 0, 0, 8, 3, none⟩] } }

theorem witness_MessagesBetweenPackages :
    State.reset.homeHere (2 ^ 36 - 8) 8 = true ∧ State.reset.homeHere (2 ^ 36 - 7) 8 = false ∧ (2 ^ 36 : Nat) < 2 ^ 60 ∧
    State.reset.fab.wanted = none ∧ State.reset.homeHere (2 ^ 36 - 7) (atomicWidth 10) = false ∧
    waitingFor.awaiting 3 = some waitingFor.core.id ∧
    (waitingFor.core.waiting.findIdx? fun w => w.holes.any fun h => h.tag == 3) = some 0 ∧
    (waitingFor.core.waiting[0]?.any fun w => w.dst == [.g 9 0 true] && w.holes == [{ tag := 3, off := 0, len := w.size }] &&
      w.size == 8 && decide (w.earliest ≤ waitingFor.core.seq.cyc)) = true ∧ waitingFor.core.sy.cwait = none ∧ (∀ a ∈ waitingFor.fab.asks, a.tag ≠ 3) ∧
    waitingInside.core.seq.targetOpen = true ∧ (∀ x ∈ waitingInside.fe.slots, ∀ y ∈ x.2.tags, y.1 ≠ 3) ∧ waitingInside.awaiting 3 = some waitingInside.core.id ∧
    waitingInside.core.waiting = waitingFor.core.waiting ∧
    (asked.fab.asks.find? fun a => a.tag == 3) = some ⟨.issue 0, none, 0, 0, 8, 3, none⟩ ∧
    State.reset.awaiting 3 = none ∧ waitingFor.core.task = none ∧ waitingFor.fab.out[1]? = none ∧
    waitingFor.fab.out[0]? = some ⟨3, 1, .writeAck 5 0, none, 0⟩ ∧ waitingFor.routeTo 0 1 = none ∧
    (({ waitingFor with dies := (ported .up id).dies } : State).routeTo 0 1).isSome = true ∧
    paPkg (2 ^ 46) = 1 ∧ State.reset.fab.pkg = 0 ∧ 1 ∈ ({ State.reset.fab with domain := [0, 1] } : Fabric).domain ∧
    1 ∉ State.reset.fab.domain ∧ atomicWidth 5 = 8 ∧ State.reset.homeHere 64 (atomicWidth 5) = true ∧
    State.reset.homeHere 64 (atomicWidth 12) = true ∧
    (let s : State := { State.reset with fab := { State.reset.fab with cwaits := [(64, 2, 256 + 64 * 7 + 1)] } }
     ∃ w ∈ s.fab.cwaits, w.2.2 = 256 + 64 * 7 + 1) ∧
    (5, some 0) ∈ ((slotted [] fun x => { x with tags := [(5, some 0)] }).slot 0).tags ∧
    ((slotted [] fun x => { x with tags := [(5, some 0)] }).slot 0).state = .active := by decide

/-- Core 0 runs a task of context 0. -/
def pooled : State := core0 fun c => { c with
  st := { c.st with b1 := 1, b2 := 2 }
  task := some { kern := 1, idx := 0, ctx := 0, gang := none, placed := 0, born := 0, runs := 0, runCause := 0, ending := none } }

/-- A write to the pool of a core whose task is of its context, up to the last byte, and one past it. -/
theorem witness_pool_writes :
    2 ^ 60 ≤ 2 ^ 60 + 2 ^ 40 * 0 + 100 ∧ pooled.core.task.isSome = true ∧ (pooled.core.task.map fun t => t.ctx) = some 0 ∧
    (pooled.coreAt 0).id = 0 ∧ (pooled.coreAt 0).inPool (32768 * 2 - 8) 8 = true ∧
    (pooled.coreAt 0).inPool (32768 * 128 - 7) 8 = false := by decide

/-- A deviation of 20 ns, of 100 ns and of 101 ns from 1000, in a package that is the time master, and in one that is not. -/
theorem witness_TimeBase :
    (State.reset.die 0).set = false ∧ ((ported .up id).die 0).set = true ∧
    ((((ported .up id).die 0).dtb : Int) - 980).natAbs ≤ 20 ∧ 20 < ((((ported .up id).die 0).dtb : Int) - 1100).natAbs ∧
    ((((ported .up id).die 0).dtb : Int) - 1100).natAbs ≤ 100 ∧ 100 < ((((ported .up id).die 0).dtb : Int) - 899).natAbs ∧
    (∀ p ∈ State.reset.fab.domain, State.reset.fab.pkg ≤ p) ∧
    (∃ p ∈ ({ State.reset.fab with pkg := 1, domain := [0, 1] } : Fabric).domain, p < 1) ∧
    (let s : State := { State.reset with dies := [(7, { set := true })] }; (s.die 7).set = true ∧
      ∀ j ∈ [0, 1, 2, 3, 4, 5], (s.port 7 j).state ≠ .up) ∧
    (let s : State := { State.reset with dies := [(7, { set := true, ports := [(0, { state := .up })] })] };
      (s.port 7 0).state = .up ∧ ∀ j ∈ [1, 2, 3, 4, 5], (s.port 7 j).state ≠ .up) := by decide

/-- The region with one member more that has reported, and with its tables in another package, or nowhere. -/
def rings (st : Nat) (f : Region → Region) : State := regioned st 0 [f holder]
def ringsAfar : State :=
  let s := rings 1 id
  { s with crook := { s.crook with ctx := [(0, { state := .live, root := 2 ^ 46 + 0x10000 })] } }
def ringsLost : State := { rings 1 id with mem := [] }
/-- The masks lie beyond a table that another package holds. -/
def masksAfar (st : Nat) : State :=
  let s := rings st id
  let entry : Nat := 0x20000 + 8 * bits (descVa 5 + 0x80000000) 31 10
  { s with mem := Memory.store (Memory.store s.mem 56 (leBytes 8 0x80000000)) entry (leBytes 8 (2 ^ 46 + 0x30001)) }

/-- What reading the descriptor by a ring sequencer's turn says: it stands, a fault, or that bytes are still to come. -/
def descSort (s : State) : Nat :=
  match (Claims.reading s .crook).desc 0 5 with | .ok _ => 0 | .error e => if isLack e.cause then 2 else 1

/-- The descriptor that it reads meets a test. -/
def descMeets (s : State) (f : Desc → State → Bool) : Bool :=
  match (Claims.reading s .crook).desc 0 5 with | .ok d => f d (Claims.reading s .crook) | .error _ => false

set_option maxRecDepth 40000 in
/-- An instance that is ARMED, and one that is ABORTING; one other member, which has answered or not. -/
theorem witness_RingEvents :
    (rings 1 id).fab.coldLost = false ∧ (5, 7) ∉ (rings 1 id).fab.lost ∧ (rings 1 id).fab.wanted = none ∧
    (5, 7) ∈ ({ (rings 1 id).fab with lost := [(5, 7)] } : Fabric).lost ∧
    (regioned 1 0 []).heldBy 5 7 = none ∧ (rings 1 id).heldBy 5 7 = some holder ∧ (rings 1 id).held 0 5 = some holder ∧
    (∀ st ∈ [1, 2, 3, 5], descMeets (rings st id) (fun d s =>
      d.rstate == st && d.ctx == 0 && d.id == 5 && d.mode != 2 && d.members == [0, 1] &&
        (s.setRegionState d 7 4 0x11 0).fab.wanted == none && (s.setRegionState d 7 0 0 0).fab.wanted == none) = true) ∧
    descSort ringsAfar = 2 ∧ descSort ringsLost = 1 := by decide

/-- An instance whose region is unknown here; one that may not launch yet; one whose tile has arrived. -/
theorem witness_regions_elsewhere :
    (∀ r ∈ (regioned 1 0 []).fab.regions, r.id ≠ 5) ∧
    ((rings 1 id).fab.regions.find? fun r => r.id == 5) = some holder ∧
    (Claims.reading (rings 2 id) (.region 0 5)).armedRegion holder = none ∧
    (Claims.reading (rings 1 id) (.event (.stagingArrival 6 0))).regionCtx 6 = none ∧
    (Claims.reading (rings 1 id) (.event (.stagingArrival 5 0))).regionCtx 5 = some 0 := by
  refine ⟨by decide, rfl, rfl, by decide, rfl⟩

set_option maxRecDepth 40000 in
/-- Clearing the masks wants an entry of a table that another package holds. -/
theorem witness_ringAbort_wants :
    descMeets (masksAfar 1) (fun d s => ((s.clearRegion d).setRegionState d 7 0 0 0).fab.wanted.isSome) = true := by decide

/-- Chunk 0 of the region has every tile. -/
def chunkReady : State := { regioned 1 0 [holder] with mem := Memory.store (regioned 1 0 [holder]).mem 0xE800 [1] }

set_option maxRecDepth 40000 in
/-- Staging tile 0 of a region that is ARMED arrives; with its bit set it has arrived. -/
theorem witness_StagingArrival :
    (∃ d, (regioned 1 0 [holder]).desc 0 5 = .ok d ∧ (regioned 1 0 [holder]).maskOf d (0 / d.tpc) = .ok 0 ∧
      (regioned 1 0 [holder]).regionState d = 1 ∧ 0 < d.nchunk * d.tpc ∧
      (∃ t, (regioned 1 0 [holder]).arrived d 0 = .ok t ∧ t.fab.wanted = none) ∧
      (regioned 1 0 [holder]).mayLaunch d holder 0 = false) ∧
    (∃ d, chunkReady.desc 0 5 = .ok d ∧ chunkReady.maskOf d (0 / d.tpc) = .ok 1 ∧ bit 1 (0 % d.tpc) = true) := by
  refine ⟨⟨_, rfl, rfl, rfl, by decide, ⟨_, rfl, rfl⟩, rfl⟩, ⟨_, rfl, rfl, by decide⟩⟩

set_option maxRecDepth 20000 in
theorem witness_ChunkLaunch :
    ∃ d, chunkReady.armedRegion holder = some d ∧ chunkReady.mayLaunch d holder 0 = true ∧ d.mode ≠ 2 :=
  ⟨_, rfl, rfl, by decide⟩

/-! The host, the boot, the step, and the frames. -/

/-- READY, with a read-ahead buffer of the first 64 bytes. -/
def readyHost : State := { State.reset with host := { State.reset.host with stage := 7, ahead := some (0, List.replicate 64 0) } }

/-- The last bytes of the window, and one byte beyond. -/
theorem witness_HostAccesses :
    readyHost.host.stage = 7 ∧ readyHost.windowOk (2 ^ 41 - 8) 8 = true ∧ readyHost.windowOk (2 ^ 41 - 7) 8 = false ∧
    State.reset.host.stage ≠ 7 ∧ readyHost.host.buffered 64 8 = none ∧ (readyHost.host.buffered 56 8).isSome = true ∧
    (2 ^ 41 - 8) % 8 = 0 ∧ readyHost.windowOk 4 4 = true ∧ readyHost.stagedAt 64 = none ∧
    (56 : Nat) % 64 + 8 ≤ 64 ∧ (∀ c ∈ readyHost.crook.ctx, c.2.state = .free) ∧
    ¬ (0x20000 ≤ 0x10000 % 0x800000 ∧ 0x10000 % 0x800000 < 0x20400 ∧ 0x10000 % 32 = 24) := by decide

theorem witness_RegistersAndManagement :
    ({ State.reset.host with saveSet := true } : HostSide).saveSet = true ∧ State.reset.host.saveSet = false ∧ 4 % 8 ≠ 0 ∧
    State.reset.host.board = none ∧ ({ State.reset.host with board := some 3000 } : HostSide).board = some 3000 ∧
    7 < 8 ∧ 63 < 64 ∧ 3 < 4 ∧ 127 < 128 := by decide

/-- RECOVERY is stage 2. What the verdict on the window's image is, is a free value: one of the two clauses applies. -/
theorem witness_Resets :
    State.reset.fab.regions = [] ∧ State.reset.dies.Pairwise (fun a b => a.1 ≠ b.1) ∧
    State.reset.clusters.Pairwise (fun a b => a.1 ≠ b.1) ∧ Memory.wf State.reset.mem = true ∧ State.reset.host.stage ≠ 2 ∧
    ({ State.reset.host with stage := 2 } : HostSide).stage = 2 ∧
    State.reset.host.verdict { readable := false } = 4 ∧ imageFormed [] = false ∧
    imageFormed [(0, 0x48), (1, 0x38), (2, 0x46), (3, 0x58), (8, 4)] = true ∧
    leNat (Sparse.read 0 [(0, 0x48), (1, 0x38), (2, 0x46), (3, 0x58), (8, 4)] 8 4) < 5 ∧
    ({ State.reset.host with stage := 1 } : HostSide).stage = 1 := by decide

/-- The region of the tests, one port of die 0 UP toward its other member. -/
def ringsUp : State := { rings 1 id with dies := (ported .up id).dies }

set_option maxRecDepth 40000 in
/-- A region that a reset finds ARMED, whose FAIL has room. -/
theorem witness_Resets_fail :
    ringsUp.fab.regions = [holder] ∧ (match ringsUp.desc 0 5 with
      | .ok d => d.rstate == 1 && d.members == [ringsUp.fab.pkg, 1]
      | _ => false) = true ∧ (1 : Nat) ≠ ringsUp.fab.pkg ∧ ringsUp.routeTo 0 1 = some (0, 0) ∧
    ringsUp.dies.Pairwise (fun a b => a.1 ≠ b.1) ∧ (ringsUp.port 0 0).wire = (ringsUp.port 0 0).txSeq ∧
    0 < (ringsUp.port 0 0).allows (flitTime (ringsUp.die 0).dtb) 3 ∧
    (∀ k < 8, ∀ x ∈ (ringsUp.die k).ports, ∀ m ∈ x.2.sent, ¬ (m.2.die = 0 ∧ m.2.cls = 3 ∧ m.2.dst = 1)) := by decide

/-- An event at the head of the agenda; a task's bundle that is fetched and decoded; a bundle of the monitor store. -/
theorem witness_StepRunsTheDecodedInstruction :
    (Instr.coldReset).isEvent = true ∧ (Instr.coldReset).wellFormed = true ∧ (Instr.nop).isEvent = false ∧
    (let s := placed 1 0x02952E00 (withG [(10, -1), (11, 17)])
     let p := s.countArray.tableDone
     let c := p.core.landDue.settleSpill
     s.agenda = [] ∧ s.turn = [] ∧ (p.core.task.any fun x => x.ending.isNone) = true ∧ p.core.dbg.stopped = false ∧
     p.core.tr.mstop = false ∧ p.boundary.isNone = true ∧ p.core.sampleDue = false ∧ c.seq.resumed = false ∧
     c.rejoin.landDue.busyFor = none ∧ (match State.fetch { p with core := c.rejoin.landDue } with | .ok _ _ => true | _ => false) = true ∧
     s.core.seq.table = none ∧ (s.cluster (s.core.id / 4)).holder ≠ some s.core.id ∧ s.core.seq.moved = false ∧
     s.core.seq.xfer = none ∧ s.core.lp.l0.act = false ∧ s.core.lp.l1.act = false ∧ s.core.seq.ext = none) ∧
    (∃ b u, (placed 1 0x02952E00 id).fetch = .ok b u ∧ b = only 1 0x02952E00) ∧
    (∃ k, (placed 1 0x02952E00 id).myKernel = some k ∧ k.segAt 0 = some (0, ⟨0, 0, 0, 1⟩)) := by
  refine ⟨rfl, rfl, rfl, by decide, ⟨_, _, rfl, by decide⟩, ⟨_, rfl, by decide⟩⟩

/-- How `exec` of `i` ends in `s`. -/
def ending (i : Instr) (s : State) : Option Issue :=
  match exec i s with | .next t => some t.core.seq.last | _ => none

/-- The page tables of the context are in another package. -/
def walksAfar : State :=
  let s := core0 fun c => { scratch c with st := { (scratch c).st with h := [(2, { w0 := 0x7000000000000000, w1 := 65536 })] } }
  { s with
    crook := { s.crook with ctx := [(0, { state := .live, root := 2 ^ 46 + 0x10000 })] }
    fab := { s.fab with domain := [0, 1] } }

set_option maxRecDepth 40000 in
/-- How the bundle of one slot ends: it issues, it is held, it waits for another package, it traps, its BARV arrives at its
barrier; EXIT and TRAP. -/
theorem witness_slot_endings :
    ending (.add true 9 10 11) ((State.reset.ended .issued).onSeq begun) = some .issued ∧
    ending (.fwait 3 2) State.reset = some (.held (.flag 3 2)) ∧
    ending (.jtab 10 2 64) elsewhere = some .issued ∧
    ending (.ldD true 9 2 0 10 0) walksAfar = some (.held (.remote (some 0) 70368744243200 8)) ∧
    (match exec (.rgo 10) (masksAfar 4) with | .next t => t.fab.wanted.isSome | _ => false) = true ∧
    ending (.ldD true 9 0 0 10 0) State.reset = some (.trapped 0x11 2) ∧
    (match exec (.barv 0) (barred [] []) with
      | .next t => !(barred [] []).core.waitsAt 0 && t.core.waitsAt 0 && (match t.core.seq.last with | .held _ => true | _ => false)
      | _ => false) = true ∧
    ending (.exit 0) (barred [] []) = some .issued ∧
    ((((barred [] []).ended .issued).onSeq begun).exits 0).core.seq.last = .issued ∧
    actsAfter (.exit 0) = false ∧ actsAfter (.trap 0) = true ∧ ending (.trap 0) (barred [] []) = some (.trapped 7 2) := by decide

theorem witness_plain_slots :
    Plain 1 0x02952E00 (.add true 9 10 11) State.reset ∧ Plain 0 0x053FFFFC (.brn 3 0xFFFFC) State.reset ∧
    Plain 7 0x02060002 (.fwait 3 2) State.reset ∧ EmptiesRise State.reset.core := by
  refine ⟨⟨by decide, rfl, .inl rfl, rfl, rfl, .inl rfl, nofun, nofun⟩,
    ⟨by decide, rfl, .inl rfl, rfl, rfl, .inl rfl, nofun, fun _ => .inl rfl⟩,
    ⟨by decide, rfl, .inl rfl, rfl, rfl, .inl rfl, nofun, nofun⟩, ?_⟩
  unfold EmptiesRise; decide

theorem witness_DecodeAndEncodeAgree :
    (Instr.vadd 1 true 159 0 255).slot = some 3 ∧ (Instr.vadd 1 true 159 0 255).wellFormed = true ∧
    (decodeSlot 1 0x02952E00).isSome = true := by decide

theorem witness_MemoryStaysCanonical :
    Memory.wf [(0, 1), (2 ^ 52 - 1, 255)] = true ∧
    ∃ t, step { placed 1 0x02952E00 id with mem := [(0, 1), (2 ^ 52 - 1, 255)] } = .next t := ⟨by decide, _, rfl⟩

/-- A store to the pool and one to memory, an add, and a matrix command that issues. -/
theorem witness_ScalarMemoryFrame_and_RegisterFrames :
    (∃ f t, writesOnly (.add true 9 10 11) = some f ∧ exec (.add true 9 10 11) busy = .next t ∧ t.core.seq.last = .issued) ∧
    (∃ t, exec (.stD true 9 2 0 10 0) (mapped (page 1 0)) = .next t ∧ Full (mapped (page 1 0)) [10, 9] ∧ t.core.seq.last = .issued) ∧
    (∃ t, exec (.amoAdd true 9 2 10 0 0) (mapped (page 1 0)) = .next t) ∧ leafRing (page 1 0).leaf.toNat = 0 ∧
    (Instr.mzero 3 0).slot.isSome = true ∧ reachesOut (.mzero 3 0) = false ∧ (∃ t, exec (.mzero 3 0) matrix = .next t) := by
  refine ⟨⟨_, _, rfl, rfl, rfl⟩, ⟨_, rfl, by unfold Full; decide, rfl⟩, ⟨_, rfl⟩, by decide, by decide, by decide, ⟨_, rfl⟩⟩

end Sys2Proof.Tests
end

section
/-! SUPPORT. Proofs of the statements about the control and scalar instructions: returns from handlers, compares and
predicates, integer results, FP64, atomics. -/

namespace Sys2Proof.Proofs

open Sys2Proof.Machine Sys2Proof.Claims

/-! ### How a scalar instruction issues -/

/-- A meaning that settles an operation which goes on to `t` issues into `t`. -/
theorem issues_of_settle {i : Instr} {k : Nat} {r : Res} {s t : State} (hexec : exec i s = settle k r) (hr : r = t.ok) :
    Issues i s t := by
  rw [Issues, hexec, hr]; rfl

/-- A scalar form with full registers issues into what its effect leaves. -/
theorem issues_of_ready {i : Instr} {k : Nat} {w : Bool} {gs : List (BitVec 5)} {f : State → Res} {s t : State}
    (hexec : exec i s = settle k (s.ready w gs f)) (hfull : Full s gs) (hf : f s = t.ok) : Issues i s t :=
  issues_of_settle hexec ((ready_full hfull).trans hf)

/-! ### Least and greatest (R104, R116) -/

/-- Where equal words make no difference, a choice by the signed `<` is the choice by `≤`. -/
theorem ite_slt_eq_ite_le {a b u v : Word} (h : a = b → u = v) :
    (if a.slt b then u else v) = if a.toInt ≤ b.toInt then u else v := by
  by_cases hab : a = b
  · rw [h hab, ite_self, ite_self]
  · have hne : a.toInt ≠ b.toInt := fun he => hab (BitVec.eq_of_toInt_eq he)
    have hiff : a.toInt < b.toInt ↔ a.toInt ≤ b.toInt := by omega
    simp only [BitVec.slt, decide_eq_true_eq, hiff]

/-- The same of the unsigned order. -/
theorem ite_ult_eq_ite_le {a b u v : Word} (h : a = b → u = v) :
    (if a.ult b then u else v) = if a.toNat ≤ b.toNat then u else v := by
  by_cases hab : a = b
  · rw [h hab, ite_self, ite_self]
  · have hne : a.toNat ≠ b.toNat := fun he => hab (BitVec.eq_of_toNat_eq he)
    have hiff : a.toNat < b.toNat ↔ a.toNat ≤ b.toNat := by omega
    simp only [BitVec.ult, decide_eq_true_eq, hiff]

theorem ite_slt_eq_ite_ge (a b u v : Word) :
    (if a.slt b then u else v) = if b.toInt ≤ a.toInt then v else u := by
  simp only [BitVec.slt, decide_eq_true_eq, ← Int.not_lt, ite_not]

theorem ite_ult_eq_ite_ge (a b u v : Word) :
    (if a.ult b then u else v) = if b.toNat ≤ a.toNat then v else u := by
  simp only [BitVec.ult, decide_eq_true_eq, ← Nat.not_lt, ite_not]

/-! ### Numbers of a few bits, and the immediate of R64 -/

/-- The two's complement reading of the low `n` bits is that of a word of `n` bits. -/
theorem signedOf_eq_toInt (n x : Nat) : signedOf n x = (BitVec.ofNat n x).toInt := by
  rw [BitVec.toInt_eq_toNat_cond, BitVec.toNat_ofNat, signedOf]
  cases n with
  | zero => simp [Nat.mod_one]
  | succ n =>
    have hhalf : x % 2 ^ (n + 1) < 2 ^ (n + 1 - 1) ↔ 2 * (x % 2 ^ (n + 1)) < 2 ^ (n + 1) := by
      rw [Nat.add_sub_cancel, Nat.pow_succ]; omega
    simp only [hhalf]
    norm_cast

theorem sext_eq_signExtend (n : Nat) (a : Word) : sext n a.toNat = (a.setWidth n).signExtend 64 := by
  rw [sext, signedOf_eq_toInt, BitVec.ofNat_toNat]; rfl

/-- A field with a second field above it is the two appended. -/
theorem ofNat_fields_eq_append {m n : Nat} (x : BitVec m) (i : BitVec n) :
    BitVec.ofNat (m + n) (x.toNat * 2 ^ n + i.toNat) = x ++ i := by
  apply BitVec.eq_of_toNat_eq
  have hlt := (x ++ i).isLt
  rw [BitVec.toNat_append, ← Nat.shiftLeft_add_eq_or_of_lt i.isLt, Nat.shiftLeft_eq] at *
  rw [BitVec.toNat_ofNat, Nat.mod_eq_of_lt hlt]

/-- The immediate that the model forms is the one of R64. -/
theorem immWord_eq_wide (s : State) {n : Nat} (i : BitVec n) : s.immWord n i.toNat = wide s i := by
  unfold State.immWord State.imm wide
  cases s.core.seq.ext with
  | none => rw [signedOf_eq_toInt, BitVec.ofNat_toNat, BitVec.setWidth_eq]; rfl
  | some x => simp only [signedOf_eq_toInt, ofNat_fields_eq_append]; rfl

/-! ### Returns from handlers (R99, R100, R102, R369) -/

/-- A transfer with its loops as they were begins where none of them ends in a delay bundle. -/
theorem transfer_eq_going {s : State} {tgt : Nat} {arr : Arrive} (h : NoDelayEnd s.core.lp s.core.seq.pc) :
    s.transfer s.core.lp tgt arr = (going s s.core.lp tgt arr).ok :=
  transfer_eq h.1 h.2

theorem issues_of_transfer {i : Instr} {s : State} {tgt : Nat} {arr : Arrive} {c : Bool} {r : Res}
    (hexec : exec i s = settle 0 (if c then s.transfer s.core.lp tgt arr else r)) (hc : c = true)
    (h : NoDelayEnd s.core.lp s.core.seq.pc) : Issues i s (going s s.core.lp tgt arr) :=
  issues_of_settle hexec (by rw [if_pos hc, transfer_eq_going h])

theorem exec_of_trap {i : Instr} {s : State} {c : Bool} {r : Res} {t : TrapInfo}
    (hexec : exec i s = settle 0 (if c then r else .trap t s)) (hc : c = false) :
    exec i s = .next ((s.takeTrap t 0).ended (.trapped t.cause t.stage)) := by
  rw [hexec, hc]; rfl

theorem returnsBeginTransfers : Claims.ReturnsBeginTransfers :=
  ⟨fun _ h => ⟨fun hl => issues_of_transfer rfl hl h, fun hl => issues_of_transfer rfl hl h,
      fun hl => issues_of_transfer rfl hl h⟩,
    fun _ => ⟨exec_of_trap rfl, exec_of_trap rfl, exec_of_trap rfl⟩⟩

@[simp] theorem replay_seq (c : Core) (f : Option Frame) : (c.replay f).seq = c.seq := by cases f <;> rfl
@[simp] theorem replay_tr (c : Core) (f : Option Frame) : (c.replay f).tr = c.tr := by cases f <;> rfl
@[simp] theorem replay_lp (c : Core) (f : Option Frame) : (c.replay f).lp = c.lp := by cases f <;> rfl

/-- ACT reads back as it was set. -/
@[simp] theorem act_setAct (l : Loops) (a : BitVec 2) : (l.setAct a).act = a := by
  have hbits : ∀ a : BitVec 2, BitVec.ofNat 2 (flg (bit a.toNat 1) 1 + flg (bit a.toNat 0) 0) = a := by decide
  exact hbits a

/-- A cause that records no transfer leaves none pending. -/
theorem xferOf_eq_none {cause : Nat} {f : Option Frame} (h : bits cause 18 2 = 0) : xferOf cause f = none := if_pos h

/-- A cause that records a transfer gives back its target and the bundles that remain (R369, R374). -/
theorem xferOf_eq_some {cause : Nat} {f : Option Frame} (h : bits cause 18 2 ≠ 0) :
    ∃ a, xferOf cause f = some ⟨bits cause 32 32, bits cause 18 2, a⟩ := ⟨_, if_neg h⟩

theorem returnsRestoreAtTheTarget : Claims.ReturnsRestoreAtTheTarget := by
  intro c tgt n
  simp only [Core.arrive, replay_seq, replay_tr, replay_lp, act_setAct, and_self, and_true, true_and]
  exact ⟨xferOf_eq_none, xferOf_eq_some⟩

/-- Settles O5: a return is a transfer whose arrival rewrites the loops' ACT, the level and the pending transfer. -/
theorem returnsFromHandlers : Obligations.ReturnsFromHandlers := ⟨returnsBeginTransfers, returnsRestoreAtTheTarget⟩

/-! ### Compares (R107, R70) -/

/-- CMP and CMPI set their predicate to the relation that their condition code names. -/
theorem compares_of_condHolds {c : BitVec 3} {f : Word → Word → Bool} (hf : ∀ a b, condHolds c.toNat a b = f a b) :
    Compares c f :=
  ⟨fun _ _ _ _ _ hfull => issues_of_ready rfl hfull (by rw [hf]),
    fun _ _ _ _ _ hfull => issues_of_ready rfl hfull (by rw [hf, immWord_eq_wide])⟩

theorem compareResults : Claims.CompareResults :=
  ⟨compares_of_condHolds fun _ _ => rfl, compares_of_condHolds fun _ _ => rfl, compares_of_condHolds fun _ _ => rfl,
    compares_of_condHolds fun _ _ => rfl, compares_of_condHolds fun _ _ => rfl, compares_of_condHolds fun _ _ => rfl⟩

/-! ### Predicates (R108, R109) -/

/-- A bit of a word after the word has taken a bit. -/
theorem getLsbD_putBit {w : Nat} (x : BitVec w) (v : Bool) (n m : Nat) (hm : m < w) :
    (if v then x ||| BitVec.twoPow w n else x &&& ~~~(BitVec.twoPow w n)).getLsbD m =
      if m = n then v else x.getLsbD m := by
  by_cases h : m = n
  · subst h; cases v <;> simp [hm]
  · cases v <;> simp [h, hm]

theorem pred_zero (c : Core) : c.pred 0 = true := rfl

theorem pred_of_low (c : Core) {n : Nat} (h0 : n ≠ 0) (h : n < 8) : c.pred n = c.sc.p.getLsbD n := by
  rw [Core.pred, if_neg h0, if_pos h]

theorem pred_of_high (c : Core) {n : Nat} (h : 8 ≤ n) : c.pred n = c.lp.sv.getLsbD (n - 8) := by
  rw [Core.pred, if_neg (by omega), if_neg (by omega)]

/-- P1 to P7 keep what they are given, and no other predicate changes. -/
theorem pred_land_of_low (c : Core) (v : Bool) {n m : Nat} (h0 : n ≠ 0) (hn : n < 8) :
    (c.land (.p n v)).pred m = if m = n then v else c.pred m := by
  simp only [Core.land, if_neg h0, if_pos hn]
  by_cases hm0 : m = 0
  · rw [hm0, if_neg h0.symm]; rfl
  by_cases hm : m < 8
  · rw [pred_of_low _ hm0 hm, pred_of_low _ hm0 hm]; exact getLsbD_putBit _ v n m hm
  · have hne : m ≠ n := by omega
    rw [if_neg hne, pred_of_high _ (by omega), pred_of_high _ (by omega)]

/-- P8 to P15 stand in SV[7:0], and a write of one changes no other predicate. -/
theorem pred_land_of_high (c : Core) (v : Bool) {n m : Nat} (hn : 8 ≤ n) (hm : m ≤ 15) :
    (c.land (.p n v)).pred m = if m = n then v else c.pred m := by
  have h0 : n ≠ 0 := by omega
  simp only [Core.land, if_neg h0, if_neg (Nat.not_lt.2 hn)]
  by_cases hm0 : m = 0
  · rw [hm0, if_neg h0.symm]; rfl
  by_cases hlow : m < 8
  · have hne : m ≠ n := by omega
    rw [if_neg hne, pred_of_low _ hm0 hlow, pred_of_low _ hm0 hlow]
  · have hsame : m - 8 = n - 8 ↔ m = n := by omega
    rw [pred_of_high _ (by omega), pred_of_high _ (by omega)]
    simpa only [hsame] using getLsbD_putBit c.lp.sv v (n - 8) (m - 8) (by omega)

/-- SEL gives the first source where its predicate is true, and the second where it is false. -/
theorem issues_sel (w : Bool) (d a b : BitVec 5) (p : BitVec 4) (s : State) (hfull : Full s [a, b, d]) :
    Issues (.sel w d a b p) s
      (s.writeG 1 d.toNat (if s.core.pred p.toNat then s.core.g a.toNat else s.core.g b.toNat)) :=
  issues_of_ready rfl hfull rfl

theorem predicateResults : Claims.PredicateResults := by
  refine ⟨fun d a b s => ⟨issues_of_settle (k := 1) rfl rfl, issues_of_settle (k := 1) rfl rfl,
    issues_of_settle (k := 1) rfl rfl, issues_of_settle (k := 1) rfl rfl, issues_of_settle (k := 1) rfl rfl⟩,
    fun w d a b p s hfull => ⟨fun hp => ?_, fun hp => ?_⟩,
    fun c v => ⟨pred_zero c, rfl⟩, fun c n v h1 h15 m hm => ?_, fun c n hn => ?_⟩
  · simpa [hp] using issues_sel w d a b p s hfull
  · simpa [hp] using issues_sel w d a b p s hfull
  · by_cases hn : n < 8
    · exact pred_land_of_low c v (by omega) hn
    · exact pred_land_of_high c v (by omega) hm
  · rw [pred_of_high c (by omega), Nat.add_sub_cancel_left]

/-- Settles O8, by the relation of each condition code and by where each predicate stands. -/
theorem comparesAndPredicates : Obligations.ComparesAndPredicates := ⟨compareResults, predicateResults⟩

/-! ### Words: shifts, products, counts of bits (R104) -/

/-- The low six bits of a word are its shift amount. -/
theorem toNat_and_63 (b : Word) : (b &&& 63).toNat = amount b := by
  rw [BitVec.toNat_and]
  exact Nat.and_two_pow_sub_one_eq_mod b.toNat 6

theorem shl_amount (a b : Word) : a <<< amount b = a <<< (b &&& 63) := by
  rw [BitVec.shiftLeft_eq', toNat_and_63]

theorem shr_amount (a b : Word) : a >>> amount b = a >>> (b &&& 63) := by
  rw [BitVec.ushiftRight_eq', toNat_and_63]

/-- An arithmetic shift divides, rounding down. -/
theorem sshiftRight_eq_div (a : Word) (n : Nat) : a.sshiftRight n = BitVec.ofInt 64 (a.toInt / 2 ^ n) := by
  rw [BitVec.sshiftRight, Int.shiftRight_eq_div_pow]
  norm_cast

/-- A rotation is a shift each way, by the amount and by what it lacks of 64. -/
theorem rol_amount (a b : Word) :
    a.rotateLeft (amount b) = (a <<< (b &&& 63)) ||| (a >>> ((64 - (b &&& 63)) &&& 63)) := by
  have hlt : amount b < 64 := Nat.mod_lt _ (by decide)
  have hback : ((64 - (b &&& 63)) &&& 63 : Word).toNat = (64 - amount b) % 64 := by
    rw [toNat_and_63, amount, BitVec.toNat_sub, toNat_and_63, show (64 : Word).toNat = 64 from rfl]
    omega
  rw [BitVec.rotateLeft_def, BitVec.shiftLeft_eq', BitVec.ushiftRight_eq', toNat_and_63, hback, Nat.mod_eq_of_lt hlt]
  rcases Nat.eq_zero_or_pos (amount b) with h0 | hpos
  · simp [h0, BitVec.ushiftRight_eq_zero]
  · rw [Nat.mod_eq_of_lt (by omega : 64 - amount b < 64)]

/-- The upper half of the signed product. -/
theorem mulhS_eq (a b : Word) : mulhS a b = (a.signExtend 128 * b.signExtend 128).extractLsb' 64 64 := by
  apply BitVec.eq_of_toNat_eq
  rw [mulhS, BitVec.signExtend, BitVec.signExtend, ← BitVec.ofInt_mul, BitVec.extractLsb'_toNat, BitVec.toNat_ofInt,
    BitVec.toNat_ofInt, Nat.shiftRight_eq_div_pow]
  omega

/-- The upper half of the unsigned product. -/
theorem mulhU_eq (a b : Word) : mulhU a b = (a.setWidth 128 * b.setWidth 128).extractLsb' 64 64 := by
  have ha := a.isLt
  have hb := b.isLt
  have hlt : a.toNat * b.toNat < 2 ^ 64 * 2 ^ 64 := Nat.mul_lt_mul'' ha hb
  apply BitVec.eq_of_toNat_eq
  rw [mulhU, w64, BitVec.extractLsb'_toNat, BitVec.toNat_mul, BitVec.toNat_setWidth, BitVec.toNat_setWidth,
    BitVec.toNat_ofNat, Nat.shiftRight_eq_div_pow, Nat.mod_eq_of_lt (by omega : a.toNat < 2 ^ 128),
    Nat.mod_eq_of_lt (by omega : b.toNat < 2 ^ 128), Nat.mod_eq_of_lt (by omega : a.toNat * b.toNat < 2 ^ 128)]

theorem toNat_ne_zero {a : Word} (h : a ≠ 0) : a.toNat ≠ 0 := fun h0 => h (BitVec.eq_of_toNat_eq h0)

theorem log2_toNat_lt {a : Word} (h : a ≠ 0) : Nat.log2 a.toNat < 64 :=
  (Nat.log2_lt (toNat_ne_zero h)).2 a.isLt

/-- CLZ counts the bits above the highest one that is set. -/
theorem clzWord_spec (a : Word) :
    (clzWord a).toNat ≤ 64 ∧ (∀ i < (clzWord a).toNat, a.getMsbD i = false) ∧
      ((clzWord a).toNat < 64 → a.getMsbD (clzWord a).toNat = true) := by
  by_cases h : a = 0
  · subst h; decide
  have hlog := log2_toNat_lt h
  have hn : (clzWord a).toNat = 63 - Nat.log2 a.toNat := by
    rw [clzWord, if_neg h, w64, BitVec.toNat_ofNat]; omega
  rw [hn]
  refine ⟨by omega, fun i hi => ?_, fun _ => ?_⟩
  · have habove : a.toNat < 2 ^ (63 - i) := (Nat.log2_lt (toNat_ne_zero h)).1 (by omega)
    simp [BitVec.getMsbD, BitVec.getLsbD, Nat.testBit_lt_two_pow habove]
  · have hback : 64 - 1 - (63 - Nat.log2 a.toNat) = Nat.log2 a.toNat := by omega
    simp only [BitVec.getMsbD, BitVec.getLsbD, hback, Nat.testBit_log2 (toNat_ne_zero h), Bool.and_true]
    exact decide_eq_true (by omega)

/-- Bit `i` of `a & −a` is set where bit `i` of `a` is the lowest one set. -/
theorem getLsbD_and_neg (a : Word) (i : Nat) :
    (a &&& (0 - a)).getLsbD i = true ↔ a.getLsbD i = true ∧ ∀ j < i, a.getLsbD j = false := by
  rw [BitVec.getLsbD_and, show (0 : Word) - a = -a from BitVec.zero_sub a, BitVec.getLsbD_neg]
  by_cases hi : a.getLsbD i = true
  · have hlt : i < 64 := BitVec.lt_of_getLsbD hi
    simp only [hi, hlt, decide_true, Bool.true_and, Bool.true_xor, Bool.not_eq_true', decide_eq_false_iff_not,
      not_exists, not_and, Bool.not_eq_true, true_and]
  · simp [hi]

/-- A word with a bit set has a lowest one, so that `a & −a` is not 0. -/
theorem and_neg_ne_zero {a : Word} (h : a ≠ 0) : a &&& (0 - a) ≠ 0 := by
  intro h0
  have hclear : ∀ i, a.getLsbD i = false := by
    intro i
    induction i using Nat.strongRecOn with
    | ind i ih =>
      cases hbit : a.getLsbD i with
      | false => rfl
      | true =>
        have hlow := (getLsbD_and_neg a i).2 ⟨hbit, ih⟩
        rw [h0] at hlow
        exact absurd hlow (by simp)
  exact h (BitVec.eq_of_getLsbD_eq fun i _ => by rw [hclear]; simp)

/-- CTZ counts the bits below the lowest one that is set. -/
theorem ctzWord_spec (a : Word) :
    (ctzWord a).toNat ≤ 64 ∧ (∀ i < (ctzWord a).toNat, a.getLsbD i = false) ∧
      ((ctzWord a).toNat < 64 → a.getLsbD (ctzWord a).toNat = true) := by
  by_cases h : a = 0
  · subst h; decide
  have hne := and_neg_ne_zero h
  have hlog := log2_toNat_lt hne
  have hn : (ctzWord a).toNat = Nat.log2 (a &&& (0 - a)).toNat := by
    rw [ctzWord, if_neg h, w64, BitVec.toNat_ofNat]; omega
  obtain ⟨hbit, hbelow⟩ := (getLsbD_and_neg a _).1 (Nat.testBit_log2 (toNat_ne_zero hne))
  rw [hn]
  exact ⟨Nat.le_of_lt hlog, hbelow, fun _ => hbit⟩

/-- Adding up bits counts those that are set. -/
theorem foldl_add_testBit (x : Nat) (l : List Nat) (n : Nat) :
    l.foldl (fun n i => n + x / 2 ^ i % 2) n = n + l.countP fun i => x.testBit i := by
  induction l generalizing n with
  | nil => rfl
  | cons i l ih =>
    rw [List.foldl_cons, ih, List.countP_cons, ← Nat.toNat_testBit]
    cases x.testBit i <;> simp [Nat.add_comm, Nat.add_left_comm]

theorem toNat_popcWord (a : Word) : (popcWord a).toNat = (List.range 64).countP fun i => a.getLsbD i := by
  have hle : (List.range 64).countP (fun i => a.getLsbD i) ≤ 64 := by
    simpa using List.countP_le_length (p := fun i => a.getLsbD i) (l := List.range 64)
  rw [popcWord, foldl_add_testBit, Nat.zero_add, w64, BitVec.toNat_ofNat]
  exact Nat.mod_eq_of_lt (by simp only [BitVec.getLsbD] at hle; omega)

/-! ### Division (R104, R105) -/

/-- The quotient rounded toward zero is SDIV. -/
theorem ofInt_tdiv (a b : Word) : BitVec.ofInt 64 (a.toInt.tdiv b.toInt) = a.sdiv b := by
  apply BitVec.eq_of_toInt_eq
  rw [BitVec.toInt_ofInt, BitVec.toInt_sdiv]

theorem divS_eq (a b : Word) : divS a b = if b = 0 then -1 else a.sdiv b := by
  rw [divS, ofInt_tdiv]; rfl

theorem divU_eq (a b : Word) : divU a b = if b = 0 then BitVec.allOnes 64 else a / b := by
  rw [divU, BitVec.udiv_def]; rfl

theorem remS_eq (a b : Word) : remS a b = if b = 0 then a else a - b * a.sdiv b := by
  rw [remS, Int.tmod_def, Int.sub_eq_add_neg, BitVec.ofInt_add, BitVec.ofInt_neg, BitVec.ofInt_mul, ofInt_tdiv,
    BitVec.ofInt_toInt, BitVec.ofInt_toInt, ← BitVec.sub_eq_add_neg]

theorem remU_eq (a b : Word) : remU a b = if b = 0 then a else a - b * (a / b) := by
  have hrem : w64 (a.toNat % b.toNat) = a - b * (a / b) := by
    rw [w64, ← BitVec.umod_def, BitVec.eq_sub_iff_add_eq]
    apply BitVec.eq_of_toNat_eq
    rw [BitVec.toNat_add, BitVec.toNat_mul, BitVec.toNat_umod, BitVec.toNat_udiv, Nat.add_mod_mod, Nat.mod_add_div,
      Nat.mod_eq_of_lt a.isLt]
  rw [remU, hrem]

/-- −2^63 by −1 gives −2^63. -/
theorem divS_intMin : divS (BitVec.intMin 64) (-1) = BitVec.intMin 64 := by decide
theorem remS_intMin : remS (BitVec.intMin 64) (-1) = 0 := by decide

/-! ### The forms (R104 to R106, R64) -/

theorem gives2_of_regReg {mk : Bool → BitVec 5 → BitVec 5 → BitVec 5 → Instr} {lat : Nat} {f g : Word → Word → Word}
    (hexec : ∀ w d a b s, exec (mk w d a b) s = settle 1 (regReg lat g w d a b s)) (hg : ∀ a b, g a b = f a b) :
    Gives2 mk lat f :=
  fun w d a b s hfull => issues_of_ready (hexec w d a b s) hfull (by rw [hg])

theorem givesEm_of_regRegEm {mk : Bool → BitVec 5 → BitVec 5 → BitVec 5 → Instr} {f g : Word → Word → Word}
    (hexec : ∀ w d a b s, exec (mk w d a b) s = settle 1 (regRegEm g w d a b s)) (hg : ∀ a b, g a b = f a b) :
    GivesEm mk 20 f :=
  fun w d a b s hfull => issues_of_ready (hexec w d a b s) hfull (by rw [hg])

theorem gives1_of_regOne {mk : Bool → BitVec 5 → BitVec 5 → Instr} {g : Word → Word} {p : Word → Word → Prop}
    (hexec : ∀ w d a s, exec (mk w d a) s = settle 1 (regOne g w d a s)) (hg : ∀ a, p a (g a)) : Gives1 mk p :=
  fun w d a s hfull => ⟨_, issues_of_ready (hexec w d a s) hfull rfl, hg _⟩

theorem givesImm_of_regImm {mk : Bool → BitVec 5 → BitVec 5 → BitVec 14 → Instr} {lat : Nat} {f : Word → Word → Word}
    (hexec : ∀ w d a i s, exec (mk w d a i) s = settle 1 (regImm lat f w d a i s)) : GivesImm mk lat f :=
  fun w d a i s hfull => issues_of_ready (hexec w d a i s) hfull (by rw [immWord_eq_wide])

theorem givesAmt_of_regAmt {mk : Bool → BitVec 5 → BitVec 5 → BitVec 6 → Instr} {f g : Word → Nat → Word}
    (hexec : ∀ w d a i s, exec (mk w d a i) s = settle 1 (regAmt g w d a i s)) (hg : ∀ a n, g a n = f a n) :
    GivesAmt mk f :=
  fun w d a i s hfull => issues_of_ready (hexec w d a i s) hfull (by rw [hg])

theorem integerResults : Claims.IntegerResults := by
  refine ⟨?add, ?sub, ?and, ?or, ?xor, ?andn, ?shl, ?shr, ?sar, ?rol, ?mul, ?mulh, ?mulhu, ?min, ?max, ?minu, ?maxu,
    ?clz, ?ctz, ?popc, ?sextb, ?sexth, ?sextw⟩
  case shl => exact gives2_of_regReg (fun _ _ _ _ _ => rfl) shl_amount
  case shr => exact gives2_of_regReg (fun _ _ _ _ _ => rfl) shr_amount
  case sar => exact gives2_of_regReg (fun _ _ _ _ _ => rfl) fun a b => by rw [sshiftRight_eq_div, toNat_and_63]
  case rol => exact gives2_of_regReg (fun _ _ _ _ _ => rfl) rol_amount
  case mulh => exact gives2_of_regReg (fun _ _ _ _ _ => rfl) mulhS_eq
  case mulhu => exact gives2_of_regReg (fun _ _ _ _ _ => rfl) mulhU_eq
  case min => exact gives2_of_regReg (fun _ _ _ _ _ => rfl) fun _ _ => ite_slt_eq_ite_le id
  case max => exact gives2_of_regReg (fun _ _ _ _ _ => rfl) fun _ _ => ite_slt_eq_ite_le Eq.symm
  case minu => exact gives2_of_regReg (fun _ _ _ _ _ => rfl) fun _ _ => ite_ult_eq_ite_le id
  case maxu => exact gives2_of_regReg (fun _ _ _ _ _ => rfl) fun _ _ => ite_ult_eq_ite_le Eq.symm
  case clz => exact gives1_of_regOne (fun _ _ _ _ => rfl) clzWord_spec
  case ctz => exact gives1_of_regOne (fun _ _ _ _ => rfl) ctzWord_spec
  case popc => exact gives1_of_regOne (fun _ _ _ _ => rfl) toNat_popcWord
  case sextb => exact gives1_of_regOne (fun _ _ _ _ => rfl) (sext_eq_signExtend 8)
  case sexth => exact gives1_of_regOne (fun _ _ _ _ => rfl) (sext_eq_signExtend 16)
  case sextw => exact gives1_of_regOne (fun _ _ _ _ => rfl) (sext_eq_signExtend 32)
  all_goals exact gives2_of_regReg (fun _ _ _ _ _ => rfl) fun _ _ => rfl

theorem divisionResults : Claims.DivisionResults := by
  refine ⟨givesEm_of_regRegEm (fun _ _ _ _ _ => rfl) divS_eq, givesEm_of_regRegEm (fun _ _ _ _ _ => rfl) divU_eq,
    givesEm_of_regRegEm (fun _ _ _ _ _ => rfl) remS_eq, givesEm_of_regRegEm (fun _ _ _ _ _ => rfl) remU_eq,
    fun w d a b s hfull ha hb => ⟨?_, ?_⟩⟩
  · exact issues_of_ready rfl hfull (by rw [ha, hb, divS_intMin])
  · exact issues_of_ready rfl hfull (by rw [ha, hb, remS_intMin])

theorem immediateResults : Claims.ImmediateResults :=
  ⟨givesImm_of_regImm fun _ _ _ _ _ => rfl, givesImm_of_regImm fun _ _ _ _ _ => rfl,
    givesImm_of_regImm fun _ _ _ _ _ => rfl, givesImm_of_regImm fun _ _ _ _ _ => rfl,
    givesImm_of_regImm fun _ _ _ _ _ => rfl,
    givesAmt_of_regAmt (fun _ _ _ _ _ => rfl) fun _ _ => rfl,
    givesAmt_of_regAmt (fun _ _ _ _ _ => rfl) fun _ _ => rfl,
    givesAmt_of_regAmt (fun _ _ _ _ _ => rfl) sshiftRight_eq_div,
    fun _ _ _ hfull => issues_of_ready rfl hfull (by rw [immWord_eq_wide])⟩

/-- Settles O7: each form computes its word operation, and each word operation is the arithmetic that R104 to R106 name. -/
theorem integerAndImmediateResults : Obligations.IntegerAndImmediateResults :=
  ⟨integerResults, divisionResults, immediateResults⟩

/-! ### Rounding keeps codes (R26, R51) -/

/-- A value in units at least as fine as its own is exact. -/
theorem toUnits_of_le {md : RMode} {neg : Bool} {m w : Nat} {e q : Int} (h : q ≤ e) :
    toUnits md neg m e q w = (m * 2 ^ (e - q).toNat, false) := if_pos h

/-- A value whose exponent is that of the unit it would be rounded to, and that lies in the format, keeps its significand
and raises nothing. -/
theorem roundFin_of_unit {f : Fmt} {md : RMode} {sat neg : Bool} {m w : Nat} {e : Int} (hm : m ≠ 0)
    (htop : (Nat.log2 m : Int) + e ≤ f.emax) (hunit : max ((Nat.log2 m : Int) + e - f.mb) f.qmin = e)
    (hmax : e = f.emax - f.mb → m ≤ f.maxSig) :
    f.roundFin md sat neg m e w = (f.sign neg + (e - f.qmin).toNat * 2 ^ f.mb + m, 0) := by
  have hfits : ¬ (e = f.emax - f.mb ∧ f.maxSig < m) := fun h => absurd (hmax h.1) (Nat.not_le.2 h.2)
  simp only [Fmt.roundFin, if_neg hm, if_neg (Int.not_lt.2 htop), hunit, toUnits_of_le (Int.le_refl e), Int.sub_self,
    Int.toNat_zero, Nat.pow_zero, Nat.mul_one, if_neg hfits, flagIf, Bool.false_and, Bool.false_eq_true, if_false]
  rfl

/-- What the codes of a format need so that each finite one is in the format: the subnormals lie below the top unit, and a
normal code that is not special lies at the largest exponent or below, there with a significand that is a value's. -/
structure RepresentsCodes (f : Fmt) : Prop where
  subnormal : f.qmin < f.emax - f.mb
  normal : ∀ ex frac : Nat, ex < 2 ^ f.eb → frac < 2 ^ f.mb → ¬ (f.top = .ieee ∧ ex = 2 ^ f.eb - 1) →
    ¬ (f.top = .e4m3 ∧ ex = 15 ∧ frac = 7) →
    (ex : Int) - f.bias ≤ f.emax ∧ ((ex : Int) - f.bias = f.emax → 2 ^ f.mb + frac ≤ f.maxSig)

theorem representsCodes_of_ieee {f : Fmt} (htop : f.top = .ieee) (heb : 2 ≤ f.eb) : RepresentsCodes f := by
  have hfour : 2 ^ 2 ≤ 2 ^ f.eb := Nat.pow_le_pow_right (by decide) heb
  have hdouble : 2 ^ (f.mb + 1) = 2 * 2 ^ f.mb := Nat.pow_succ'
  constructor
  · simp only [Fmt.qmin, Fmt.emax, htop]
    omega
  · intro ex frac hex hfrac hspecial _
    have hne : ex ≠ 2 ^ f.eb - 1 := fun h => hspecial ⟨htop, h⟩
    simp only [Fmt.emax, Fmt.maxSig, htop, hdouble]
    omega

theorem representsCodes_e4m3 : RepresentsCodes e4m3 := by
  constructor
  · decide
  · intro ex frac hex hfrac _ hspecial
    simp only [e4m3, Fmt.emax, Fmt.maxSig, true_and] at *
    omega

theorem representsCodes_e2m1 : RepresentsCodes e2m1 := by
  constructor
  · decide
  · intro ex frac hex hfrac _ _
    simp only [e2m1, Fmt.emax, Fmt.maxSig] at *
    omega

theorem representsCodes_of_mem {f : Fmt} (h : f ∈ [fp64, fp32, fp16, bf16, e5m2, e4m3, e2m1]) : RepresentsCodes f := by
  simp only [List.mem_cons, List.not_mem_nil, or_false] at h
  rcases h with rfl | rfl | rfl | rfl | rfl | rfl | rfl
  · exact representsCodes_of_ieee rfl (by decide)
  · exact representsCodes_of_ieee rfl (by decide)
  · exact representsCodes_of_ieee rfl (by decide)
  · exact representsCodes_of_ieee rfl (by decide)
  · exact representsCodes_of_ieee rfl (by decide)
  · exact representsCodes_e4m3
  · exact representsCodes_e2m1

/-- A subnormal code: its fraction in units of the least power of two. -/
theorem roundFin_subnormal {f : Fmt} (hf : RepresentsCodes f) (md : RMode) (sat neg : Bool) (w : Nat) {frac : Nat}
    (hfrac : frac < 2 ^ f.mb) : f.roundFin md sat neg frac f.qmin w = (f.sign neg + frac, 0) := by
  by_cases h0 : frac = 0
  · subst h0; rfl
  have hlog : Nat.log2 frac < f.mb := (Nat.log2_lt h0).2 hfrac
  have hsub := hf.subnormal
  rw [roundFin_of_unit h0 (by omega) (Int.max_eq_right (by omega)) (by omega)]
  simp

/-- A normal code: its fraction under the leading bit, at its exponent. -/
theorem roundFin_normal {f : Fmt} (md : RMode) (sat neg : Bool) (w : Nat) {ex frac : Nat}
    (hex : ex ≠ 0) (hfrac : frac < 2 ^ f.mb) (htop : (ex : Int) - f.bias ≤ f.emax)
    (hmax : (ex : Int) - f.bias = f.emax → 2 ^ f.mb + frac ≤ f.maxSig) :
    f.roundFin md sat neg (2 ^ f.mb + frac) (f.qmin + (ex - 1 : Nat)) w = (f.sign neg + ex * 2 ^ f.mb + frac, 0) := by
  have hpos : 0 < 2 ^ f.mb := Nat.two_pow_pos _
  have hne : 2 ^ f.mb + frac ≠ 0 := by omega
  have hlog : Nat.log2 (2 ^ f.mb + frac) = f.mb := (Nat.log2_eq_iff hne).2 ⟨by omega, by rw [Nat.pow_succ]; omega⟩
  have hexp : (f.mb : Int) + (f.qmin + (ex - 1 : Nat)) = ex - f.bias := by rw [Fmt.qmin]; omega
  rw [roundFin_of_unit hne (by rw [hlog, hexp]; exact htop) (by rw [hlog]; omega) fun h => hmax (by omega)]
  have hunits : (f.qmin + (ex - 1 : Nat) - f.qmin).toNat = ex - 1 := by omega
  have hlead : (ex - 1) * 2 ^ f.mb + 2 ^ f.mb = ex * 2 ^ f.mb := by
    rw [← Nat.succ_mul, Nat.succ_eq_add_one, Nat.sub_add_cancel (Nat.pos_of_ne_zero hex)]
  rw [hunits, ← hlead, ← Nat.add_assoc, ← Nat.add_assoc]

/-- A code is its sign, its exponent field and its fraction. -/
theorem sign_exponent_fraction (f : Fmt) {x : Nat} (hx : x < 2 ^ (1 + f.eb + f.mb)) :
    f.sign (decide (x / 2 ^ (f.eb + f.mb) % 2 = 1)) + x / 2 ^ f.mb % 2 ^ f.eb * 2 ^ f.mb + x % 2 ^ f.mb = x := by
  have hsign : f.sign (decide (x / 2 ^ (f.eb + f.mb) % 2 = 1)) = x / 2 ^ (f.eb + f.mb) * 2 ^ (f.eb + f.mb) := by
    have hlt : x / 2 ^ (f.eb + f.mb) < 2 :=
      Nat.div_lt_of_lt_mul (by rwa [← Nat.pow_succ, Nat.succ_eq_one_add, ← Nat.add_assoc])
    generalize x / 2 ^ (f.eb + f.mb) = k at hlt
    obtain rfl | rfl : k = 0 ∨ k = 1 := by omega
    · simp [Fmt.sign]
    · simp [Fmt.sign]
  calc _ = (x / 2 ^ f.mb / 2 ^ f.eb * 2 ^ f.eb + x / 2 ^ f.mb % 2 ^ f.eb) * 2 ^ f.mb + x % 2 ^ f.mb := by
        rw [hsign, Nat.add_comm f.eb, Nat.pow_add, Nat.div_div_eq_div_mul, Nat.mul_comm (2 ^ f.mb) (2 ^ f.eb), Nat.add_mul,
          Nat.mul_assoc]
    _ = x := by rw [Nat.div_add_mod', Nat.div_add_mod']

/-- A code whose value is finite is not special, and its value is that of its fields. -/
theorem decode_of_isFin {f : Fmt} {x : Nat} (h : (f.decode x).isFin = true) :
    ¬ (f.top = .ieee ∧ x / 2 ^ f.mb % 2 ^ f.eb = 2 ^ f.eb - 1) ∧
    ¬ (f.top = .e4m3 ∧ x / 2 ^ f.mb % 2 ^ f.eb = 15 ∧ x % 2 ^ f.mb = 7) ∧
    f.decode x =
      if x / 2 ^ f.mb % 2 ^ f.eb = 0 then .fin (decide (x / 2 ^ (f.eb + f.mb) % 2 = 1)) (x % 2 ^ f.mb) f.qmin
      else .fin (decide (x / 2 ^ (f.eb + f.mb) % 2 = 1)) (2 ^ f.mb + x % 2 ^ f.mb)
        (f.qmin + (x / 2 ^ f.mb % 2 ^ f.eb - 1 : Nat)) := by
  unfold Fmt.decode at h ⊢
  dsimp only at h ⊢
  by_cases hieee : f.top = .ieee ∧ x / 2 ^ f.mb % 2 ^ f.eb = 2 ^ f.eb - 1
  · rw [if_pos hieee] at h
    split at h <;> simp [Machine.Num.isFin] at h
  by_cases he4m3 : f.top = .e4m3 ∧ x / 2 ^ f.mb % 2 ^ f.eb = 15 ∧ x % 2 ^ f.mb = 7
  · rw [if_neg hieee, if_pos he4m3] at h
    simp [Machine.Num.isFin] at h
  exact ⟨hieee, he4m3, by rw [if_neg hieee, if_neg he4m3]⟩

theorem roundingKeepsCodes : Claims.RoundingKeepsCodes := by
  intro f md sat w x hmem hx hfin
  have hf := representsCodes_of_mem hmem
  have hfrac : x % 2 ^ f.mb < 2 ^ f.mb := Nat.mod_lt _ (Nat.two_pow_pos _)
  have hcode := sign_exponent_fraction f hx
  obtain ⟨hieee, he4m3, hdecode⟩ := decode_of_isFin hfin
  rw [hdecode]
  by_cases hex : x / 2 ^ f.mb % 2 ^ f.eb = 0
  · rw [hex, Nat.zero_mul, Nat.add_zero] at hcode
    rw [if_pos hex, Machine.Num.round, roundFin_subnormal hf md sat _ w hfrac, hcode]
  · obtain ⟨htop, hmax⟩ := hf.normal _ _ (Nat.mod_lt _ (Nat.two_pow_pos _)) hfrac hieee he4m3
    rw [if_neg hex, Machine.Num.round, roundFin_normal md sat _ w hex hfrac htop hmax, hcode]

/-! ### The FP64 forms (R110, R111) -/

theorem givesFp_of_fpReg {mk : Bool → BitVec 5 → BitVec 5 → BitVec 5 → Instr} {em : Bool}
    {f : Machine.Num → Machine.Num → Machine.Num × FFlags}
    (hexec : ∀ w d a b s, exec (mk w d a b) s = settle 1 (fpReg em f w d a b s)) : GivesFp mk em f :=
  fun w d a b s hfull => issues_of_ready (hexec w d a b s) hfull rfl

theorem givesFp1_of_fpOne {mk : Bool → BitVec 5 → BitVec 5 → Instr} {em : Bool} {f : Machine.Num → Machine.Num × FFlags}
    (hexec : ∀ w d a s, exec (mk w d a) s = settle 1 (fpOne em f w d a s)) : GivesFp1 mk em f :=
  fun w d a s hfull => issues_of_ready (hexec w d a s) hfull rfl

/-- A conversion in a mode other than RSTO draws no word. -/
theorem drawFor_of_lt (s : State) {m : BitVec 3} (hm : m.toNat < 4) : s.drawFor m = (0, s) :=
  if_neg fun h => by subst h; exact absurd hm (by decide)

theorem fp64Results : Claims.Fp64Results := by
  refine ⟨?fadd, ?fsub, ?fmul, ?fdiv, ?fmin, ?fmax, ?fsqrt, ?fabs, ?fneg, ?ffma, ?fcvtid, ?fcvtdi, ?rsto, ?fcmp⟩
  case ffma => exact fun w d a b c s hfull => issues_of_ready rfl hfull rfl
  case fcvtid => exact fun w d a m s hfull hm => issues_of_ready rfl hfull (by rw [drawFor_of_lt s hm])
  case fcvtdi => exact fun w d a m s hfull hm => issues_of_ready rfl hfull (by rw [drawFor_of_lt s hm]; rfl)
  case rsto => exact fun w d a s hfull => ⟨issues_of_ready rfl hfull rfl, issues_of_ready rfl hfull rfl⟩
  case fcmp => exact fun w p a b m s hfull _ => issues_of_ready rfl hfull rfl
  case fsqrt => exact givesFp1_of_fpOne fun _ _ _ _ => rfl
  case fabs => exact givesFp1_of_fpOne fun _ _ _ _ => rfl
  case fneg => exact givesFp1_of_fpOne fun _ _ _ _ => rfl
  all_goals exact givesFp_of_fpReg fun _ _ _ _ _ => rfl

/-! ### Special operands (R27, R30, R110, R111) -/

/-- x − x is +0 (R27). -/
theorem add_neg_self {m : Nat} (s : Bool) (e : Int) (hm : m ≠ 0) :
    Machine.Num.add (.fin s m e) (.fin (!s) m e) = (.fin false 0 e, 0) := by
  have hcancel : signedAt s m e e + signedAt (!s) m e e = 0 := by
    cases s
    · exact Int.add_right_neg _
    · exact Int.add_left_neg _
  simp [Machine.Num.add, hm, hcancel]

/-- ∞ · 0 is invalid. -/
theorem mul_inf_zero (s t : Bool) (e : Int) : Machine.Num.mul (.inf s) (.fin t 0 e) = (.nan false, flagNV) := by
  simp [Machine.Num.mul]

theorem mul_zero_inf (s t : Bool) (e : Int) : Machine.Num.mul (.fin t 0 e) (.inf s) = (.nan false, flagNV) := by
  simp [Machine.Num.mul]

/-- An invalid product sets NV whatever NaN is added to it (R111). -/
theorem fma_of_invalid_mul {a b : Machine.Num} (h : a.mul b = (.nan false, flagNV)) (q : Bool) :
    Machine.Num.fma a b (.nan q) = (.nan false, flagNV) := by
  rw [Machine.Num.fma, h]
  cases q <;> rfl

/-- A compare with a NaN holds for "not equal" only (R30). -/
theorem rel_of_nan {r : Rel} {a b : Machine.Num} (h : (a.isNan || b.isNan) = true) :
    (Machine.Num.rel r a b).1 = (r == .ne) := by
  rw [Machine.Num.rel, if_pos h]

theorem fp64Specials : Claims.Fp64Specials := by
  refine ⟨fun s t m n e g hm => ⟨?_, ?_, ?_, ?_, ?_, ?_, ?_, ?_, ?_, ?_⟩, fun s t => ⟨rfl, ?_⟩, fun r q x => ⟨?_, ?_⟩⟩
  · simp [Machine.Num.div, hm]
  · simp [Machine.Num.div]
  · simp [Machine.Num.sqrt, hm]
  · simp [Machine.Num.sqrt, hm]
  · rfl
  · rw [add_neg_self s e hm]; rfl
  · rw [fma_of_invalid_mul (mul_inf_zero s t g)]
  · rw [fma_of_invalid_mul (mul_inf_zero s t g)]
  · exact fma_of_invalid_mul (mul_zero_inf s t g)
  · rw [Machine.Num.mul]; split <;> rfl
  · rfl
  · exact rel_of_nan rfl
  · exact rel_of_nan (by simp [Machine.Num.isNan])

/-- Settles O9: each form rounds once the exact result of its operands, and a finite code is already a rounded value. -/
theorem fp64Arithmetic : Obligations.Fp64Arithmetic := ⟨fp64Results, fp64Specials, roundingKeepsCodes⟩

/-! ### Atomics (R116 to R118, R208) -/

/-- An access that InPool describes finds its target in the pool. -/
theorem scalarTarget_of_inPool {s : State} {h : BitVec 4} {off : Int} {size p : Nat} {u : Use}
    (hp : InPool s h off size p u.reads u.writes) : s.scalarTarget h.toNat off size u = .ok (.pool p) s := by
  obtain ⟨hkind, hr, hw, hoff, hlimit, haddr, halign, hlow, hhigh⟩ := hp
  exact scalarTarget_pool hkind hr hw hoff hlimit haddr halign (by simp [Core.inScratch, hlow, hhigh])

/-- An atomic whose handle, checks and translation find a target is performed there. -/
theorem atomicForm_of_target {op : Nat} {d : BitVec 5} {h : BitVec 4} {a : BitVec 5} {x y : Word} {s t : State}
    {tgt : Target} (ht : s.scalarTarget h.toNat (s.core.g a.toNat).toInt 8 .atomic = .ok tgt t) :
    atomicForm op d h a x y s =
      (t.atomicOn tgt op x y).bind fun old s => (s.deliverAtomic d.toNat tgt old op x y).ok := by
  rw [atomicForm, ht]; rfl

/-- The function codes that a host page takes (R118): ADD, SWAP and CAS. -/
def takenByHost (op : Nat) : Bool := op == 0 || op == 8 || op == 9

/-- At a page that takes the function the atomic goes to the home: performed in place on this package, or left to the
package that is the home. -/
theorem atomicOn_mem {t : State} {pa leaf va op : Nat} {x y : Word}
    (hleaf : leafClass leaf ≠ 4 ∨ takenByHost op = true) :
    t.atomicOn (.mem pa leaf va) op x y =
      let u := (t.evictLine pa).spoil pa 8
      if u.remote pa then .ok 0 u
      else .ok (w64 (leNat (u.homeBytes pa 8)))
        (u.storeMem (u.key pa) (leBytes 8 (amoOp op (w64 (leNat (u.homeBytes pa 8))) x y).toNat)) := by
  have hnot : ¬ (leafClass leaf = 4 ∧ op ≠ 0 ∧ op ≠ 8 ∧ op ≠ 9) := by
    simp only [takenByHost, Bool.or_eq_true, beq_iff_eq] at hleaf
    omega
  simp only [State.atomicOn, if_neg hnot]
  rfl

/-- A host page refuses the other functions. -/
theorem atomicOn_host {t : State} {pa leaf va op : Nat} {x y : Word} (hleaf : leafClass leaf = 4)
    (hop : takenByHost op = false) : t.atomicOn (.mem pa leaf va) op x y = t.raise cAtomicHost := by
  simp only [takenByHost, Bool.or_eq_false_iff, beq_eq_false_iff_ne] at hop
  obtain ⟨⟨h0, h8⟩, h9⟩ := hop
  exact if_pos ⟨hleaf, h0, h8, h9⟩

/-- The result of an atomic at a home of this package. -/
theorem deliverAtomic_mem_here {s : State} {g op pa leaf va : Nat} {old x y : Word} (h : s.remote pa = false) :
    s.deliverAtomic g (.mem pa leaf va) old op x y =
      (s.emptyG g).awaits { dst := [.g (s.core.phys g) old true], host := decide (paSpace pa = 1) } := by
  simp only [State.deliverAtomic, h]
  rfl

/-- The result of an atomic whose home is another package. -/
theorem deliverAtomic_mem_away {s : State} {g op pa leaf va : Nat} {old x y : Word} (h : s.remote pa = true) :
    s.deliverAtomic g (.mem pa leaf va) old op x y =
      s.deliverAway g 8 false 0 (paPkg pa) { tag := 0, off := 0, len := 8 }
        fun tag => .atomic pa op tag s.fab.pkg x y := if_pos h

/-- The registers that an atomic names. -/
def atomicRegs (more : Bool) (a d : BitVec 5) : List (BitVec 5) := if more then [a, d, d + 1] else [a, d]

/-- The second operand of an atomic: CAS has one. -/
def atomicOperand (more : Bool) (d : BitVec 5) (s : State) : Word := if more then s.core.g (d.toNat + 1) else 0

/-- An instruction that performs function `op` on its registers is the atomic of the function that `amoOp` computes. -/
theorem atomic_of_form {mk : Bool → BitVec 5 → BitVec 4 → BitVec 5 → BitVec 4 → BitVec 2 → Instr} {op : Nat} {more : Bool}
    {f : Word → Word → Word → Word} {host : Bool}
    (hexec : ∀ w d h a c z s, exec (mk w d h a c z) s = settle 1 (s.ready w (atomicRegs more a d) fun s =>
      atomicForm op d h a (s.core.g d.toNat) (atomicOperand more d s) s))
    (hf : ∀ old x y, amoOp op old x y = f old x y) (hhost : takenByHost op = host) : Atomic mk op more f host := by
  subst hhost
  intro w d h a c z s hfull x y
  refine ⟨fun p hp => ?_, fun t pa leaf va ht => ⟨fun hleaf => ⟨fun hhere => ?_, fun haway => ?_⟩, fun hhost => ?_⟩⟩
  · refine issues_of_ready (hexec ..) hfull ?_
    rw [atomicForm_of_target (scalarTarget_of_inPool hp), ← hf]
    rfl
  · refine issues_of_ready (hexec ..) hfull ?_
    rw [atomicForm_of_target ht, atomicOn_mem hleaf, if_neg (by rw [hhere]; simp), Act.bind_ok, hf]
    exact congrArg State.ok (deliverAtomic_mem_here hhere)
  · refine issues_of_ready (hexec ..) hfull ?_
    rw [atomicForm_of_target ht, atomicOn_mem hleaf, if_pos haway, Act.bind_ok, deliverAtomic_mem_away haway]
    rfl
  · rw [hexec, atomicRegs, ready_full hfull, atomicForm_of_target ht, atomicOn_host hhost.1 hhost.2]
    rfl

/-- Settles O14, by what an atomic does at each place that its target may be. -/
theorem atomicResults : Obligations.AtomicResults :=
  ⟨atomic_of_form (fun _ _ _ _ _ _ _ => rfl) (fun _ _ _ => rfl) rfl,
    atomic_of_form (fun _ _ _ _ _ _ _ => rfl) (fun _ _ _ => rfl) rfl,
    atomic_of_form (fun _ _ _ _ _ _ _ => rfl) (fun _ _ _ => rfl) rfl,
    atomic_of_form (fun _ _ _ _ _ _ _ => rfl) (fun _ _ _ => rfl) rfl,
    atomic_of_form (fun _ _ _ _ _ _ _ => rfl) (fun _ _ _ => ite_slt_eq_ite_ge _ _ _ _) rfl,
    atomic_of_form (fun _ _ _ _ _ _ _ => rfl) (fun _ _ _ => ite_slt_eq_ite_le Eq.symm) rfl,
    atomic_of_form (fun _ _ _ _ _ _ _ => rfl) (fun _ _ _ => ite_ult_eq_ite_ge _ _ _ _) rfl,
    atomic_of_form (fun _ _ _ _ _ _ _ => rfl) (fun _ _ _ => ite_ult_eq_ite_le Eq.symm) rfl,
    atomic_of_form (fun _ _ _ _ _ _ _ => rfl) (fun _ _ _ => rfl) rfl,
    atomic_of_form (fun _ _ _ _ _ _ _ => rfl) (fun _ _ _ => rfl) rfl⟩

end Sys2Proof.Proofs
end

section
/-! SUPPORT. Proofs of the statements about the vector instructions: modes, scalar operands, stochastic draws. -/

namespace Sys2Proof.Proofs

open Sys2Proof.Machine Sys2Proof.Claims

/-! ### How a vector instruction issues (R57, R63, R71, R124, R256) -/

theorem firstEmptyV_eq_none {c : Core} {rs : List Nat} : c.firstEmptyV rs = none ↔ ∀ r ∈ rs, r ∉ c.vec.empty := by
  simp [Core.firstEmptyV]

theorem firstBad_eq_none {c : Core} {rs : List Nat} :
    c.firstBad rs = none ↔ ∀ r ∈ rs, (Sparse.get (0, 0, 0, 0) c.vec.bad r).1 = 0 := by
  simp [Core.firstBad]

/-- A V-slot instruction that nothing holds or traps goes on. -/
theorem vready_of_ready {α : Type} {s : State} {e : BitVec 1} {w : Bool} {gs : List (BitVec 5)} {src dst : List Nat}
    {k : State → Act α} (h : VReady s e gs src dst) : s.vready e w gs src dst k = k s := by
  obtain ⟨hfree, hfull, hregs, hgood⟩ := h
  have hg : s.core.firstEmptyG gs = none := firstEmptyG_eq_none.2 hfull
  have hv : s.core.firstEmptyV ((src ++ dst).map s.core.vphys) = none :=
    firstEmptyV_eq_none.2 (List.forall_mem_map.2 fun v hv => (hregs v hv).2)
  have hb : s.core.firstBad (src.map s.core.vphys) = none := firstBad_eq_none.2 (List.forall_mem_map.2 hgood)
  have hn : (src ++ dst).any (fun v => decide (159 < v)) = false :=
    List.any_eq_false.2 fun v hv => by simpa using Nat.le_of_lt_succ (hregs v hv).1
  simp only [State.vready, hg, hv, hb, hn, ite_self, if_neg (Nat.not_lt.2 hfree), Bool.false_eq_true, if_false]

/-- A vector form that nothing holds or traps issues into what its effect leaves. -/
theorem issues_of_vready {i : Instr} {n : Nat} {e : BitVec 1} {w : Bool} {gs : List (BitVec 5)} {src dst : List Nat}
    {f : State → Res} {s t : State} (hexec : exec i s = settle n (s.vready e w gs src dst f))
    (h : VReady s e gs src dst) (hf : f s = t.ok) : Issues i s t :=
  issues_of_settle hexec ((vready_of_ready h).trans hf)

/-! ### Engines -/

@[simp] theorem engine_onEngine_same (s : State) (e : Nat) (f : VEngine → VEngine) :
    (s.onVec fun v => v.onEngine e f).core.engine e = f (s.core.engine e) := by
  by_cases h : e = 0 <;> simp [Core.engine, Vec.onEngine, h]

theorem engine_onEngine_other (s : State) (f : VEngine → VEngine) {e : Nat} (he : e < 2) :
    (s.onVec fun v => v.onEngine e f).core.engine (1 - e) = s.core.engine (1 - e) := by
  obtain rfl | rfl : e = 0 ∨ e = 1 := by omega
  · rfl
  · rfl

@[simp] theorem onEngine_v (x : Vec) (e : Nat) (f : VEngine → VEngine) : (x.onEngine e f).v = x.v := by
  rw [Vec.onEngine]; split <;> rfl

/-! ### VSETM and writes of VMODE (R126, R128) -/

theorem vectorMode : Claims.VectorMode := by
  refine ⟨fun e w ty m z b s h => ?_, fun x v => ⟨?_, ?_, ?_⟩⟩
  · have he : e.toNat < 2 := e.isLt
    refine ⟨_, issues_of_vready rfl h rfl, rfl, ?type, ?rm, ?sat, ?vl, ?fl, ?k4t, ?busy, ?other, ?regs⟩
    case other => rw [engine_onEngine_other _ _ he, State.occupy, engine_onEngine_other _ _ he]
    case regs => simp only [State.onVec_core_vec, State.occupy, onEngine_v]
    all_goals simp only [engine_onEngine_same, State.occupy, maxVl]
  · simp [VEngine.write, bits]
  · rfl
  · simp [VEngine.write, bits, maxVl]

/-! ### The elements of a vector register (R125) -/

@[simp] theorem length_elemsOf (w : Nat) (bs : List Byte) (n : Nat) : (elemsOf w bs n).length = n := by
  induction n generalizing bs with
  | zero => rfl
  | succ n ih => rw [elemsOf, List.length_cons, ih]

@[simp] theorem length_elems (s : State) (v w n : Nat) : (s.elems v w n).length = n := length_elemsOf ..

theorem elemsOf_getElem? (w : Nat) (bs : List Byte) {n j : Nat} (hj : j < n) :
    (elemsOf w bs n)[j]? = some (leNat ((bs.drop (w * j)).take w)) := by
  induction n generalizing bs j with
  | zero => exact absurd hj (Nat.not_lt_zero j)
  | succ n ih =>
    cases j with
    | zero => rfl
    | succ j =>
      rw [elemsOf, List.getElem?_cons_succ, ih _ (Nat.lt_of_succ_lt_succ hj), List.drop_drop, Nat.mul_succ, Nat.add_comm]

/-- Some of the bytes of a register. -/
theorem take_drop_vbytes (c : Core) (r : Nat) {off w n : Nat} (h : off + w ≤ n) :
    ((c.vbytes r 0 n).drop off).take w = c.vbytes r off w := by
  apply List.ext_getElem
  · simp only [Core.vbytes, Sparse.read, List.length_take, List.length_drop, List.length_map, List.length_range]
    omega
  · intro i _ _
    simp [Core.vbytes, Sparse.read, Nat.add_assoc]

theorem elems_getElem? (s : State) (v w : Nat) {n j : Nat} (hj : j < n) :
    (s.elems v w n)[j]? = some (elem s v w j) := by
  have hin : w * j + w ≤ w * n := Nat.mul_le_mul_left w hj
  rw [State.elems, elemsOf_getElem? w _ hj, take_drop_vbytes _ _ hin]; rfl

/-! ### Draws (R35, R36) -/

theorem drawV_fst (s : State) (e : Nat) : (s.drawV e).1 = drawWord (if e = 0 then s.core.vec.vrs0 else s.core.vec.vrs1) := by
  rw [State.drawV]; split <;> rfl

theorem drawV_snd (s : State) (e : Nat) : (s.drawV e).2 = s.onVec fun v =>
    if e = 0 then { v with vrs0 := drawWord v.vrs0 } else { v with vrs1 := drawWord v.vrs1 } := by
  rw [State.drawV]; split <;> rfl

/-- A draw changes no element. -/
theorem elems_drawV (s : State) (e v w n : Nat) : (s.drawV e).2.elems v w n = s.elems v w n := by
  rw [State.drawV]; split <;> rfl

theorem drawsV_zero (s : State) (e : Nat) : s.drawsV e 0 = ([], s) := by
  rw [State.drawsV]; split <;> rfl

theorem drawsV_succ (s : State) (e n : Nat) :
    s.drawsV e (n + 1) = ((s.drawV e).1 :: ((s.drawV e).2.drawsV e n).1, ((s.drawV e).2.drawsV e n).2) := by
  by_cases h : e = 0
  · simp only [State.drawsV, State.drawV, h, if_true]; rfl
  · simp only [State.drawsV, State.drawV, h, if_false]; rfl

/-! ### Rounding to an integer by a drawn word (R34) -/

/-- D and the word decide for every value: an exact one has D = 0, and the word alone falls short of 2^32. -/
theorem roundsUp_rsto (neg : Bool) (lo r sh : Nat) {w : Nat} (hw : w < 2 ^ 32) :
    roundsUp .rsto neg lo r sh w = decide (2 ^ 32 ≤ r * 2 ^ 32 / 2 ^ sh + w) := by
  rw [roundsUp]
  split
  · next h => simpa [h] using hw
  · rfl

/-- Below 2^−39 of a unit, D is 0. -/
theorem shifted_eq_zero {m k : Nat} (h : Nat.log2 m + 40 ≤ k) : m * 2 ^ 32 / 2 ^ k = 0 := by
  have hm : m < 2 ^ (Nat.log2 m + 1) := Nat.lt_log2_self
  have hle : 2 ^ (Nat.log2 m + 1) * 2 ^ 32 ≤ 2 ^ k := by
    rw [← Nat.pow_add]; exact Nat.pow_le_pow_right (by decide) (by omega)
  exact Nat.div_eq_of_lt (Nat.lt_of_lt_of_le (Nat.mul_lt_mul_of_pos_right hm (by decide)) hle)

/-- m · 2^−k rounded under RSTO: the integer below, or the next where D and the word reach 2^32. -/
theorem toUnits_rsto (neg : Bool) (m k : Nat) {w : Nat} (hw : w < 2 ^ 32) :
    (toUnits .rsto neg m (-k) 0 w).1 = m / 2 ^ k + if 2 ^ 32 ≤ m % 2 ^ k * 2 ^ 32 / 2 ^ k + w then 1 else 0 := by
  rcases Nat.eq_zero_or_pos k with rfl | hk
  · rw [toUnits_of_le (by simp)]
    simpa [Nat.mod_one] using hw
  have hsh : (0 - (-(k : Int))).toNat = k := by omega
  rw [Machine.toUnits, if_neg (by omega : ¬ (0 : Int) ≤ -(k : Int)), hsh]
  simp only [roundsUp_rsto neg _ _ _ hw, decide_eq_true_eq]
  rcases Nat.le_total k (Nat.log2 m + 40) with hle | hge
  · rw [Nat.min_eq_left hle]
  · have hm : ∀ {n}, Nat.log2 m + 40 ≤ n → m < 2 ^ n := fun h =>
      Nat.lt_of_lt_of_le Nat.lt_log2_self (Nat.pow_le_pow_right (by decide) (by omega))
    rw [Nat.min_eq_right hge, Nat.div_eq_of_lt (hm (Nat.le_refl _)), Nat.div_eq_of_lt (hm hge), Nat.mod_eq_of_lt (hm (Nat.le_refl _)),
      Nat.mod_eq_of_lt (hm hge), shifted_eq_zero (Nat.le_refl _), shifted_eq_zero hge]

/-- Conversion to an integer gives the rounded magnitude. -/
theorem toInt_fin_false (md : RMode) (w m : Nat) (e : Int) (hm : m ≠ 0) :
    (Machine.Num.toInt md w false m e).1 = (toUnits md false m e 0 w).1 := by
  simp [Machine.Num.toInt, hm]

/-- A positive value that is in range when rounded converts to what it rounds to. -/
theorem toIntN_of_lt {md : RMode} {w m : Nat} {e : Int} (hm : m ≠ 0) (hlog : (Nat.log2 m : Int) + e ≤ 64)
    (hlt : (toUnits md false m e 0 w).1 < 2 ^ 63) :
    ((Machine.Num.fin false m e).toIntN 64 md w).1 = ((toUnits md false m e 0 w).1 : Int) := by
  have hi := toInt_fin_false md w m e hm
  rw [Machine.Num.toIntN, if_neg fun h => Int.not_lt.2 hlog h.2]
  dsimp only
  rw [hi, if_neg (by omega), if_neg (by omega)]

theorem toIntN_rsto {m k w : Nat} (hw : w < 2 ^ 32) (hm : m / 2 ^ k < 2 ^ 62) :
    ((Machine.Num.fin false m (-k)).toIntN 64 .rsto w).1 =
      (m / 2 ^ k : Nat) + (if 2 ^ 32 ≤ m % 2 ^ k * 2 ^ 32 / 2 ^ k + w then 1 else 0) := by
  rcases Nat.eq_zero_or_pos m with rfl | hpos
  · simpa [Machine.Num.toIntN, Machine.Num.toInt] using hw
  have hne : m ≠ 0 := Nat.pos_iff_ne_zero.1 hpos
  have hlog : Nat.log2 m < 62 + k := by
    rw [Nat.log2_lt hne, Nat.pow_add]
    exact (Nat.div_lt_iff_lt_mul (Nat.two_pow_pos k)).1 hm
  have hunits := toUnits_rsto false m k hw
  rw [toIntN_of_lt hne (by omega) (by rw [hunits]; split <;> omega), hunits]
  split
  · exact Int.natCast_add ..
  · exact Int.natCast_add ..

theorem stochasticDraws : Claims.StochasticDraws := by
  refine ⟨fun s e _ => ⟨drawV_fst s e, ?_⟩, fun s e n _ => ?_, drawsV_zero, fun m k w => toIntN_rsto⟩
  · rw [drawV_snd]; rfl
  · rw [drawsV_succ]; exact ⟨rfl, rfl⟩

/-! ### The scalar operand (R31, R132) -/

/-- Between its bounds a value is clamped to the nearest. -/
theorem clamp_eq_max_min {x lo hi : Int} (h : lo ≤ hi) : clamp x lo hi = max lo (min hi x) := by
  unfold clamp
  split
  · omega
  · split <;> omega

/-- To an integer type the operand is wrapped, or under SAT is the nearest value that the type holds. -/
theorem scalarOperand_of_integer {s : State} {e : BitVec 1} (b : BitVec 5)
    (h : typeFmt (s.core.engine e.toNat).type = none) :
    let m := s.core.engine e.toNat
    let n := 8 * typeBytes m.type
    s.scalarOperand e b =
      ((((if m.sat then max (-(2 ^ (n - 1))) (min (2 ^ (n - 1) - 1) (s.core.g b.toNat).toInt)
        else (s.core.g b.toNat).toInt) % 2 ^ n).toNat, 0), s) := by
  intro m n
  have hpos : (0 : Int) < 2 ^ (n - 1) := Int.pow_pos (by decide)
  rw [← clamp_eq_max_min (by omega), State.scalarOperand, show typeFmt (s.mode e).type = none from h]
  rfl

/-- To a floating type the operand is rounded by VMODE, under RSTO with a word drawn for it. -/
theorem scalarOperand_of_float {s : State} {e : BitVec 1} (b : BitVec 5) {f : Fmt}
    (h : typeFmt (s.core.engine e.toNat).type = some f) :
    s.scalarOperand e b =
      (let m := s.core.engine e.toNat
      let r := if RMode.ofCode m.rm = .rsto then s.drawV e.toNat else (0, s)
      ((fp64.decode (s.gn b)).convert f (RMode.ofCode m.rm) m.sat r.1, r.2)) := by
  rw [State.scalarOperand, show typeFmt (s.mode e).type = some f from h]
  rfl

/-- Converting the operand changes no element: it draws a word or leaves the state as it is. -/
theorem elems_scalarOperand (s : State) (e : BitVec 1) (b : BitVec 5) (v w n : Nat) :
    (s.scalarOperand e b).2.elems v w n = s.elems v w n := by
  cases h : typeFmt (s.core.engine e.toNat).type with
  | none => rw [scalarOperand_of_integer b h]
  | some f =>
    rw [scalarOperand_of_float b h]
    dsimp only
    split
    · exact elems_drawV ..
    · rfl

/-! ### Integer results modulo the width (R31) -/

/-- The two's complement reading is the number itself modulo 2^n. -/
theorem signedOf_emod (n x : Nat) : signedOf n x % 2 ^ n = (x : Int) % 2 ^ n := by
  rw [signedOf_eq_toInt, BitVec.toInt_ofNat']
  exact_mod_cast Int.bmod_emod

theorem wrapTo_add (n a b : Nat) : wrapTo n (signedOf n a + signedOf n b) = (a + b) % 2 ^ n := by
  rw [wrapTo, Int.add_emod, signedOf_emod, signedOf_emod, ← Int.add_emod]
  norm_cast

theorem wrapTo_mul (n a b : Nat) : wrapTo n (signedOf n a * signedOf n b) = (a * b) % 2 ^ n := by
  rw [wrapTo, Int.mul_emod, signedOf_emod, signedOf_emod, ← Int.mul_emod]
  norm_cast

/-- An operation of a floating type rounds its exact result. -/
theorem onType_arith_of_float {t : Nat} {f : Fmt} (h : typeFmt t = some f)
    (fl : Machine.Num → Machine.Num → Machine.Num → Machine.Num × FFlags) (int : Option (Nat → Int → Int → Int → Int))
    (a b : Nat) : onType (arith fl int) t a b = rounded f (fl (f.decode a) (f.decode b) (f.decode 0)) := by
  simp only [onType, arith, h]; rfl

/-- An operation of an integer type wraps. -/
theorem onType_arith_of_integer {t : Nat} (h : typeFmt t = none)
    (fl : Machine.Num → Machine.Num → Machine.Num → Machine.Num × FFlags) (g : Nat → Int → Int → Int → Int) (a b : Nat) :
    onType (arith fl (some g)) t a b =
      (wrapTo (8 * typeBytes t) (g (8 * typeBytes t) (signedOf (8 * typeBytes t) a) (signedOf (8 * typeBytes t) b)
        (signedOf (8 * typeBytes t) 0)), 0) := by
  simp only [onType, arith, h, Option.map_some]

theorem iotaElem_of_float {t : Nat} {f : Fmt} (h : typeFmt t = some f) (y k : Nat) :
    iotaElem t y k = rounded f ((f.decode y).add (.fin false k 0)) := by
  simp only [iotaElem, h]; rfl

theorem iotaElem_of_integer {t : Nat} (h : typeFmt t = none) (y k : Nat) :
    iotaElem t y k = ((y + k) % 2 ^ (8 * typeBytes t), 0) := by
  simp only [iotaElem, h]

/-! ### The scalar-operand forms (R132) -/

/-- Instruction `i` converts G[b] and gives VL elements to register `d`, the j-th being `f j` with its exception bits; the
conversion's own bits land with them. -/
def GivesByScalar (i : Instr) (s : State) (e : BitVec 1) (d : BitVec 8) (b : BitVec 5) (f : Nat → Nat × FFlags) : Prop :=
  let m := s.core.engine e.toNat
  let k := typeBytes m.type
  let r := s.scalarOperand e b
  ∃ rs : List (Nat × FFlags), rs.length = m.vl ∧ (∀ j < m.vl, rs[j]? = some (f j)) ∧
    Issues i s ((r.2.finish e (cyclesOf m.vl k false) d.toNat k rs).raiseFlags (3 + cyclesOf m.vl k false) e.toNat r.1.2)

/-- A scalar-operand form gives its operation of each element, S and the index. -/
theorem givesByScalar_of_vscalar_elem {i : Instr} {op : Nat → Nat → Nat → Nat → Nat × FFlags} {n : Nat} {e : BitVec 1}
    {w : Bool} {d a : BitVec 8} {b : BitVec 5} {s : State} {f : Nat → Nat × FFlags}
    (hexec : exec i s = settle n (vscalar op e w d [a] b s)) (h : VReady s e [b] [a.toNat] [d.toNat])
    (hf : ∀ j, op (s.core.engine e.toNat).type (elem s a.toNat (typeBytes (s.core.engine e.toNat).type) j)
      (s.scalarOperand e b).1.1 j = f j) : GivesByScalar i s e d b f := by
  refine ⟨_, ?_, fun j hj => ?_, issues_of_vready hexec h rfl⟩
  · simp [elems_scalarOperand, State.mode]
  · simp [elems_scalarOperand, State.mode, elems_getElem? s _ _ hj, hf]

/-- Without a vector operand it gives its operation of S and the index. -/
theorem givesByScalar_of_vscalar_index {i : Instr} {op : Nat → Nat → Nat → Nat → Nat × FFlags} {n : Nat} {e : BitVec 1}
    {w : Bool} {d : BitVec 8} {b : BitVec 5} {s : State} {f : Nat → Nat × FFlags}
    (hexec : exec i s = settle n (vscalar op e w d [] b s)) (h : VReady s e [b] [] [d.toNat])
    (hf : ∀ j, op (s.core.engine e.toNat).type 0 (s.scalarOperand e b).1.1 j = f j) : GivesByScalar i s e d b f := by
  refine ⟨_, ?_, fun j hj => ?_, issues_of_vready hexec h rfl⟩
  · simp [State.mode]
  · simp [State.mode, hj, hf]

theorem scalarOperandResults : Claims.ScalarOperandResults := by
  intro e w d a b s
  refine ⟨fun h => ⟨fun f hfmt => ⟨?_, ?_⟩, fun hint => ⟨?_, ?_⟩⟩, fun h => ⟨?_, fun f hfmt => ?_, fun hint => ?_⟩,
    fun hint => ?_, fun f hfmt hmode => ?_⟩
  · exact givesByScalar_of_vscalar_elem rfl h fun j => onType_arith_of_float hfmt ..
  · exact givesByScalar_of_vscalar_elem rfl h fun j => onType_arith_of_float hfmt ..
  · exact givesByScalar_of_vscalar_elem rfl h fun j => by rw [onType_arith_of_integer hint, wrapTo_add]
  · exact givesByScalar_of_vscalar_elem rfl h fun j => by rw [onType_arith_of_integer hint, wrapTo_mul]
  · exact givesByScalar_of_vscalar_index rfl h fun j => rfl
  · exact givesByScalar_of_vscalar_index rfl h fun j => iotaElem_of_float hfmt ..
  · exact givesByScalar_of_vscalar_index rfl h fun j => iotaElem_of_integer hint ..
  · exact scalarOperand_of_integer b hint
  · rw [scalarOperand_of_float b hfmt]
    dsimp only
    rw [if_neg hmode]

/-- Settles O18, by what VSETM writes, by the operation of each scalar-operand form, and by the word that a draw leaves. -/
theorem vectorModeAndScalarOperands : Obligations.VectorModeAndScalarOperands :=
  ⟨vectorMode, scalarOperandResults, stochasticDraws⟩

end Sys2Proof.Proofs
end
